-- ==== Sys2Proof/Word.lean ====
section
/-! DEFINITION. The machine's smallest words. The part numbers bits from the least significant one (R4). -/

namespace Sys2Proof

/-- A byte of a memory, a frame or a payload. -/
abbrev Byte := BitVec 8

/-- A sparse table from natural numbers (an address, an index, a dictionary location). Every key that the
list does not hold reads as the table's default. -/
abbrev SMap (α : Type) := List (Nat × α)

end Sys2Proof
end

