-- ==== Sys2Proof/Syntax.lean ====
section
/-! DEFINITION. The commands of the block: one constructor per row of spec/opcode_table.json, in the
table's order. No row of the table gives bits or operands; the operands here are what the rule of the row
needs from outside: the strand and its time at the instant (`At`), the requester and the value of a
dictionary write, the bytes of a frame or a block, or a measurement that a circuit of the part makes. -/

namespace Sys2Proof

/-- The four strands (R9). -/
inductive StrandId where
  | s0 | s1 | s2 | s3
  deriving DecidableEq, Repr

/-- Strand number 0 to 3. -/
def StrandId.num : StrandId → Nat
  | .s0 => 0 | .s1 => 1 | .s2 => 2 | .s3 => 3

/-- Strand of a number modulo 4. -/
def StrandId.ofNum (n : Nat) : StrandId :=
  match n % 4 with
  | 0 => .s0 | 1 => .s1 | 2 => .s2 | _ => .s3

/-- A strand and the strand's time at the instant of the command, in units of 2^-48 s (R302). -/
structure At where
  k : StrandId
  t : Nat
  deriving DecidableEq, Repr

/-- Requester classes of a dictionary access (R373, R378). -/
inductive Requester where
  /-- The host PF of the strand. -/
  | host
  /-- PF4, for package entries. -/
  | pf4
  /-- A Lanyard requester: the triple of R356. -/
  | lyd (ext : Bool) (dev : Nat) (strand : Nat)
  /-- The debug port. -/
  | dbg
  deriving DecidableEq, Repr

/-- The memories of a cell that SELECT names (R185), and the total file, which the scrubber reads too (R32, R71). -/
inductive CellMem where
  | stagingA | stagingB | coefficient | parameter | totals
  deriving DecidableEq, Repr

/-- What a read of a word by a scrubber finds (R32, R208). -/
inductive EccFind where
  | clean | corrected | uncorrectable
  deriving DecidableEq, Repr

/-- The cell that a run start names, by its physical number, and the repetitions after which it cuts short a step that
is still under way there (R38). -/
structure RunCell where
  p   : Nat
  cut : Nat
  deriving DecidableEq, Repr

/-- What a step meets by chance: failures of its residue check (R66) and words that ECC corrects (R32). -/
structure StepChance where
  resid : Nat
  soft  : Nat
  deriving DecidableEq, Repr

/-- A trigger input, 4 for VETO_N, and whether its pin is high (R242). -/
structure PinLevel where
  pin  : Nat
  high : Bool
  deriving DecidableEq, Repr

/-- A running-value record that a slot expects from a lane (R149): context, channel, channel-sample number. -/
structure UnitRef where
  ctx  : Nat
  chan : Nat
  samp : Nat
  deriving DecidableEq, Repr

/-- What the schedule's slot times fix for a braid transfer and the manual gives no field for: where its words land in
a cell, the input that a word for a corner turn belongs to, and the records that a slot of a lane expects, in order. -/
structure Landing where
  mem   : CellMem
  addr  : Nat
  input : Nat
  units : List UnitRef
  deriving DecidableEq, Repr

/-- An output of the queues: OUT_KIND 0 LANE, 1 ETH_FLOW, 2 DMA, 3 HOST_READ, and OUT_ID (R223). -/
structure OutId where
  kind : Nat
  id   : Nat
  deriving DecidableEq, Repr

/-- How a received codeword decoded (R272). -/
inductive CwDecode where
  | ok | corrected (symbols : Nat) | uncorrectable
  deriving DecidableEq, Repr

/-- Data of a host memory read: the bytes, or a failed read (R331 HOST_ERROR). -/
inductive HostRead where
  | data (b : List Byte)
  | failed
  deriving DecidableEq, Repr

/-- A timestamped PTP exchange as the sage's servo sees it (R317). -/
structure PtpMsg where
  ptpTimescale : Bool
  clockClass   : Nat
  domain       : Nat
  timedOut     : Bool
  offsetPs     : Int
  deriving DecidableEq, Repr

/-- A Lanyard frame without its delimiters and CRC (R356). -/
structure LydFrame where
  type       : Nat
  resp       : Bool
  srcExt     : Bool
  allStrands : Bool
  dstDev     : Nat
  dstStrand  : Nat
  srcStrand  : Nat
  srcDev     : Nat
  seq        : Nat
  index      : Nat
  subindex   : Nat
  status     : Nat
  len        : Nat
  payload    : List Byte
  deriving DecidableEq, Repr

/-- The strap pins (R361, R421). -/
structure Straps where
  head : Bool
  tm   : Bool
  seg  : Nat
  deriving DecidableEq, Repr

/-- The highest current of a regulator over the last 10 s, in units of 0.1 A (R418). -/
structure Currents where
  peak : Nat
  deriving DecidableEq, Repr

/-- The four supply feeds (R416). -/
inductive Feed where
  | vinA | vinB | vioA | vioB
  deriving DecidableEq, Repr

/-- A command: one row of the opcode table each. -/
inductive Instr where
  /-- EPOCH_BOUNDARY (R13). -/
  | epochBoundary (w : At)
  /-- RUN_START (R36). -/
  | runStart (w : At) (r : RunCell)
  /-- KERNEL_STEP (R31). -/
  | kernelStep (w : At) (p : Nat) (luck : StepChance) (upset : List Nat)
  /-- CELL_SCRUB_READ (R32). -/
  | cellScrubRead (w : At) (p : Nat) (m : CellMem) (word : Nat) (found : EccFind)
  /-- WRITE (R185). -/
  | write (w : At) (p : Nat) (addr : Nat) (arg : Nat)
  /-- SELECT (R185). -/
  | select (w : At) (p : Nat) (addr : Nat)
  /-- FLAGS (R185). -/
  | flags (w : At) (p : Nat) (unit : Nat) (arg : Nat)
  /-- SET_BASE (R185). -/
  | setBase (w : At) (p : Nat) (unit : Nat) (arg : Nat)
  /-- SET_N0 (R185). -/
  | setN0 (w : At) (p : Nat) (unit : Nat) (arg : Nat)
  /-- COPY_BANK (R185). -/
  | copyBank (w : At) (p : Nat) (unit : Nat) (arg : Nat)
  /-- RUN_GATE (R185). -/
  | runGate (w : At) (p : Nat) (arg : Nat)
  /-- MIRROR (R185). -/
  | mirror (w : At) (p : Nat) (arg : Nat)
  /-- OWNERS (R185). -/
  | owners (w : At) (p : Nat)
  /-- MARGIN_READ (R65). -/
  | marginRead (w : At) (p : Nat) (margin : Int)
  /-- HEALTH_CLEAR (R65). -/
  | healthClear (w : At) (rq : Requester) (p : Nat) (v : Nat)
  /-- DBG_CAPTURE (R92). -/
  | dbgCapture (w : At) (rq : Requester) (v : Nat)
  /-- DEBUG_CAPTURE_TAKE (R92). -/
  | debugCaptureTake (w : At)
  /-- ACC_CNT_CLEAR (R93). -/
  | accCntClear (w : At) (rq : Requester) (v : Nat)
  /-- BEAT_INSTANCE_START (R194). -/
  | beatInstanceStart (w : At) (beat : Nat)
  /-- SLOT_TRANSFER (R200). -/
  | slotTransfer (w : At) (beat : Nat) (entry : Nat) (land : Landing)
  /-- BLOCK_ARRIVAL (R103). -/
  | blockArrival (w : At) (lane : Nat) (full : Bool) (bytes : List Byte)
  /-- WINDOW_CLOSE (R103). -/
  | windowClose (w : At) (stream : Nat) (blk : Nat)
  /-- INGEST_SLOT (R107). -/
  | ingestSlot (w : At) (stream : Nat) (blk : Nat) (memBad : Bool)
  /-- STREAM_DELAY (R119). -/
  | streamDelay (w : At) (rq : Requester) (stream : Nat) (v : Nat)
  /-- ING_CNT_CLEAR (R124). -/
  | ingCntClear (w : At) (rq : Requester) (v : Nat)
  /-- DELAY_LOAD (R135). -/
  | delayLoad (w : At) (rq : Requester) (cell : Nat) (bytes : List Byte)
  /-- WEIGHT_LOAD (R135). -/
  | weightLoad (w : At) (rq : Requester) (ctx : Nat) (bytes : List Byte)
  /-- LOAD_APPLY (R135). -/
  | loadApply (w : At)
  /-- DELAY_SWAP (R134). -/
  | delaySwap (w : At) (rq : Requester) (cell : Nat) (v : Nat)
  /-- WEIGHT_SWAP (R134). -/
  | weightSwap (w : At) (rq : Requester) (ctx : Nat) (v : Nat)
  /-- WEIGHT_HOT (R136). -/
  | weightHot (w : At) (rq : Requester) (ctx : Nat) (bytes : List Byte)
  /-- HOT_WRITE_APPLY (R136). -/
  | hotWriteApply (w : At) (cell : Nat)
  /-- CB_CNT_CLEAR (R152). -/
  | cbCntClear (w : At) (rq : Requester) (v : Nat)
  /-- PLAN_LOAD (R165). -/
  | planLoad (w : At) (rq : Requester) (bytes : List Byte)
  /-- PLAN_CHECK (R166). -/
  | planCheck (w : At) (rq : Requester) (v : Nat)
  /-- PLAN_CHECK_DONE (R167). -/
  | planCheckDone (w : At)
  /-- PLAN_COMMIT (R174). -/
  | planCommit (w : At) (rq : Requester) (v : Nat)
  /-- PLAN_CANCEL (R174). -/
  | planCancel (w : At) (rq : Requester) (v : Nat)
  /-- CUTOVER_END (R177). -/
  | cutoverEnd (w : At) (cell : Nat)
  /-- PLAN_HOT_PATCH (R184). -/
  | planHotPatch (w : At) (rq : Requester) (bytes : List Byte)
  /-- HOT_PATCH_APPLY (R184). -/
  | hotPatchApply (w : At)
  /-- SPLICE_REQUEST (R180). -/
  | spliceRequest (w : At) (rq : Requester) (v : Nat)
  /-- SPLICE_PREPARE_DONE (R181). -/
  | splicePrepareDone (w : At) (p : Nat) (fail : Bool)
  /-- SPLICE_TILE_COPY (R89). -/
  | spliceTileCopy (w : At) (p : Nat) (item : Nat)
  /-- SPLICE_RETIRE (R181). -/
  | spliceRetire (w : At) (p : Nat)
  /-- STORE_SCRUB (R208). -/
  | storeScrub (w : At) (word : Nat) (found : EccFind)
  /-- SOFT_REPAIR_SWITCH (R209). -/
  | softRepairSwitch (w : At)
  /-- OUTPUT_TURN (R224). -/
  | outputTurn (w : At) (out : OutId)
  /-- PACKET_TX_DONE (R218). -/
  | packetTxDone (w : At) (out : OutId)
  /-- QUEUE_STALL (R227). -/
  | queueStall (w : At) (out : OutId)
  /-- QUEUE_READ (R233). -/
  | queueRead (w : At) (rq : Requester)
  /-- SNAP_CAPTURE (R231). -/
  | snapCapture (w : At) (rq : Requester) (v : Nat)
  /-- SNAP_BLOCK_QUEUE (R232). -/
  | snapBlockQueue (w : At) (group : Nat) (stream : Nat) (blk : Nat)
  /-- BSQ_CNT_CLEAR (R233). -/
  | bsqCntClear (w : At) (rq : Requester) (v : Nat)
  /-- DETECTOR_EVENT (R237). -/
  | detectorEvent (w : At) (p : Nat) (rep : Nat) (blk : Nat) (n : Nat)
  /-- UNIT_HORIZON_ADVANCE (R246). -/
  | unitHorizonAdvance (w : At) (unit : Nat)
  /-- ACTION_ASSERT (R251). -/
  | actionAssert (w : At) (unit : Nat)
  /-- TRIG_OUT_PULSE_END (R251). -/
  | trigOutPulseEnd (w : At) (pin : Nat)
  /-- RAISE_EXPIRE (R253). -/
  | raiseExpire (w : At) (queue : Nat)
  /-- TRIG_IN_EDGE (R242). -/
  | trigInEdge (w : At) (e : PinLevel)
  /-- TRIG_IN_PULSE_END (R242). -/
  | trigInPulseEnd (w : At) (e : PinLevel)
  /-- TRIG_IN_DELIVER (R242). -/
  | trigInDeliver (w : At) (pin : Nat)
  /-- TRIG_IN_STUCK (R243). -/
  | trigInStuck (w : At) (pin : Nat)
  /-- TIN_UNMASK (R244). -/
  | tinUnmask (w : At) (rq : Requester) (pin : Nat) (v : Nat)
  /-- INPUT_UNMASK_APPLY (R244). -/
  | inputUnmaskApply (w : At) (pin : Nat)
  /-- HITCH_TRIM (R241). -/
  | hitchTrim (w : At) (measured : Nat)
  /-- TRIG_CNT_CLEAR (R260). -/
  | trigCntClear (w : At) (rq : Requester) (v : Nat)
  /-- LANE_CFG (R267). -/
  | laneCfg (w : At) (rq : Requester) (lane : Nat) (v : Nat)
  /-- ETH_PORT_CFG (R290). -/
  | ethPortCfg (w : At) (rq : Requester) (port : Nat) (bytes : List Byte)
  /-- ETH_FLOW (R291). -/
  | ethFlow (w : At) (rq : Requester) (flow : Nat) (bytes : List Byte)
  /-- JESD_CFG (R297). -/
  | jesdCfg (w : At) (rq : Requester) (link : Nat) (bytes : List Byte)
  /-- BOND_CFG (R280). -/
  | bondCfg (w : At) (rq : Requester) (bond : Nat) (v : Nat)
  /-- TIME_PER_S (R300). -/
  | timePerS (w : At) (rq : Requester) (v : Nat)
  /-- LOOPBACK (R271). -/
  | loopback (w : At) (rq : Requester) (n : Nat) (v : Nat)
  /-- TEST_PATTERN (R271). -/
  | testPattern (w : At) (rq : Requester) (n : Nat) (v : Nat)
  /-- LANE_CNT_CLEAR (R300). -/
  | laneCntClear (w : At) (rq : Requester) (n : Nat) (v : Nat)
  /-- SPARE_SELFTEST (R271). -/
  | spareSelftest (w : At) (pair : Nat) (errors : Nat) (trained : Bool)
  /-- LOS_DETECT (R269). -/
  | losDetect (w : At) (n : Nat)
  /-- LOS_CLEAR (R269). -/
  | losClear (w : At) (n : Nat)
  /-- CDR_LOCK_LOSS (R269). -/
  | cdrLockLoss (w : At) (n : Nat)
  /-- LANE_TRAIN_DONE (R269). -/
  | laneTrainDone (w : At) (n : Nat)
  /-- CODEWORD_RX (R272). -/
  | codewordRx (w : At) (n : Nat) (dec : CwDecode) (seq : Nat)
  /-- LANE_BER_CHECK (R270). -/
  | laneBerCheck (w : At) (n : Nat)
  /-- AGUSH_FRAME_RX (R274). -/
  | agushFrameRx (w : At) (n : Nat) (overlapsBad : Bool) (bytes : List Byte)
  /-- IDLE (R277). -/
  | idle (w : At) (n : Nat) (body : List Byte)
  /-- SUM (R276). -/
  | sum (w : At) (n : Nat) (body : List Byte)
  /-- TRIG (R279). -/
  | trig (w : At) (n : Nat) (body : List Byte)
  /-- TIME (R283). -/
  | time (w : At) (n : Nat) (body : List Byte)
  /-- TIME_FRAME_TX (R278). -/
  | timeFrameTx (w : At) (n : Nat)
  /-- IDLE_FRAME_FORCE (R277). -/
  | idleFrameForce (w : At) (n : Nat)
  /-- BOND_SEQ_TIMEOUT (R280). -/
  | bondSeqTimeout (w : At) (bond : Nat)
  /-- BOND_DEGRADED (R280). -/
  | bondDegraded (w : At) (bond : Nat) (lane : Nat)
  /-- EI_ENTER (R268). -/
  | eiEnter (w : At) (n : Nat)
  /-- EI_EXIT (R268). -/
  | eiExit (w : At) (n : Nat)
  /-- LANE_SWAP_REQUEST (R285). -/
  | laneSwapRequest (w : At) (rq : Requester) (v : Nat)
  /-- LANE_SWAP_START (R286). -/
  | laneSwapStart (w : At) (lane : Nat)
  /-- SWAP_SWITCH (R286). -/
  | swapSwitch (w : At) (lane : Nat)
  /-- SWAP_OLD_PAIR_STOP (R286). -/
  | swapOldPairStop (w : At) (lane : Nat)
  /-- SWAP_TIMEOUT (R287). -/
  | swapTimeout (w : At) (lane : Nat)
  /-- ETH_FRAME_RX (R289). -/
  | ethFrameRx (w : At) (port : Nat) (frame : List Byte)
  /-- ETH_LANE_SWAP (R294). -/
  | ethLaneSwap (w : At) (port : Nat) (lane : Nat)
  /-- ETH_LINK_DOWN (R294). -/
  | ethLinkDown (w : At) (port : Nat)
  /-- ETH_LINK_UP (R294). -/
  | ethLinkUp (w : At) (port : Nat)
  /-- JESD_LEMC_EDGE (R297). -/
  | jesdLemcEdge (w : At) (link : Nat) (edge : Nat) (samples : List Byte)
  /-- JESD_LINK_DOWN (R298). -/
  | jesdLinkDown (w : At) (link : Nat)
  /-- JESD_CRC (R298). -/
  | jesdCrc (w : At) (link : Nat)
  /-- REF_CFG (R307). -/
  | refCfg (w : At) (rq : Requester) (n : Nat) (v : Nat)
  /-- QUAL_HOLDOFF_MS (R308). -/
  | qualHoldoffMs (w : At) (rq : Requester) (v : Nat)
  /-- REF_QUALIFY (R308). -/
  | refQualify (w : At) (n : Nat)
  /-- REF_BREAK (R308). -/
  | refBreak (w : At) (n : Nat)
  /-- FREQ_MEASURE_END (R308). -/
  | freqMeasureEnd (w : At) (n : Nat) (ppb : Int)
  /-- REF10_EDGE (R306). -/
  | ref10Edge (w : At) (n : Nat) (phase : Int)
  /-- PPS_EDGE (R306). -/
  | ppsEdge (w : At) (n : Nat) (phase : Int)
  /-- TOD_LOAD (R309). -/
  | todLoad (w : At) (rq : Requester) (v : Nat)
  /-- TIME_STEP_ARM (R304). -/
  | timeStepArm (w : At) (rq : Requester) (v : Nat)
  /-- LOCK_ACHIEVED (R311). -/
  | lockAchieved (w : At)
  /-- SWITCH_SLEW_START (R313). -/
  | switchSlewStart (w : At) (err : Int)
  /-- SWITCH_COMPLETE (R313). -/
  | switchComplete (w : At)
  /-- HOLDOVER_LIMIT (R318). -/
  | holdoverLimit (w : At)
  /-- LOOP_NARROW (R315). -/
  | loopNarrow (w : At)
  /-- LOOP_MODE (R316). -/
  | loopMode (w : At) (rq : Requester) (v : Nat)
  /-- FREQ_ADJ (R316). -/
  | freqAdj (w : At) (rq : Requester) (v : Nat)
  /-- PHASE_ADJ_PS (R316). -/
  | phaseAdjPs (w : At) (rq : Requester) (v : Nat)
  /-- SOFT_STATE (R316). -/
  | softState (w : At) (rq : Requester) (v : Nat)
  /-- PTP_RX (R317). -/
  | ptpRx (w : At) (m : PtpMsg)
  /-- PPS_OUT_PULSE (R323). -/
  | ppsOutPulse (w : At)
  /-- WIN_GO (R330). -/
  | winGo (w : At) (pf4 : Bool) (v : Nat)
  /-- WINDOW_ACCESS_DONE (R330). -/
  | windowAccessDone (w : At) (pf4 : Bool)
  /-- WIN_REG_WRITE (R330). -/
  | winRegWrite (w : At) (pf4 : Bool) (off : Nat) (v : Nat)
  /-- CMDQ_DB (R334). -/
  | cmdqDb (w : At) (v : Nat)
  /-- CMD_FETCH (R334). -/
  | cmdFetch (w : At) (desc : List Byte)
  /-- NOP (R333). -/
  | nop (w : At)
  /-- DICT_WRITE (R333). -/
  | dictWrite (w : At) (host : HostRead)
  /-- DICT_READ (R333). -/
  | dictRead (w : At) (hostOk : Bool)
  /-- PLAN_LOAD_DMA (R333). -/
  | planLoadDma (w : At) (host : HostRead)
  /-- DICT_DESCRIBE (R333). -/
  | dictDescribe (w : At) (hostOk : Bool)
  /-- COMMAND_COMPLETE (R335). -/
  | commandComplete (w : At)
  /-- CMDQ_ENABLE (R335). -/
  | cmdqEnable (w : At) (rq : Requester) (v : Nat)
  /-- EVQ_DB (R336). -/
  | evqDb (w : At) (v : Nat)
  /-- EVQ_ENABLE (R336). -/
  | evqEnable (w : At) (rq : Requester) (v : Nat)
  /-- DMA_PACKET_TRANSFER (R341). -/
  | dmaPacketTransfer (w : At) (ch : Nat) (creditStall : Bool)
  /-- DMA_CQ_DB (R341). -/
  | dmaCqDb (w : At) (ch : Nat) (v : Nat)
  /-- DMA_INT_HOLD (R341). -/
  | dmaIntHold (w : At) (ch : Nat)
  /-- DMA_CFG (R343). -/
  | dmaCfg (w : At) (rq : Requester) (ch : Nat) (v : Nat)
  /-- DMA_DISABLE (R343). -/
  | dmaDisable (w : At) (ch : Nat)
  /-- CREDIT_STALL (R344). -/
  | creditStall (w : At) (ch : Nat)
  /-- FLR (R339). -/
  | flr (w : At) (pf4 : Bool)
  /-- PE_PERST_N (R437). -/
  | pePerstN
  /-- HP_LINK_DOWN (R351). -/
  | hpLinkDown
  /-- BAR4_READ (R328). -/
  | bar4Read (w : At) (off : Nat) (len : Nat)
  /-- SM_DECODE_MISS (R347). -/
  | smDecodeMiss (w : At) (master : Nat) (addr : Nat)
  /-- SM_TIMEOUT (R347). -/
  | smTimeout (w : At) (master : Nat) (target : Nat) (addr : Nat)
  /-- REGISTER_WRITE (R371). -/
  | registerWrite (w : At) (rq : Requester) (index : Nat) (sub : Nat) (bytes : List Byte)
  /-- SAGE_WATCHDOG (R353). -/
  | sageWatchdog (w : At)
  /-- SAGE_PATCH (R354). -/
  | sagePatch (w : At) (rq : Requester) (slot : Nat) (bytes : List Byte)
  /-- OTP_BURN_DONE (R370). -/
  | otpBurnDone (w : At) (ok : Bool)
  /-- LYD_FRAME_FORWARD (R358). -/
  | lydFrameForward (w : At) (port : Nat) (aborted : Bool) (bytes : List Byte)
  /-- READ (R357). -/
  | read (w : At) (port : Nat) (f : LydFrame)
  /-- DESCRIBE (R372). -/
  | describe (w : At) (port : Nat) (f : LydFrame)
  /-- BCAST_WRITE (R360). -/
  | bcastWrite (w : At) (port : Nat) (f : LydFrame)
  /-- ENUM (R363). -/
  | enum (w : At) (f : LydFrame)
  /-- ENUM_REPORT (R363). -/
  | enumReport (w : At) (f : LydFrame)
  /-- BEACON (R365). -/
  | beacon (w : At) (port : Nat) (f : LydFrame)
  /-- ENUM_START (R363). -/
  | enumStart (w : At)
  /-- LYD_ENUM_START (R363). -/
  | lydEnumStart (w : At) (rq : Requester) (v : Nat)
  /-- UNASSIGNED_REPORT_TX (R363). -/
  | unassignedReportTx (w : At)
  /-- BEACON_TX (R365). -/
  | beaconTx (w : At)
  /-- NO_HEAD_TIMEOUT (R366). -/
  | noHeadTimeout (w : At)
  /-- LYD_LINK_DOWN (R355). -/
  | lydLinkDown (w : At) (port : Nat)
  /-- LOCAL_DEVICE_ID (R362). -/
  | localDeviceId (w : At) (rq : Requester) (v : Nat)
  /-- PROT_ENTRY (R375). -/
  | protEntry (w : At) (rq : Requester) (n : Nat) (v : Nat)
  /-- PROT_TABLE (R375). -/
  | protTable (w : At) (rq : Requester) (bytes : List Byte)
  /-- CHALLENGE (R379). -/
  | challenge (w : At) (rq : Requester)
  /-- RESPONSE (R379). -/
  | response (w : At) (rq : Requester) (bytes : List Byte)
  /-- LEVEL0_RELEASE (R378). -/
  | level0Release (w : At) (rq : Requester) (v : Nat)
  /-- SESSION_IDLE_TIMEOUT (R378). -/
  | sessionIdleTimeout (w : At) (rq : Requester)
  /-- LOCKOUT_EXPIRE (R379). -/
  | lockoutExpire (w : At)
  /-- LEVEL0_KEY (R380). -/
  | level0Key (w : At) (rq : Requester) (bytes : List Byte)
  /-- FAULT_SIGNAL (R384). -/
  | faultSignal (w : At) (src : Nat) (inst : Nat)
  /-- RAIL_FAULT (R384). -/
  | railFault (w : At) (src : Nat)
  /-- LADDER_STEP_DONE (R402). -/
  | ladderStepDone (w : At) (fn : Nat) (inst : Nat)
  /-- LADDER_CLEAN_EXPIRE (R402). -/
  | ladderCleanExpire (w : At) (fn : Nat) (inst : Nat)
  /-- FAULT_GROUP_ACK (R387). -/
  | faultGroupAck (w : At) (rq : Requester) (group : Nat) (v : Nat)
  /-- FAULT_CFG (R386). -/
  | faultCfg (w : At) (rq : Requester) (src : Nat) (v : Nat)
  /-- FAULT_REACT (R388). -/
  | faultReact (w : At) (rq : Requester) (group : Nat) (sev : Nat) (v : Nat)
  /-- FAULT_WIRE_RETEST (R384). -/
  | faultWireRetest (w : At) (rq : Requester) (v : Nat)
  /-- FAULT_FIRST_CLEAR (R391). -/
  | faultFirstClear (w : At) (rq : Requester) (v : Nat)
  /-- FAULT_CNT_CLEAR (R409). -/
  | faultCntClear (w : At) (rq : Requester) (v : Nat)
  /-- ERR_N_RELEASE (R390). -/
  | errNRelease (w : At) (rq : Requester) (v : Nat)
  /-- ERR_N_MIN_EXPIRE (R390). -/
  | errNMinExpire (w : At)
  /-- CTRL_MISCOMPARE (R395). -/
  | ctrlMiscompare (w : At) (fail0 : Bool) (fail1 : Bool)
  /-- CTRL_AUDIT (R396). -/
  | ctrlAudit (w : At) (pass0 : Bool) (pass1 : Bool)
  /-- CTRL_CHECK_FAIL (R397). -/
  | ctrlCheckFail (w : At) (unit : Nat)
  /-- CTRL_SELFTEST (R397). -/
  | ctrlSelftest (w : At) (pass : Bool)
  /-- CTRL_UNIT_TEST_DONE (R398). -/
  | ctrlUnitTestDone (w : At) (unit : Nat) (pass : Bool)
  /-- CTRL_REINTEG_START (R398). -/
  | ctrlReintegStart (w : At) (rq : Requester) (v : Nat)
  /-- CTRL_REINTEG_COPY_DONE (R398). -/
  | ctrlReintegCopyDone (w : At)
  /-- SIMPLEX_AUDIT (R399). -/
  | simplexAudit (w : At) (pass : Bool)
  /-- SAFE_ENTER (R400). -/
  | safeEnter (w : At) (rq : Requester) (v : Nat)
  /-- STRAND_RESET_REQ (R401). -/
  | strandResetReq (w : At) (rq : Requester) (v : Nat)
  /-- STRAND_RESET (R401). -/
  | strandReset (w : At)
  /-- STRAND_UP (R401). -/
  | strandUp (w : At)
  /-- DEVICE_RESET_REQ (R404). -/
  | deviceResetReq (w : At) (rq : Requester) (v : Nat)
  /-- DEVICE_RESET (R421). -/
  | deviceReset (straps : Straps)
  /-- RETEST_CELL_DOMAIN (R406). -/
  | retestCellDomain (w : At) (rq : Requester) (v : Nat)
  /-- RETEST_LANE_GROUP (R407). -/
  | retestLaneGroup (w : At) (rq : Requester) (v : Nat)
  /-- PWR_PHASE_FAIL (R408). -/
  | pwrPhaseFail (w : At) (reg : Nat) (domain : Nat) (currents : Currents)
  /-- DOMAIN_REQ (R412). -/
  | domainReq (w : At) (rq : Requester) (domain : Nat) (v : Nat)
  /-- DOMAIN_WAKE (R412). -/
  | domainWake (w : At) (domain : Nat)
  /-- DOMAIN_POWER_GOOD (R410). -/
  | domainPowerGood (w : At) (domain : Nat) (us : Nat)
  /-- DOMAIN_WAKE_TIMEOUT (R413). -/
  | domainWakeTimeout (w : At) (domain : Nat)
  /-- DOMAIN_POWER_LOSS (R413). -/
  | domainPowerLoss (w : At) (domain : Nat)
  /-- XIN_STATUS_CHANGE (R415). -/
  | xinStatusChange (v : Nat)
  /-- AOCLK_CAL (R414). -/
  | aoclkCal (w : At) (src : Nat) (ppm : Int)
  /-- FEED_OUT_OF_RANGE (R416). -/
  | feedOutOfRange (feed : Feed)
  /-- PWR_FEEDS_LOW (R417). -/
  | pwrFeedsLow
  /-- REGULATOR_SHUTDOWN (R417). -/
  | regulatorShutdown
  /-- THERM_SAMPLE (R419). -/
  | thermSample (w : At) (sensor : Nat) (temp : Int) (selfOk : Bool)
  /-- THERM_DOMAIN_SHUTDOWN (R420). -/
  | thermDomainShutdown (w : At) (domain : Nat)
  /-- THERM_RESTART (R420). -/
  | thermRestart (w : At) (domain : Nat)
  /-- STRAND_POWER (R423). -/
  | strandPower (w : At) (rq : Requester) (v : Nat)
  /-- POR_N_RELEASE (R422). -/
  | porNRelease (straps : Straps)
  /-- PWR_EN_FALL (R437). -/
  | pwrEnFall (lowNs : Nat)
  /-- TEST_EN (R438). -/
  | testEn (high : Bool)
  /-- EXTEST (R438). -/
  | extest
  /-- IDCODE (R438). -/
  | idcode
  /-- SAMPLE_PRELOAD (R438). -/
  | samplePreload (pins : Nat) (preload : Nat)
  /-- BYPASS (R438). -/
  | bypass
  /-- DBG_FRAME (R438). -/
  | dbgFrame (w : At) (f : LydFrame)
  /-- LANYARD_WRITE (R357). -/
  | lanyardWrite (w : At) (port : Nat) (f : LydFrame)
  /-- LYD_LINK_UP (R355). -/
  | lydLinkUp (w : At) (port : Nat)
  /-- JESD_LINK_UP (R298). -/
  | jesdLinkUp (w : At) (link : Nat)
  /-- HP_LINK_UP (R344). -/
  | hpLinkUp (speed : Nat) (width : Nat)
  /-- PE_PERST_N_RELEASE (R437). -/
  | pePerstNRelease
  /-- PWR_EN_RISE (R437). -/
  | pwrEnRise (feedInRange : Bool)
  /-- FEED_IN_RANGE (R416). -/
  | feedInRange (feed : Feed)
  /-- TRAINING_BURST_RX (R268). -/
  | trainingBurstRx (w : At) (n : Nat) (relocked : Bool) (idleUs : Nat)
  /-- TIME_TOD_MISSING (R309). -/
  | timeTodMissing (w : At)
  /-- PTP_DELAY_REQ_TX (R317). -/
  | ptpDelayReqTx (w : At)
  /-- CELL_SELFTEST_DONE (R406). -/
  | cellSelftestDone (w : At) (p : Nat) (pass : Bool)
  /-- LANE_PRBS_TEST_DONE (R407). -/
  | lanePrbsTestDone (w : At) (pair : Nat) (errors : Nat) (pass : Bool)
  deriving DecidableEq, Repr

end Sys2Proof
end

