-- ==== Sys2Proof/Decode.lean ====
section
/-! DEFINITION. The command that a word spells. The one word with an encoding is the 64-bit control-port word of R185:
OP in [3:0], CELL in [12:4], ADDR in [31:16], ARG in [63:32]; [15:13] are reserved and ignored (R6). It names neither
strand nor time, so it is read for strand 0 at time 0, which leaves the strand's own time (assumption log 1). -/

namespace Sys2Proof

/-- Where and when a bare word is read. -/
def wordAt : At := ⟨.s0, 0⟩

/-- The command of OP `op` for cell `p`; 0x0 and 0xA to 0xF are reserved (R185). -/
def controlCommand (op p addr arg : Nat) : Option Instr :=
  match op with
  | 1 => some (.write wordAt p addr arg)
  | 2 => some (.select wordAt p addr)
  | 3 => some (.flags wordAt p addr arg)
  | 4 => some (.setBase wordAt p addr arg)
  | 5 => some (.setN0 wordAt p addr arg)
  | 6 => some (.copyBank wordAt p addr arg)
  | 7 => some (.runGate wordAt p arg)
  | 8 => some (.mirror wordAt p arg)
  | 9 => some (.owners wordAt p)
  | _ => none

/-- The command of a control-port word; CELL above 271 names no cell. -/
def controlWord (w : Nat) : Option Instr :=
  let p := w / 2 ^ 4 % 2 ^ 9
  if 272 ≤ p then none else controlCommand (w % 2 ^ 4) p (w / 2 ^ 16 % 2 ^ 16) (w / 2 ^ 32 % 2 ^ 32)

/-- A control-port word from its fields. -/
def packWord (op p addr arg : Nat) : Nat := op + p * 2 ^ 4 + addr * 2 ^ 16 + arg * 2 ^ 32

/-- The word of a control-port command, with 0 in the fields that its OP does not use. -/
def encodeControl : Instr → Option Nat
  | .write _ p addr arg => some (packWord 1 p addr arg)
  | .select _ p addr => some (packWord 2 p addr 0)
  | .flags _ p unit arg => some (packWord 3 p unit arg)
  | .setBase _ p unit arg => some (packWord 4 p unit arg)
  | .setN0 _ p unit arg => some (packWord 5 p unit arg)
  | .copyBank _ p unit arg => some (packWord 6 p unit arg)
  | .runGate _ p arg => some (packWord 7 p 0 arg)
  | .mirror _ p arg => some (packWord 8 p 0 arg)
  | .owners _ p => some (packWord 9 p 0 0)
  | _ => none

/-- The command that a word of `nbits` bits spells: a control-port word of 64 bits. No row of spec/opcode_table.json
gives bits, so no other word spells a command. -/
def decodeTableWord (nbits w : Nat) : Option Instr := if nbits = 64 then controlWord w else none

end Sys2Proof
end

