-- ==== Sys2Proof/Machine/Bits.lean ====
section
/-! DEFINITION. Bit fields, byte order, sparse tables and the checksums of R98 and R273: the plain helpers
every later file uses. Nothing here knows the machine's state. -/

namespace Sys2Proof.Machine

/-! ### Sparse tables (the canonical form of every memory and table) -/

/-- The value of a key; `d k` where the list holds no entry. -/
def smGet {α : Type} (d : Nat → α) : SMap α → Nat → α
  | [], i => d i
  | (k, v) :: m, i => if k = i then v else smGet d m i

/-- Writes a key and keeps the canonical form: writing what an unlisted key reads as removes the entry. -/
def smSet {α : Type} [DecidableEq α] (d : Nat → α) : SMap α → Nat → α → SMap α
  | [], i, v => if v = d i then [] else [(i, v)]
  | (k, w) :: m, i, v =>
    if i < k then (if v = d i then (k, w) :: m else (i, v) :: (k, w) :: m)
    else if i = k then (if v = d i then m else (i, v) :: m)
    else (k, w) :: smSet d m i v

/-- Keys strictly rising from `lo`, and no entry equal to the default. -/
def smWfFrom {α : Type} [DecidableEq α] (d : Nat → α) : Nat → SMap α → Bool
  | _, [] => true
  | lo, (k, v) :: m => decide (lo ≤ k) && decide (v ≠ d k) && smWfFrom d (k + 1) m

/-- The canonical form. -/
def smWf {α : Type} [DecidableEq α] (d : Nat → α) (m : SMap α) : Bool := smWfFrom d 0 m

/-- Default of a table of numbers. -/
def zeroAt : Nat → Nat := fun _ => 0

/-- Default of a table in which every key stands for itself. -/
def selfAt : Nat → Nat := fun i => i

/-- Default of a byte memory. -/
def zeroByteAt : Nat → Byte := fun _ => 0#8

/-! ### Bit fields (R4) -/

/-- Field of `n` bits at bit `lo`. -/
def bits (v lo n : Nat) : Nat := (v / 2 ^ lo) % 2 ^ n

/-- Bit `i`. -/
def bit (v i : Nat) : Bool := decide (bits v i 1 = 1)

/-- `v` with the field of `n` bits at `lo` replaced by `x`. -/
def setBits (v lo n x : Nat) : Nat := v - bits v lo n * 2 ^ lo + (x % 2 ^ n) * 2 ^ lo

/-- 0 or 1. -/
def b2n (b : Bool) : Nat := if b then 1 else 0

/-- `v` with bit `i` set to `b`. -/
def setBit (v i : Nat) (b : Bool) : Nat := setBits v i 1 (b2n b)

/-- Two's complement value of an `n`-bit field. -/
def toSigned (n v : Nat) : Int := if v < 2 ^ (n - 1) then (v : Int) else (v : Int) - 2 ^ n

/-- The `n`-bit two's complement code of an integer. -/
def ofSigned (n : Nat) (i : Int) : Nat := (i % (2 ^ n : Int)).toNat

/-- Difference of two serial numbers modulo `2^n` (R155, R334). -/
def serialSub (n a b : Nat) : Nat := (a + 2 ^ n - b % 2 ^ n) % 2 ^ n

/-- Ceiling of a quotient. -/
def ceilDiv (a b : Nat) : Nat := (a + b - 1) / b

/-! ### Bytes, least significant first (R5) -/

/-- The number that bytes spell. -/
def bytesToNat : List Byte → Nat
  | [] => 0
  | b :: r => b.toNat + 256 * bytesToNat r

/-- `n` bytes of a number. -/
def natToBytes : Nat → Nat → List Byte
  | 0, _ => []
  | n + 1, v => BitVec.ofNat 8 v :: natToBytes n (v / 256)

/-- The number at byte offset `o`, `n` bytes long; bytes beyond the end count as zero. -/
def fieldAt (b : List Byte) (o n : Nat) : Nat := bytesToNat ((b.drop o).take n)

/-- Zero bytes. -/
def zeros (n : Nat) : List Byte := List.replicate n 0#8

/-- Bytes `a` to `a + n - 1` of a memory. -/
def readMem (m : SMap Byte) (a n : Nat) : List Byte :=
  (List.range n).map fun i => smGet zeroByteAt m (a + i)

/-- The number at address `a`, `n` bytes. -/
def readNat (m : SMap Byte) (a n : Nat) : Nat := bytesToNat (readMem m a n)

/-- Stores bytes at ascending addresses from `a`. -/
def writeMem (m : SMap Byte) (a : Nat) : List Byte → SMap Byte
  | [] => m
  | b :: r => writeMem (smSet zeroByteAt m a b) (a + 1) r

/-! ### Checksums -/

/-- One bit of the reflected CRC-32 of IEEE 802.3. -/
def crc32Bit (c : Nat) : Nat := if c % 2 = 1 then (c / 2) ^^^ 0xEDB88320 else c / 2

/-- One byte. -/
def crc32Byte (c : Nat) (b : Byte) : Nat :=
  crc32Bit (crc32Bit (crc32Bit (crc32Bit (crc32Bit (crc32Bit (crc32Bit (crc32Bit (c ^^^ b.toNat))))))))

/-- HCRC of R98: initial 0xFFFF_FFFF, reflected, final XOR 0xFFFF_FFFF. -/
def crc32 (b : List Byte) : Nat := (b.foldl crc32Byte 0xFFFFFFFF) ^^^ 0xFFFFFFFF

/-- One bit of the CRC-16 with polynomial 0x1021. -/
def crc16Bit (c : Nat) : Nat := if c / 0x8000 % 2 = 1 then ((c * 2) % 0x10000) ^^^ 0x1021 else (c * 2) % 0x10000

/-- One byte. -/
def crc16Byte (c : Nat) (b : Byte) : Nat :=
  crc16Bit (crc16Bit (crc16Bit (crc16Bit (crc16Bit (crc16Bit (crc16Bit (crc16Bit (c ^^^ (b.toNat * 256)))))))))

/-- HCRC16 of R273: initial 0xFFFF, no reflection, no final XOR. -/
def crc16 (b : List Byte) : Nat := b.foldl crc16Byte 0xFFFF

/-! ### Rounding and clamps -/

/-- `rnd(v, s)` of R27: round to nearest, ties to even. -/
def rnd (v : Int) (s : Nat) : Int :=
  if s = 0 then v
  else
    let m : Int := 2 ^ s
    let q := v / m
    let d := v - q * m
    let h : Int := 2 ^ (s - 1)
    if d > h then q + 1 else if d < h then q else if q % 2 = 0 then q else q + 1

/-- Clamp to `lo` to `hi`. -/
def clampI (lo hi v : Int) : Int := if v < lo then lo else if v > hi then hi else v

/-- `sat48` of R67. -/
def sat48 (v : Int) : Int := clampI (-140737488355328) 140737488355327 v

/-- Nearest quotient of integers, ties away from zero (R100, R453). -/
def divNearest (a : Int) (b : Nat) : Int :=
  if a ≥ 0 then ((2 * a + b) / (2 * b) : Int) else -((2 * (-a) + b) / (2 * b) : Int)

/-- Sum of a list of integers. -/
def sumI (l : List Int) : Int := l.foldl (· + ·) 0

/-- The list's elements in pieces of `n`, the last one shorter; `fuel` bounds the number of pieces. -/
def chunksOf {α : Type} (n : Nat) : Nat → List α → List (List α)
  | 0, _ => []
  | _, [] => []
  | fuel + 1, l => l.take n :: chunksOf n fuel (l.drop n)

end Sys2Proof.Machine
end

