-- ==== Sys2Proof/Config.lean ====
section
/-! DEFINITION. What one part of the CGX fixes and what the spec leaves open. Every constant here has no
body: no proof can see its value (assumption log 3, 6, 13 and 14). -/

namespace Sys2Proof.Config

/-- PCI vendor ID, per part (R381). -/
opaque vendorId : Nat
/-- PCI device ID, per part (R381). -/
opaque pciDeviceId : Nat
/-- Whether the part is a CGX-1024-F16; otherwise it is an F12 (R1). -/
opaque gradeF16 : Bool
/-- Stepping, per part (R381). -/
opaque stepping : Nat
/-- Serial number from OTP, per part (R381). -/
opaque serial : Nat
/-- ROM version, per part (R381). -/
opaque romVersion : Nat
/-- Margin recorded at production test for strand and physical cell, an I16 code (R65). -/
opaque marginBase : Nat → Nat → Nat
/-- Valdosan's JEDEC manufacturer code, 11 bits (R438). -/
opaque jedecCode : Nat
/-- Output of the sage's hardware random source: draw `n`, a 16-byte number (R379). -/
opaque nonce : Nat → Nat
/-- A free value: number `n` of the run, for a value the spec does not state (assumption log 6). -/
opaque freeValue : Nat → Nat
/-- A free integer, for a signed value the spec does not state (assumption log 6). -/
opaque freeInt : Nat → Int
/-- Base of bank 1 of the step whose AG set stands at a unit of a logical cell, for an image: the plan places both
banks (R132), and no field of the image names the second. Bank 0 is the image's AG3.BASE. -/
opaque bankOneBase : SMap Byte → Nat → Nat → Nat

end Sys2Proof.Config
end

