-- ==== Sys2Proof/Machine/DictTable.lean ====
section
/-! DEFINITION. The object dictionary's attribute tables (R367): one row for each line of the spec's entry
tables, written out from them file by file. Type codes are those of R368, access codes those of R372,
commit classes 0 IMMEDIATE, 1 EPOCH, 2 PLAN. A default that is no single number is in `dictDefault`. -/

namespace Sys2Proof.Machine

/-- One line of an entry table: index range, subindex range and attributes. -/
structure DictRow where
  idxLo  : Nat
  idxHi  : Nat
  subLo  : Nat
  subHi  : Nat
  type   : Nat
  size   : Nat
  access : Nat
  level  : Nat
  commit : Nat
  otp    : Bool
  dflt   : Nat
  deriving DecidableEq, Repr

/-- Entries of spec/02_cell.md. -/
def dictRows02a : List DictRow :=
  [⟨0x5000, 0x5000, 0x01, 0x01, 2, 2, 0, 3, 0, false, 0x110⟩, -- CELL_PHYS_COUNT, R65
   ⟨0x5000, 0x5000, 0x02, 0x02, 2, 2, 0, 3, 0, false, 0x100⟩, -- CELL_LOGICAL_COUNT, R65
   ⟨0x5000, 0x5000, 0x03, 0x03, 1, 1, 0, 3, 0, false, 0x10⟩, -- CELL_SPARES_FREE, R65
   ⟨0x5001, 0x5001, 0x01, 0x01, 6, 2, 1, 1, 0, false, 0x19⟩, -- MARGIN_WARN_PS, R65
   ⟨0x5001, 0x5001, 0x02, 0x02, 2, 2, 1, 1, 0, false, 0x3e8⟩, -- MARGIN_PERIOD_MS, R65
   ⟨0x5100, 0x520f, 0x01, 0x01, 1, 1, 0, 3, 0, false, 0x0⟩, -- STATE, R65
   ⟨0x5100, 0x520f, 0x02, 0x02, 2, 2, 0, 3, 0, false, 0x0⟩, -- LOGICAL, R65
   ⟨0x5100, 0x520f, 0x03, 0x03, 3, 4, 0, 3, 0, false, 0x0⟩, -- ECC_CORR, R65
   ⟨0x5100, 0x520f, 0x04, 0x04, 2, 2, 0, 3, 0, false, 0x0⟩, -- ECC_UNCORR, R65
   ⟨0x5100, 0x520f, 0x05, 0x05, 2, 2, 0, 3, 0, false, 0x0⟩, -- RESIDUE_ERR, R65
   ⟨0x5100, 0x520f, 0x06, 0x06, 6, 2, 0, 3, 0, false, 0x0⟩, -- MARGIN, R65
   ⟨0x5100, 0x520f, 0x07, 0x07, 6, 2, 0, 3, 0, false, 0x7fff⟩, -- MARGIN_MIN, R65
   ⟨0x5100, 0x520f, 0x08, 0x08, 6, 2, 0, 3, 0, true, 0x0⟩, -- MARGIN_BASE, R65
   ⟨0x5100, 0x520f, 0x09, 0x09, 3, 4, 0, 3, 0, false, 0x0⟩, -- INVALID_CNT, R65
   ⟨0x5100, 0x520f, 0x0a, 0x0a, 3, 4, 0, 3, 0, false, 0x0⟩, -- SAT_CNT, R65
   ⟨0x5100, 0x520f, 0x0b, 0x0b, 2, 2, 0, 3, 0, false, 0x0⟩, -- COLLIDE_CNT, R65
   ⟨0x5100, 0x520f, 0x0c, 0x0c, 3, 4, 0, 3, 0, false, 0x0⟩, -- ACTIVE_SECONDS, R65
   ⟨0x5100, 0x520f, 0x0d, 0x0d, 3, 4, 0, 3, 0, false, 0x0⟩, -- TS_ERR, R65
   ⟨0x5100, 0x520f, 0x0e, 0x0e, 0, 1, 2, 1, 0, false, 0x0⟩, -- HEALTH_CLEAR, R65
   ⟨0x5300, 0x5300, 0x00, 0xff, 2, 2, 0, 3, 0, false, 0x0⟩] -- CELL_MAP, R65

/-- Entries of spec/03_accumulation.md. -/
def dictRows03a : List DictRow :=
  [⟨0x5800, 0x5800, 0x01, 0x01, 3, 4, 0, 3, 0, false, 0x0⟩, -- SAT_TILES, R93
   ⟨0x5800, 0x5800, 0x02, 0x02, 3, 4, 0, 3, 0, false, 0x0⟩, -- CHUNK_SAT_TILES, R93
   ⟨0x5800, 0x5800, 0x03, 0x03, 3, 4, 0, 3, 0, false, 0x0⟩, -- BOUND_TILES, R93
   ⟨0x5800, 0x5800, 0x04, 0x04, 3, 4, 0, 3, 0, false, 0x0⟩, -- COLLIDE_EVENTS, R93
   ⟨0x5800, 0x5800, 0x05, 0x05, 3, 4, 0, 3, 0, false, 0x0⟩, -- RV_SAT_CNT, R93
   ⟨0x5800, 0x5800, 0x06, 0x06, 3, 4, 0, 3, 0, false, 0x0⟩, -- CHAIN_BREAK_CNT, R93
   ⟨0x5800, 0x5800, 0x07, 0x07, 3, 4, 0, 3, 0, false, 0x0⟩, -- SUM_LATE_CNT, R93
   ⟨0x5800, 0x5800, 0x08, 0x08, 3, 4, 0, 3, 0, false, 0x0⟩, -- LAST_COLLIDE, R93
   ⟨0x5800, 0x5800, 0x09, 0x09, 0, 1, 2, 1, 0, false, 0x0⟩, -- ACC_CNT_CLEAR, R93
   ⟨0x5810, 0x5810, 0x01, 0x01, 2, 2, 1, 1, 0, false, 0x0⟩, -- DBG_CELL, R93
   ⟨0x5810, 0x5810, 0x02, 0x02, 1, 1, 1, 1, 0, false, 0x0⟩, -- DBG_TILE, R93
   ⟨0x5810, 0x5810, 0x03, 0x03, 0, 1, 2, 1, 0, false, 0x0⟩, -- DBG_CAPTURE, R93
   ⟨0x5810, 0x5810, 0x04, 0x04, 1, 1, 0, 1, 0, false, 0x0⟩, -- DBG_STATUS, R93
   ⟨0x5810, 0x5810, 0x05, 0x05, 3, 4, 0, 1, 0, false, 0x0⟩, -- DBG_TILE_STATUS, R93
   ⟨0x5810, 0x5810, 0x06, 0x06, 3, 4, 0, 1, 0, false, 0x0⟩, -- DBG_OWNER, R93
   ⟨0x5811, 0x5811, 0x00, 0x3f, 8, 8, 0, 1, 0, false, 0x0⟩, -- DBG_RE, R93
   ⟨0x5812, 0x5812, 0x00, 0x3f, 8, 8, 0, 1, 0, false, 0x0⟩, -- DBG_IM, R93
   ⟨0xf000, 0xf000, 0x01, 0x01, 0, 1, 1, 0, 1, false, 0x0⟩] -- DEBUG_MODE, R93

/-- Entries of spec/04_ingest_and_filters.md. -/
def dictRows04a : List DictRow :=
  [⟨0x4000, 0x4000, 0x01, 0x01, 4, 8, 0, 3, 0, false, 0x0⟩, -- ING_ACCEPT_CNT, R124
   ⟨0x4000, 0x4000, 0x02, 0x02, 4, 8, 0, 3, 0, false, 0x0⟩, -- ING_GAP_CNT, R124
   ⟨0x4000, 0x4000, 0x03, 0x03, 3, 4, 0, 3, 0, false, 0x0⟩, -- ING_EDGE_CNT, R124
   ⟨0x4000, 0x4000, 0x04, 0x04, 4, 8, 0, 3, 0, false, 0x0⟩, -- ING_RF_HIT_CNT, R124
   ⟨0x4000, 0x4000, 0x05, 0x05, 4, 8, 0, 3, 0, false, 0x0⟩, -- ING_INVALID_SAMP_CNT, R124
   ⟨0x4000, 0x4000, 0x06, 0x06, 4, 8, 0, 3, 0, false, 0x0⟩, -- ING_CONV_SAT_CNT, R124
   ⟨0x4000, 0x4000, 0x07, 0x07, 3, 4, 0, 3, 0, false, 0x0⟩, -- ING_DLY_STEP_CNT, R124
   ⟨0x4000, 0x4000, 0x08, 0x08, 3, 4, 0, 3, 0, false, 0x0⟩, -- ING_DL_UNCORR_CNT, R124
   ⟨0x4000, 0x4000, 0x09, 0x09, 0, 1, 2, 1, 0, false, 0x0⟩, -- ING_CNT_CLEAR, R124
   ⟨0x4001, 0x4001, 0x01, 0x0c, 4, 8, 0, 3, 0, false, 0x0⟩, -- ING_REFUSE_CNT, R124
   ⟨0x4002, 0x4002, 0x00, 0x19, 3, 4, 0, 3, 0, false, 0x0⟩, -- ING_LANE_REFUSE_CNT, R124
   ⟨0x4003, 0x4003, 0x01, 0x01, 1, 1, 0, 3, 0, false, 0x3⟩, -- ADMIT_LEVEL, R124
   ⟨0x4003, 0x4003, 0x02, 0x02, 3, 4, 0, 3, 0, false, 0x0⟩, -- HOLD_UNC_NS, R124
   ⟨0x4003, 0x4003, 0x03, 0x03, 2, 2, 0, 3, 0, false, 0x0⟩, -- VALID_STREAMS, R124
   ⟨0x4004, 0x4004, 0x00, 0x3f, 7, 4, 0, 3, 0, false, 0x0⟩, -- W_LATE_EFF_NS, R124
   ⟨0x4200, 0x420f, 0x00, 0xff, 3, 4, 1, 2, 1, false, 0x0⟩, -- STREAM_DELAY, R124
   ⟨0x4300, 0x430f, 0x00, 0xff, 3, 4, 0, 3, 0, false, 0x0⟩, -- STREAM_ACCEPT_CNT, R124
   ⟨0x4310, 0x431f, 0x00, 0xff, 3, 4, 0, 3, 0, false, 0x0⟩, -- STREAM_GAP_CNT, R124
   ⟨0x4320, 0x432f, 0x00, 0xff, 1, 1, 0, 3, 0, false, 0x0⟩] -- STREAM_LAST_REASON, R124

/-- Entries of spec/05_correlation_and_beamforming.md. -/
def dictRows05a : List DictRow :=
  [⟨0x5400, 0x54ff, 0x01, 0x01, 12, 0, 2, 2, 0, false, 0x0⟩, -- DELAY_LOAD, R152
   ⟨0x5400, 0x54ff, 0x02, 0x02, 4, 8, 2, 2, 1, false, 0x0⟩, -- DELAY_SWAP, R152
   ⟨0x5400, 0x54ff, 0x03, 0x03, 1, 1, 0, 3, 0, false, 0x0⟩, -- DELAY_BANK, R152
   ⟨0x5400, 0x54ff, 0x04, 0x04, 2, 2, 0, 3, 0, false, 0x0⟩, -- DELAY_GEN, R152
   ⟨0x5700, 0x5700, 0x01, 0x01, 4, 8, 0, 3, 0, false, 0x0⟩, -- VIS_RECORDS, R152
   ⟨0x5700, 0x5700, 0x02, 0x02, 3, 4, 0, 3, 0, false, 0x0⟩, -- VIS_FLAGGED, R152
   ⟨0x5700, 0x5700, 0x03, 0x03, 4, 8, 0, 3, 0, false, 0x0⟩, -- BEAM_BLOCKS, R152
   ⟨0x5700, 0x5700, 0x04, 0x04, 3, 4, 0, 3, 0, false, 0x0⟩, -- SWAP_REFUSED, R152
   ⟨0x5700, 0x5700, 0x05, 0x05, 3, 4, 0, 3, 0, false, 0x0⟩, -- HOT_APPLIED, R152
   ⟨0x5700, 0x5700, 0x06, 0x06, 3, 4, 0, 3, 0, false, 0x0⟩, -- HOT_DEFERRED, R152
   ⟨0x5700, 0x5700, 0x07, 0x07, 0, 1, 2, 1, 0, false, 0x0⟩, -- CB_CNT_CLEAR, R152
   ⟨0x8000, 0x8fff, 0x01, 0x01, 11, 32, 0, 3, 2, false, 0x0⟩, -- CTX_ENTRY, R152
   ⟨0x8000, 0x8fff, 0x02, 0x02, 12, 0, 2, 2, 0, false, 0x0⟩, -- WEIGHT_LOAD, R152
   ⟨0x8000, 0x8fff, 0x03, 0x03, 4, 8, 2, 2, 1, false, 0x0⟩, -- WEIGHT_SWAP, R152
   ⟨0x8000, 0x8fff, 0x04, 0x04, 12, 0, 2, 2, 0, false, 0x0⟩, -- WEIGHT_HOT, R152
   ⟨0x8000, 0x8fff, 0x05, 0x05, 2, 2, 0, 3, 0, false, 0x0⟩, -- WGEN, R152
   ⟨0x8000, 0x8fff, 0x06, 0x06, 1, 1, 0, 3, 0, false, 0x0⟩] -- CTX_STATUS, R152

/-- Entries of spec/06_plans.md. -/
def dictRows06a : List DictRow :=
  [⟨0x6000, 0x6000, 0x01, 0x01, 12, 0, 2, 1, 0, false, 0x0⟩, -- PLAN_LOAD, R187
   ⟨0x6000, 0x6000, 0x02, 0x02, 0, 1, 2, 1, 0, false, 0x0⟩, -- PLAN_CHECK, R187
   ⟨0x6000, 0x6000, 0x03, 0x03, 4, 8, 2, 1, 0, false, 0x0⟩, -- PLAN_COMMIT, R187
   ⟨0x6000, 0x6000, 0x04, 0x04, 0, 1, 2, 1, 0, false, 0x0⟩, -- PLAN_CANCEL, R187
   ⟨0x6000, 0x6000, 0x05, 0x05, 1, 1, 0, 3, 0, false, 0x0⟩, -- SHADOW_STATE, R187
   ⟨0x6000, 0x6000, 0x06, 0x06, 3, 4, 0, 3, 0, false, 0x0⟩, -- ACTIVE_GEN, R187
   ⟨0x6000, 0x6000, 0x07, 0x07, 3, 4, 0, 3, 0, false, 0x0⟩, -- SHADOW_GEN, R187
   ⟨0x6000, 0x6000, 0x08, 0x08, 4, 8, 0, 3, 0, false, 0x0⟩, -- COMMIT_EPOCH, R187
   ⟨0x6000, 0x6000, 0x09, 0x09, 1, 1, 0, 3, 0, false, 0x0⟩, -- COMMIT_RESULT, R187
   ⟨0x6000, 0x6000, 0x0a, 0x0a, 1, 1, 0, 3, 0, false, 0x0⟩, -- PROFILE, R187
   ⟨0x6000, 0x6000, 0x0b, 0x0b, 3, 4, 0, 3, 0, false, 0xffffffff⟩, -- HITCH_LATENCY_NS, R187
   ⟨0x6000, 0x6000, 0x0c, 0x0c, 12, 0, 2, 0, 0, false, 0x0⟩, -- PLAN_HOT_PATCH, R187
   ⟨0x6001, 0x6001, 0x01, 0x01, 1, 1, 0, 3, 0, false, 0x0⟩, -- CHECK_STATUS, R187
   ⟨0x6001, 0x6001, 0x02, 0x02, 3, 4, 0, 3, 0, false, 0x0⟩, -- CHECK_RESULT, R187
   ⟨0x6001, 0x6001, 0x03, 0x03, 3, 4, 0, 3, 0, false, 0x0⟩, -- CHECK_INDEX, R187
   ⟨0x6002, 0x6002, 0x01, 0x01, 2, 2, 2, 1, 0, false, 0x0⟩, -- SPLICE_REQUEST, R187
   ⟨0x6002, 0x6002, 0x02, 0x02, 1, 1, 1, 1, 0, false, 0x3⟩, -- SPLICE_AUTO, R187
   ⟨0x6002, 0x6002, 0x03, 0x03, 3, 4, 1, 1, 0, false, 0x40⟩, -- SPLICE_ECC_PER_HOUR, R187
   ⟨0x6002, 0x6002, 0x04, 0x04, 4, 8, 0, 3, 0, false, 0x0⟩, -- SPLICE_STATUS, R187
   ⟨0x6002, 0x6002, 0x05, 0x05, 3, 4, 0, 3, 0, false, 0x0⟩, -- SPLICE_COUNT, R187
   ⟨0x6002, 0x6002, 0x06, 0x06, 2, 2, 0, 3, 0, false, 0x0⟩, -- DOMAIN_RESERVE, R187
   ⟨0x6002, 0x6002, 0x07, 0x07, 1, 1, 0, 3, 0, false, 0x0⟩, -- SPLICE_IN_EFFECT, R187
   ⟨0x6100, 0x613f, 0x00, 0xff, 3, 4, 0, 3, 0, false, 0xffffffff⟩] -- PLAN_LATENCY_NS, R187

/-- Entries of spec/07_braid_store_queues.md. -/
def dictRows07a : List DictRow :=
  [⟨0x6800, 0x6800, 0x01, 0x01, 3, 4, 0, 3, 0, false, 0x0⟩, -- BRAID_OVERRUN_CNT, R233
   ⟨0x6800, 0x6800, 0x02, 0x02, 3, 4, 0, 3, 0, false, 0x0⟩, -- BRAID_MISSING_CNT, R233
   ⟨0x6810, 0x6810, 0x01, 0x01, 4, 8, 0, 3, 0, false, 0x0⟩, -- STORE_ECC_CORR, R233
   ⟨0x6810, 0x6810, 0x02, 0x02, 3, 4, 0, 3, 0, false, 0x0⟩, -- STORE_ECC_UNCORR, R233
   ⟨0x6810, 0x6810, 0x03, 0x03, 2, 2, 1, 1, 0, false, 0x4⟩, -- SCRUB_PERIOD_S, R233
   ⟨0x6810, 0x6810, 0x04, 0x04, 3, 4, 0, 3, 0, false, 0x0⟩, -- SCRUB_PASSES, R233
   ⟨0x6810, 0x6810, 0x05, 0x05, 2, 2, 0, 3, 0, false, 0x0⟩, -- STORE_REPAIR_CNT, R233
   ⟨0x6810, 0x6810, 0x06, 0x06, 2, 2, 1, 1, 0, false, 0x10⟩, -- STORE_ROW_CE_LIMIT, R233
   ⟨0x6810, 0x6810, 0x07, 0x07, 1, 1, 0, 3, 0, false, 0x0⟩, -- ACTIVE_SLOT, R233
   ⟨0x6811, 0x6811, 0x00, 0x0f, 1, 1, 0, 3, 0, false, 0x29⟩, -- STORE_SPARE_ROWS, R233
   ⟨0x6820, 0x6820, 0x01, 0x01, 3, 4, 0, 3, 0, false, 0x0⟩, -- POOL_CELLS, R233
   ⟨0x6820, 0x6820, 0x02, 0x02, 3, 4, 0, 3, 0, false, 0x0⟩, -- POOL_FREE, R233
   ⟨0x6820, 0x6820, 0x03, 0x03, 3, 4, 0, 3, 0, false, 0x0⟩, -- POOL_FREE_MIN, R233
   ⟨0x6820, 0x6820, 0x04, 0x04, 3, 4, 0, 3, 0, false, 0x0⟩, -- POOL_DROP_PKTS, R233
   ⟨0x6820, 0x6820, 0x05, 0x05, 2, 2, 0, 3, 0, false, 0x200⟩, -- DESC_SPARES_FREE, R233
   ⟨0x6821, 0x6821, 0x01, 0x01, 2, 2, 1, 2, 0, false, 0x0⟩, -- QUEUE_READ_SEL, R233
   ⟨0x6821, 0x6821, 0x02, 0x02, 12, 0, 0, 2, 0, false, 0x0⟩, -- QUEUE_READ, R233
   ⟨0x6822, 0x6822, 0x01, 0x01, 1, 1, 2, 2, 0, false, 0x0⟩, -- SNAP_CAPTURE, R233
   ⟨0x6822, 0x6822, 0x02, 0x02, 3, 4, 0, 3, 0, false, 0x0⟩, -- SNAP_CAPTURES, R233
   ⟨0x6822, 0x6822, 0x03, 0x03, 3, 4, 0, 3, 0, false, 0x0⟩, -- SNAP_DROP_CNT, R233
   ⟨0x6823, 0x6823, 0x01, 0x01, 0, 1, 2, 1, 0, false, 0x0⟩, -- BSQ_CNT_CLEAR, R233
   ⟨0x6900, 0x693f, 0x00, 0xff, 3, 4, 0, 3, 0, false, 0x0⟩, -- QUEUE_PKTS, R233
   ⟨0x6940, 0x697f, 0x00, 0xff, 1, 1, 0, 3, 0, false, 0x0⟩] -- QUEUE_STATUS, R233

/-- Entries of spec/08_trigger.md. -/
def dictRows08a : List DictRow :=
  [⟨0x7800, 0x7800, 0x01, 0x01, 4, 8, 0, 3, 0, false, 0x0⟩, -- TRIG_EVENTS, R260
   ⟨0x7800, 0x7800, 0x02, 0x02, 4, 8, 0, 3, 0, false, 0x0⟩, -- TRIG_FIRES, R260
   ⟨0x7800, 0x7800, 0x03, 0x03, 3, 4, 0, 3, 0, false, 0x0⟩, -- TRIG_VETOED, R260
   ⟨0x7800, 0x7800, 0x04, 0x04, 3, 4, 0, 3, 0, false, 0x0⟩, -- TRIG_LATE, R260
   ⟨0x7800, 0x7800, 0x05, 0x05, 3, 4, 0, 3, 0, false, 0x0⟩, -- TRIG_DEAD_CONSUMED, R260
   ⟨0x7800, 0x7800, 0x06, 0x06, 3, 4, 0, 3, 0, false, 0x0⟩, -- TRIG_INVALID_SUPPRESS, R260
   ⟨0x7800, 0x7800, 0x07, 0x07, 3, 4, 0, 3, 0, false, 0x0⟩, -- TRIG_PART_REJECT, R260
   ⟨0x7800, 0x7800, 0x08, 0x08, 3, 4, 0, 3, 0, false, 0x0⟩, -- REMOTE_REFUSED, R260
   ⟨0x7800, 0x7800, 0x09, 0x09, 3, 4, 0, 3, 0, false, 0x0⟩, -- REMOTE_UNMATCHED, R260
   ⟨0x7800, 0x7800, 0x0a, 0x0a, 0, 1, 2, 1, 0, false, 0x0⟩, -- TRIG_CNT_CLEAR, R260
   ⟨0x7801, 0x7801, 0x00, 0x03, 3, 4, 1, 2, 1, false, 0x640000⟩, -- TOUT_CFG, R260
   ⟨0x7802, 0x7802, 0x00, 0x04, 3, 4, 1, 2, 1, false, 0x320200⟩, -- TIN_CFG, R260
   ⟨0x7803, 0x7803, 0x00, 0x04, 3, 4, 1, 2, 1, false, 0x2710⟩, -- STUCK_TIME_US, R260
   ⟨0x7804, 0x7804, 0x00, 0x04, 1, 1, 0, 3, 0, false, 0x0⟩, -- TIN_STATUS, R260
   ⟨0x7805, 0x7805, 0x00, 0x04, 0, 1, 2, 2, 0, false, 0x0⟩, -- TIN_UNMASK, R260
   ⟨0x7806, 0x7806, 0x00, 0x04, 3, 4, 0, 3, 0, false, 0x0⟩, -- TIN_EVENTS, R260
   ⟨0x7807, 0x7807, 0x00, 0x04, 3, 4, 0, 3, 0, false, 0x0⟩, -- TIN_MERGED, R260
   ⟨0x7808, 0x7808, 0x00, 0x04, 3, 4, 0, 3, 0, false, 0x0⟩, -- TIN_GLITCH, R260
   ⟨0x7809, 0x7809, 0x00, 0x03, 3, 4, 0, 3, 0, false, 0x0⟩, -- TOUT_PULSES, R260
   ⟨0x780a, 0x780a, 0x01, 0x01, 2, 2, 0, 3, 0, false, 0x6b8⟩, -- HITCH_TRIM_PS, R260
   ⟨0x780a, 0x780a, 0x02, 0x02, 2, 2, 1, 1, 0, false, 0x3e8⟩, -- HITCH_TRIM_PERIOD_MS, R260
   ⟨0x7840, 0x787f, 0x01, 0x01, 3, 4, 0, 3, 0, false, 0x0⟩, -- UNIT_FIRES, R260
   ⟨0x7840, 0x787f, 0x02, 0x02, 10, 10, 0, 3, 0, false, 0x0⟩, -- UNIT_LAST_FIRE, R260
   ⟨0x7840, 0x787f, 0x03, 0x03, 3, 4, 0, 3, 0, false, 0x0⟩] -- UNIT_VETOED, R260

/-- Entries of spec/09_lanes_and_links.md. -/
def dictRows09a : List DictRow :=
  [⟨0x3000, 0x3000, 0x00, 0x17, 4, 8, 1, 1, 0, false, 0x80000000⟩, -- LANE_CFG, R300
   ⟨0x3001, 0x3001, 0x00, 0x17, 1, 1, 0, 3, 0, false, 0x0⟩, -- LANE_MAP, R300
   ⟨0x3002, 0x3002, 0x01, 0x01, 1, 1, 2, 1, 0, false, 0x0⟩, -- LANE_SWAP_REQUEST, R300
   ⟨0x3002, 0x3002, 0x02, 0x02, 1, 1, 1, 1, 0, false, 0x3⟩, -- LANE_SWAP_AUTO, R300
   ⟨0x3002, 0x3002, 0x03, 0x03, 3, 4, 1, 1, 0, false, 0x40000⟩, -- LANE_BER_SWAP, R300
   ⟨0x3002, 0x3002, 0x04, 0x04, 3, 4, 0, 3, 0, false, 0x0⟩, -- LANE_SWAP_STATUS, R300
   ⟨0x3002, 0x3002, 0x05, 0x05, 3, 4, 0, 3, 0, false, 0x0⟩, -- LANE_SWAP_CNT, R300
   ⟨0x3003, 0x3003, 0x00, 0x0f, 3, 4, 1, 1, 0, false, 0x0⟩, -- BOND_CFG, R300
   ⟨0x3004, 0x3004, 0x01, 0x01, 3, 4, 1, 1, 0, false, 0x7d0⟩, -- IDLE_HOLD_NS, R300
   ⟨0x3004, 0x3004, 0x02, 0x02, 2, 2, 1, 1, 0, false, 0x40⟩, -- TIME_PER_S, R300
   ⟨0x3004, 0x3004, 0x03, 0x03, 3, 4, 0, 3, 0, false, 0x0⟩, -- TRIG_DUP_CNT, R300
   ⟨0x3100, 0x3119, 0x01, 0x01, 1, 1, 0, 3, 0, false, 0x0⟩, -- LANE_STATE, R300
   ⟨0x3120, 0x313f, 0x01, 0x01, 1, 1, 0, 3, 0, false, 0x0⟩, -- LANE_STATE, R300
   ⟨0x3100, 0x3119, 0x02, 0x02, 3, 4, 0, 3, 0, false, 0x0⟩, -- LOS_CNT, R300
   ⟨0x3120, 0x313f, 0x02, 0x02, 3, 4, 0, 3, 0, false, 0x0⟩, -- LOS_CNT, R300
   ⟨0x3100, 0x3119, 0x03, 0x03, 3, 4, 0, 3, 0, false, 0x0⟩, -- LOL_CNT, R300
   ⟨0x3120, 0x313f, 0x03, 0x03, 3, 4, 0, 3, 0, false, 0x0⟩, -- LOL_CNT, R300
   ⟨0x3100, 0x3119, 0x04, 0x04, 4, 8, 0, 3, 0, false, 0x0⟩, -- CW_TOTAL, R300
   ⟨0x3120, 0x313f, 0x04, 0x04, 4, 8, 0, 3, 0, false, 0x0⟩, -- CW_TOTAL, R300
   ⟨0x3100, 0x3119, 0x05, 0x05, 4, 8, 0, 3, 0, false, 0x0⟩, -- CW_CORR, R300
   ⟨0x3120, 0x313f, 0x05, 0x05, 4, 8, 0, 3, 0, false, 0x0⟩, -- CW_CORR, R300
   ⟨0x3100, 0x3119, 0x06, 0x06, 4, 8, 0, 3, 0, false, 0x0⟩, -- CW_UNCORR, R300
   ⟨0x3120, 0x313f, 0x06, 0x06, 4, 8, 0, 3, 0, false, 0x0⟩, -- CW_UNCORR, R300
   ⟨0x3100, 0x3119, 0x07, 0x07, 4, 8, 0, 3, 0, false, 0x0⟩, -- SYM_ERR, R300
   ⟨0x3120, 0x313f, 0x07, 0x07, 4, 8, 0, 3, 0, false, 0x0⟩, -- SYM_ERR, R300
   ⟨0x3100, 0x3119, 0x08, 0x08, 3, 4, 0, 3, 0, false, 0x0⟩, -- FRAME_ERR, R300
   ⟨0x3120, 0x313f, 0x08, 0x08, 3, 4, 0, 3, 0, false, 0x0⟩, -- FRAME_ERR, R300
   ⟨0x3100, 0x3119, 0x09, 0x09, 6, 2, 0, 3, 0, false, 0x0⟩, -- RX_MARGIN_MUI, R300
   ⟨0x3120, 0x313f, 0x09, 0x09, 6, 2, 0, 3, 0, false, 0x0⟩, -- RX_MARGIN_MUI, R300
   ⟨0x3100, 0x3119, 0x0a, 0x0a, 1, 1, 1, 1, 0, false, 0x0⟩, -- LOOPBACK, R300
   ⟨0x3120, 0x313f, 0x0a, 0x0a, 1, 1, 1, 1, 0, false, 0x0⟩, -- LOOPBACK, R300
   ⟨0x3100, 0x3119, 0x0b, 0x0b, 1, 1, 1, 1, 0, false, 0x0⟩, -- TEST_PATTERN, R300
   ⟨0x3120, 0x313f, 0x0b, 0x0b, 1, 1, 1, 1, 0, false, 0x0⟩, -- TEST_PATTERN, R300
   ⟨0x3100, 0x3119, 0x0c, 0x0c, 4, 8, 0, 3, 0, false, 0x0⟩, -- PRBS_ERR, R300
   ⟨0x3120, 0x313f, 0x0c, 0x0c, 4, 8, 0, 3, 0, false, 0x0⟩, -- PRBS_ERR, R300
   ⟨0x3100, 0x3119, 0x0d, 0x0d, 0, 1, 2, 1, 0, false, 0x0⟩, -- LANE_CNT_CLEAR, R300
   ⟨0x3120, 0x313f, 0x0d, 0x0d, 0, 1, 2, 1, 0, false, 0x0⟩, -- LANE_CNT_CLEAR, R300
   ⟨0x3100, 0x3119, 0x0e, 0x0e, 3, 4, 0, 3, 0, false, 0x0⟩, -- PEER, R300
   ⟨0x3120, 0x313f, 0x0e, 0x0e, 3, 4, 0, 3, 0, false, 0x0⟩, -- PEER, R300
   ⟨0x3100, 0x3119, 0x0f, 0x0f, 3, 4, 0, 3, 0, false, 0x0⟩] -- RX_REFUSE, R300

/-- Entries of spec/09_lanes_and_links.md. -/
def dictRows09b : List DictRow :=
  [⟨0x3120, 0x313f, 0x0f, 0x0f, 3, 4, 0, 3, 0, false, 0x0⟩, -- RX_REFUSE, R300
   ⟨0x3200, 0x3200, 0x00, 0x3f, 7, 4, 1, 1, 0, false, 0x0⟩, -- LINK_ASYM_PS, R300
   ⟨0x3201, 0x3201, 0x00, 0x3f, 3, 4, 0, 3, 0, false, 0x0⟩, -- LINK_DELAY_IN_PS, R300
   ⟨0x3202, 0x3202, 0x00, 0x3f, 8, 8, 0, 3, 0, false, 0x0⟩, -- LINK_OFFSET_PS, R300
   ⟨0x3203, 0x3203, 0x00, 0x3f, 3, 4, 0, 3, 0, false, 0xffffffff⟩, -- LINK_RX_NS, R300
   ⟨0x3400, 0x3400, 0x00, 0x17, 11, 32, 1, 1, 0, false, 0x0⟩, -- ETH_PORT_CFG, R300
   ⟨0x3401, 0x3401, 0x00, 0x17, 1, 1, 0, 3, 0, false, 0x0⟩, -- ETH_PORT_STATUS, R300
   ⟨0x3402, 0x3402, 0x00, 0x17, 4, 8, 0, 3, 0, false, 0x0⟩, -- ETH_TX_FRAMES, R300
   ⟨0x3403, 0x3403, 0x00, 0x17, 4, 8, 0, 3, 0, false, 0x0⟩, -- ETH_RX_DISCARD, R300
   ⟨0x3500, 0x35ff, 0x01, 0x01, 11, 64, 1, 2, 1, false, 0x0⟩, -- ETH_FLOW, R300
   ⟨0x3600, 0x3600, 0x00, 0x07, 11, 16, 1, 1, 0, false, 0x0⟩, -- JESD_CFG, R300
   ⟨0x3601, 0x3601, 0x00, 0x07, 1, 1, 0, 3, 0, false, 0x0⟩, -- JESD_STATUS, R300
   ⟨0x3602, 0x3602, 0x00, 0x07, 7, 4, 1, 1, 1, false, 0x0⟩, -- JESD_ADJ_SAMPLES, R300
   ⟨0x3603, 0x3603, 0x00, 0x07, 3, 4, 0, 3, 0, false, 0x0⟩] -- JESD_CRC_ERR, R300

/-- Entries of spec/10_timing.md. -/
def dictRows10a : List DictRow :=
  [⟨0x2000, 0x2000, 0x01, 0x01, 1, 1, 0, 3, 0, false, 0x0⟩, -- TIME_STATE, R324
   ⟨0x2000, 0x2000, 0x02, 0x02, 10, 10, 0, 3, 0, false, 0x0⟩, -- TIME_NOW, R324
   ⟨0x2000, 0x2000, 0x03, 0x03, 4, 8, 0, 3, 0, false, 0x0⟩, -- EPOCH_NOW, R324
   ⟨0x2000, 0x2000, 0x04, 0x04, 1, 1, 0, 3, 0, false, 0xf⟩, -- REF_SELECTED, R324
   ⟨0x2000, 0x2000, 0x05, 0x05, 1, 1, 0, 3, 0, false, 0x0⟩, -- SWITCH_PHASE, R324
   ⟨0x2000, 0x2000, 0x06, 0x06, 1, 1, 0, 3, 0, false, 0xff⟩, -- HOPS, R324
   ⟨0x2000, 0x2000, 0x07, 0x07, 0, 1, 0, 3, 0, false, 0x0⟩, -- PARTITION, R324
   ⟨0x2000, 0x2000, 0x08, 0x08, 8, 8, 0, 3, 0, false, 0x0⟩, -- PHASE_ERR_PS, R324
   ⟨0x2000, 0x2000, 0x09, 0x09, 7, 4, 0, 3, 0, false, 0x0⟩, -- FREQ_ERR_PPT, R324
   ⟨0x2000, 0x2000, 0x0a, 0x0a, 3, 4, 0, 3, 0, false, 0x0⟩, -- HOLD_ELAPSED_S, R324
   ⟨0x2000, 0x2000, 0x0b, 0x0b, 1, 1, 0, 3, 0, false, 0x0⟩, -- LOOP_OWNER, R324
   ⟨0x2001, 0x2001, 0x00, 0x08, 3, 4, 1, 1, 0, false, 0x0⟩, -- REF_CFG, R324
   ⟨0x2002, 0x2002, 0x00, 0x08, 1, 1, 0, 3, 0, false, 0x0⟩, -- REF_STATUS, R324
   ⟨0x2003, 0x2003, 0x00, 0x08, 10, 10, 0, 2, 0, false, 0x0⟩, -- REF_CAPTURE, R324
   ⟨0x2004, 0x2004, 0x00, 0x03, 3, 4, 1, 1, 0, false, 0x0⟩, -- LOOP_BW_MHZ, R324
   ⟨0x2005, 0x2005, 0x01, 0x01, 3, 4, 1, 1, 0, false, 0x7d0⟩, -- QUAL_HOLDOFF_MS, R324
   ⟨0x2005, 0x2005, 0x02, 0x02, 3, 4, 1, 1, 0, false, 0x32⟩, -- FQ_TOL_PPB, R324
   ⟨0x2005, 0x2005, 0x03, 0x03, 2, 2, 1, 1, 0, false, 0x14⟩, -- FQ_WIN_PPM, R324
   ⟨0x2005, 0x2005, 0x04, 0x04, 3, 4, 1, 1, 0, false, 0xa⟩, -- HOLD_DRIFT_PPT_S, R324
   ⟨0x2005, 0x2005, 0x05, 0x05, 3, 4, 1, 1, 0, false, 0xf4240⟩, -- HOLD_LIMIT_NS, R324
   ⟨0x2005, 0x2005, 0x06, 0x06, 2, 2, 1, 1, 0, false, 0x1e⟩, -- HOLD_HIST_S, R324
   ⟨0x2005, 0x2005, 0x07, 0x07, 2, 2, 1, 1, 0, false, 0x3e8⟩, -- TIME_SLEW_NS_S, R324
   ⟨0x2005, 0x2005, 0x08, 0x08, 3, 4, 1, 1, 0, false, 0x186a0⟩, -- SLEW_MAX_NS, R324
   ⟨0x2005, 0x2005, 0x09, 0x09, 3, 4, 1, 1, 0, false, 0x3e8⟩, -- STEP_THRESH_NS, R324
   ⟨0x2005, 0x2005, 0x0a, 0x0a, 4, 8, 2, 1, 0, false, 0x0⟩, -- TOD_LOAD, R324
   ⟨0x2005, 0x2005, 0x0b, 0x0b, 0, 1, 2, 1, 0, false, 0x0⟩, -- TIME_STEP_ARM, R324
   ⟨0x2006, 0x2006, 0x01, 0x01, 1, 1, 1, 1, 0, false, 0x0⟩, -- LOOP_MODE, R324
   ⟨0x2006, 0x2006, 0x02, 0x02, 8, 8, 1, 1, 0, false, 0x0⟩, -- FREQ_ADJ, R324
   ⟨0x2006, 0x2006, 0x03, 0x03, 8, 8, 2, 1, 0, false, 0x0⟩, -- PHASE_ADJ_PS, R324
   ⟨0x2006, 0x2006, 0x04, 0x04, 1, 1, 1, 1, 0, false, 0x0⟩, -- SOFT_STATE, R324
   ⟨0x2006, 0x2006, 0x05, 0x05, 3, 4, 1, 1, 0, false, 0x0⟩, -- SOFT_UNC_NS, R324
   ⟨0x2007, 0x2007, 0x01, 0x01, 3, 4, 1, 1, 0, false, 0x0⟩, -- PTP_CFG, R324
   ⟨0x2007, 0x2007, 0x02, 0x02, 7, 4, 1, 1, 0, false, 0x0⟩, -- PTP_ASYM_PS, R324
   ⟨0x2007, 0x2007, 0x03, 0x03, 1, 1, 1, 1, 0, false, 0x7⟩, -- PTP_CLASS_MAX, R324
   ⟨0x2008, 0x2008, 0x01, 0x01, 3, 4, 1, 1, 1, false, 0x0⟩, -- PIN_CFG, R324
   ⟨0x2008, 0x2008, 0x02, 0x02, 3, 4, 1, 1, 1, false, 0x186a0⟩, -- PPS_WIDTH_US, R324
   ⟨0x2008, 0x2008, 0x03, 0x03, 3, 4, 1, 1, 1, false, 0x2710⟩, -- EPOCH_WIDTH_NS, R324
   ⟨0x2008, 0x2008, 0x04, 0x04, 8, 8, 0, 3, 0, false, 0x0⟩, -- OUT_OFS_PS, R324
   ⟨0x2008, 0x2008, 0x05, 0x05, 2, 2, 1, 1, 0, false, 0xa⟩] -- PIN_SLEW_NS_S, R324

/-- Entries of spec/11_host_port_and_dma.md. -/
def dictRows11a : List DictRow :=
  [⟨0x1100, 0x1100, 0x01, 0x01, 4, 8, 1, 1, 0, false, 0x0⟩, -- CMDQ_BASE, R350
   ⟨0x1100, 0x1100, 0x02, 0x02, 1, 1, 1, 1, 0, false, 0x6⟩, -- CMDQ_SIZE_LOG2, R350
   ⟨0x1100, 0x1100, 0x03, 0x03, 0, 1, 1, 1, 0, false, 0x0⟩, -- CMDQ_ENABLE, R350
   ⟨0x1100, 0x1100, 0x04, 0x04, 3, 4, 0, 3, 0, false, 0x0⟩, -- CMDQ_DONE_SEQ, R350
   ⟨0x1100, 0x1100, 0x05, 0x05, 3, 4, 0, 3, 0, false, 0x0⟩, -- CMDQ_PRODUCER, R350
   ⟨0x1100, 0x1100, 0x06, 0x06, 1, 1, 0, 3, 0, false, 0x0⟩, -- CMDQ_STATUS, R350
   ⟨0x1100, 0x1100, 0x07, 0x07, 3, 4, 0, 3, 0, false, 0x0⟩, -- CMDQ_STALE_CNT, R350
   ⟨0x1101, 0x1101, 0x01, 0x01, 4, 8, 1, 1, 0, false, 0x0⟩, -- EVQ_BASE, R350
   ⟨0x1101, 0x1101, 0x02, 0x02, 1, 1, 1, 1, 0, false, 0x6⟩, -- EVQ_SIZE_LOG2, R350
   ⟨0x1101, 0x1101, 0x03, 0x03, 0, 1, 1, 1, 0, false, 0x0⟩, -- EVQ_ENABLE, R350
   ⟨0x1101, 0x1101, 0x04, 0x04, 3, 4, 0, 3, 0, false, 0x0⟩, -- EVQ_NEXT_SEQ, R350
   ⟨0x1101, 0x1101, 0x05, 0x05, 3, 4, 0, 3, 0, false, 0x0⟩, -- EVQ_CONSUMER, R350
   ⟨0x1101, 0x1101, 0x06, 0x06, 3, 4, 1, 2, 0, false, 0x1fc⟩, -- EVQ_MASK, R350
   ⟨0x1101, 0x1101, 0x07, 0x07, 3, 4, 0, 3, 0, false, 0x0⟩, -- EVQ_LOST, R350
   ⟨0x1102, 0x1102, 0x00, 0xff, 11, 16, 0, 3, 0, false, 0x0⟩, -- JOURNAL, R350
   ⟨0x1103, 0x1103, 0x01, 0x01, 3, 4, 0, 3, 0, false, 0x0⟩, -- RESET_COUNT, R350
   ⟨0x1103, 0x1103, 0x02, 0x02, 2, 2, 0, 3, 0, false, 0x0⟩, -- HP_LINK, R350
   ⟨0x1103, 0x1103, 0x03, 0x03, 3, 4, 0, 3, 0, false, 0x0⟩, -- HP_DECODE_ERR_CNT, R350
   ⟨0x1103, 0x1103, 0x04, 0x04, 3, 4, 0, 3, 0, false, 0x0⟩, -- HP_CREDIT_STALL_CNT, R350
   ⟨0x1103, 0x1103, 0x05, 0x05, 3, 4, 1, 1, 0, false, 0x3e8⟩, -- CREDIT_WAIT_NS, R350
   ⟨0x1103, 0x1103, 0x06, 0x06, 4, 8, 0, 3, 0, false, 0x0⟩, -- SM_LAST_ERR, R350
   ⟨0x1104, 0x1104, 0x01, 0x01, 1, 1, 1, 1, 0, false, 0x0⟩, -- APERTURE_BASE, R350
   ⟨0x1120, 0x1123, 0x00, 0x06, 1, 1, 1, 1, 0, false, 0x0⟩, -- SM_PRIO, R350
   ⟨0x7000, 0x700f, 0x01, 0x01, 3, 4, 1, 1, 0, false, 0x10000⟩, -- DMA_CFG, R350
   ⟨0x7000, 0x700f, 0x02, 0x02, 4, 8, 1, 1, 0, false, 0x0⟩, -- DMA_DATA_BASE, R350
   ⟨0x7000, 0x700f, 0x03, 0x03, 3, 4, 1, 1, 0, false, 0x10000⟩, -- DMA_DATA_SIZE, R350
   ⟨0x7000, 0x700f, 0x04, 0x04, 4, 8, 1, 1, 0, false, 0x0⟩, -- DMA_CQ_BASE, R350
   ⟨0x7000, 0x700f, 0x05, 0x05, 1, 1, 1, 1, 0, false, 0x6⟩, -- DMA_CQ_SIZE_LOG2, R350
   ⟨0x7000, 0x700f, 0x06, 0x06, 3, 4, 1, 1, 0, false, 0x0⟩, -- DMA_CQ_START_SEQ, R350
   ⟨0x7000, 0x700f, 0x07, 0x07, 3, 4, 0, 3, 0, false, 0x0⟩, -- DMA_CQ_NEXT_SEQ, R350
   ⟨0x7000, 0x700f, 0x08, 0x08, 3, 4, 0, 3, 0, false, 0x0⟩, -- DMA_CQ_CONSUMER, R350
   ⟨0x7000, 0x700f, 0x09, 0x09, 4, 8, 0, 3, 0, false, 0x0⟩, -- DMA_PKTS, R350
   ⟨0x7000, 0x700f, 0x0a, 0x0a, 4, 8, 0, 3, 0, false, 0x0⟩, -- DMA_BYTES, R350
   ⟨0x7000, 0x700f, 0x0b, 0x0b, 1, 1, 0, 3, 0, false, 0x0⟩, -- DMA_STATUS, R350
   ⟨0x7100, 0x7100, 0x01, 0x01, 2, 2, 0, 3, 0, false, 0x0⟩] -- DMA_RATE_CBPNS, R350

/-- Entries of spec/12_management_and_dictionary.md. -/
def dictRows12a : List DictRow :=
  [⟨0x1000, 0x1000, 0x01, 0x01, 2, 2, 0, 3, 0, false, 0x0⟩, -- VENDOR_ID, R381
   ⟨0x1000, 0x1000, 0x02, 0x02, 2, 2, 0, 3, 0, false, 0x0⟩, -- PCI_DEVICE_ID, R381
   ⟨0x1000, 0x1000, 0x03, 0x03, 2, 2, 0, 3, 0, false, 0x400⟩, -- PART_CODE, R381
   ⟨0x1000, 0x1000, 0x04, 0x04, 1, 1, 0, 3, 0, false, 0x0⟩, -- GRADE, R381
   ⟨0x1000, 0x1000, 0x05, 0x05, 1, 1, 0, 3, 0, false, 0x0⟩, -- STEPPING, R381
   ⟨0x1000, 0x1000, 0x06, 0x06, 4, 8, 0, 3, 0, true, 0x0⟩, -- SERIAL, R381
   ⟨0x1000, 0x1000, 0x07, 0x07, 1, 1, 0, 3, 0, false, 0x0⟩, -- STRAND_NO, R381
   ⟨0x1000, 0x1000, 0x08, 0x08, 3, 4, 0, 3, 0, false, 0x0⟩, -- ROM_VERSION, R381
   ⟨0x1000, 0x1000, 0x09, 0x09, 1, 1, 0, 3, 0, false, 0x0⟩, -- PATCH_LEVEL, R381
   ⟨0x1000, 0x1000, 0x0a, 0x0a, 1, 1, 0, 3, 0, false, 0x1⟩, -- SAGE_STATE, R381
   ⟨0x1000, 0x1000, 0x0b, 0x0b, 3, 4, 0, 3, 0, false, 0x0⟩, -- SAGE_RESETS, R381
   ⟨0x1081, 0x1081, 0x01, 0x01, 2, 2, 1, 1, 0, false, 0x0⟩, -- LOCAL_DEVICE_ID, R381
   ⟨0x10c0, 0x10c0, 0x00, 0x1f, 12, 0, 2, 0, 0, true, 0x0⟩, -- SAGE_PATCH, R381
   ⟨0x1140, 0x1140, 0x01, 0x01, 1, 1, 0, 3, 0, false, 0x0⟩, -- LYD_STATE, R381
   ⟨0x1140, 0x1140, 0x02, 0x02, 2, 2, 0, 3, 0, false, 0x0⟩, -- LYD_DEVICE_ID, R381
   ⟨0x1140, 0x1140, 0x03, 0x03, 3, 4, 0, 3, 0, false, 0x0⟩, -- LYD_NODE_ADDR, R381
   ⟨0x1140, 0x1140, 0x04, 0x04, 1, 1, 0, 3, 0, false, 0x0⟩, -- LYD_SEG_STRAP, R381
   ⟨0x1140, 0x1140, 0x05, 0x05, 0, 1, 0, 3, 0, false, 0x0⟩, -- LYD_HEAD_STRAP, R381
   ⟨0x1140, 0x1140, 0x06, 0x06, 0, 1, 2, 1, 0, false, 0x0⟩, -- LYD_ENUM_START, R381
   ⟨0x1140, 0x1140, 0x07, 0x07, 2, 2, 0, 3, 0, false, 0x0⟩, -- LYD_ENUM_COUNT, R381
   ⟨0x1140, 0x1140, 0x08, 0x08, 2, 2, 0, 3, 0, false, 0x0⟩, -- LYD_ENUM_REFUSED, R381
   ⟨0x1140, 0x1140, 0x09, 0x09, 1, 1, 0, 3, 0, false, 0x0⟩, -- LYD_PORT_STATUS, R381
   ⟨0x1141, 0x1141, 0x01, 0x01, 4, 8, 0, 3, 0, false, 0x0⟩, -- LYD_RX_FRAMES, R381
   ⟨0x1141, 0x1141, 0x02, 0x02, 3, 4, 0, 3, 0, false, 0x0⟩, -- LYD_CRC_ERR, R381
   ⟨0x1141, 0x1141, 0x03, 0x03, 3, 4, 0, 3, 0, false, 0x0⟩, -- LYD_ABORT, R381
   ⟨0x1141, 0x1141, 0x04, 0x04, 3, 4, 0, 3, 0, false, 0x0⟩, -- LYD_RX_BAD, R381
   ⟨0x1141, 0x1141, 0x05, 0x05, 3, 4, 0, 3, 0, false, 0x0⟩, -- LYD_SEQ_STALE, R381
   ⟨0x1141, 0x1141, 0x06, 0x06, 3, 4, 0, 3, 0, false, 0x0⟩, -- LYD_DUP_RESP, R381
   ⟨0x1141, 0x1141, 0x07, 0x07, 3, 4, 0, 3, 0, false, 0x0⟩, -- LYD_QUEUE_FULL, R381
   ⟨0x1141, 0x1141, 0x08, 0x08, 3, 4, 0, 3, 0, false, 0x0⟩, -- LYD_BCAST, R381
   ⟨0x1141, 0x1141, 0x09, 0x09, 3, 4, 0, 3, 0, false, 0x0⟩, -- LYD_BCAST_FAIL, R381
   ⟨0x1141, 0x1141, 0x0a, 0x0a, 1, 1, 0, 3, 0, false, 0x0⟩, -- LYD_BCAST_LAST, R381
   ⟨0x1141, 0x1141, 0x0b, 0x0b, 0, 1, 2, 1, 0, false, 0x0⟩, -- LYD_CNT_CLEAR, R381
   ⟨0x1200, 0x1200, 0x00, 0x1f, 4, 8, 1, 0, 0, false, 0x0⟩, -- PROT_ENTRY, R381
   ⟨0x1201, 0x1201, 0x01, 0x01, 11, 256, 1, 0, 0, false, 0x0⟩, -- PROT_TABLE, R381
   ⟨0x1201, 0x1201, 0x02, 0x02, 3, 4, 0, 3, 0, false, 0x0⟩, -- PROT_GEN, R381
   ⟨0x1210, 0x1210, 0x01, 0x01, 11, 16, 0, 3, 0, false, 0x0⟩, -- CHALLENGE, R381
   ⟨0x1210, 0x1210, 0x02, 0x02, 11, 16, 2, 3, 0, false, 0x0⟩, -- RESPONSE, R381
   ⟨0x1210, 0x1210, 0x03, 0x03, 0, 1, 2, 3, 0, false, 0x0⟩, -- LEVEL0_RELEASE, R381
   ⟨0x1210, 0x1210, 0x04, 0x04, 1, 1, 0, 3, 0, false, 0x1⟩] -- SESSION_LEVEL, R381

/-- Entries of spec/12_management_and_dictionary.md. -/
def dictRows12b : List DictRow :=
  [⟨0x1210, 0x1210, 0x05, 0x05, 2, 2, 1, 0, 0, false, 0x12c⟩, -- LEVEL0_IDLE_S, R381
   ⟨0x1210, 0x1210, 0x06, 0x06, 3, 4, 0, 3, 0, false, 0x0⟩, -- AUTH_FAIL_CNT, R381
   ⟨0x1210, 0x1210, 0x07, 0x07, 2, 2, 0, 3, 0, false, 0xa⟩, -- LOCKOUT_S, R381
   ⟨0x1211, 0x1211, 0x01, 0x01, 11, 32, 2, 1, 0, true, 0x0⟩, -- LEVEL0_KEY, R381
   ⟨0x1211, 0x1211, 0x02, 0x02, 1, 1, 0, 3, 0, false, 0x0⟩] -- KEY_STATE, R381

/-- Entries of spec/13_faults_redundancy_recovery.md. -/
def dictRows13a : List DictRow :=
  [⟨0x2800, 0x2800, 0x01, 0x01, 11, 32, 0, 3, 0, false, 0x0⟩, -- FAULT_FIRST, R409
   ⟨0x2800, 0x2800, 0x02, 0x02, 11, 32, 0, 3, 0, false, 0x0⟩, -- FAULT_LAST, R409
   ⟨0x2800, 0x2800, 0x03, 0x03, 11, 32, 0, 3, 0, false, 0x0⟩, -- FAULT_PREV_FIRST, R409
   ⟨0x2800, 0x2800, 0x04, 0x04, 0, 1, 2, 1, 0, false, 0x0⟩, -- FAULT_FIRST_CLEAR, R409
   ⟨0x2800, 0x2800, 0x05, 0x05, 1, 1, 2, 1, 0, false, 0x0⟩, -- FAULT_WIRE_RETEST, R409
   ⟨0x2801, 0x2801, 0x00, 0x0b, 1, 1, 3, 2, 0, false, 0x0⟩, -- FAULT_GROUP_STATUS, R409
   ⟨0x2810, 0x2810, 0x00, 0xbf, 1, 1, 1, 1, 0, false, 0x0⟩, -- FAULT_CFG, R409
   ⟨0x2820, 0x282b, 0x00, 0x03, 1, 1, 1, 1, 0, false, 0x0⟩, -- FAULT_REACT, R409
   ⟨0x2830, 0x2830, 0x00, 0xbf, 3, 4, 0, 3, 0, false, 0x0⟩, -- FAULT_COUNT, R409
   ⟨0x2831, 0x2831, 0x01, 0x01, 0, 1, 2, 1, 0, false, 0x0⟩, -- FAULT_CNT_CLEAR, R409
   ⟨0x2840, 0x2840, 0x01, 0x01, 2, 2, 1, 1, 0, false, 0x64⟩, -- ERR_WIDTH_US, R409
   ⟨0x2840, 0x2840, 0x02, 0x02, 0, 1, 2, 2, 0, false, 0x0⟩, -- ERR_N_RELEASE, R409
   ⟨0x2840, 0x2840, 0x03, 0x03, 1, 1, 0, 3, 0, false, 0x0⟩, -- PIN_STATE, R409
   ⟨0x2850, 0x2850, 0x01, 0x01, 1, 1, 0, 3, 0, false, 0x0⟩, -- CTRL_STATE, R409
   ⟨0x2850, 0x2850, 0x02, 0x02, 1, 1, 0, 3, 0, false, 0x0⟩, -- CTRL_ACTIVE, R409
   ⟨0x2850, 0x2850, 0x03, 0x03, 0, 1, 1, 1, 0, false, 0x1⟩, -- CTRL_REINTEG_AUTO, R409
   ⟨0x2850, 0x2850, 0x04, 0x04, 0, 1, 2, 1, 0, false, 0x0⟩, -- CTRL_REINTEG_START, R409
   ⟨0x2850, 0x2850, 0x05, 0x05, 2, 2, 1, 1, 0, false, 0x3c⟩, -- CTRL_SELFTEST_PERIOD_S, R409
   ⟨0x2850, 0x2850, 0x06, 0x06, 1, 1, 0, 3, 0, false, 0x1⟩, -- STRAND_STATE, R409
   ⟨0x2850, 0x2850, 0x07, 0x07, 0, 1, 2, 0, 0, false, 0x0⟩, -- SAFE_ENTER, R409
   ⟨0x2850, 0x2850, 0x08, 0x08, 0, 1, 2, 1, 0, false, 0x0⟩, -- STRAND_RESET_REQ, R409
   ⟨0x2850, 0x2850, 0x09, 0x09, 0, 1, 2, 0, 0, false, 0x0⟩, -- DEVICE_RESET_REQ, R409
   ⟨0x2851, 0x2851, 0x00, 0x01, 11, 16, 0, 3, 0, false, 0x0⟩, -- CTRL_HEALTH, R409
   ⟨0x2860, 0x2860, 0x01, 0x01, 1, 1, 1, 1, 0, false, 0x3⟩, -- RECOVERY_MAX_STEP, R409
   ⟨0x2860, 0x2860, 0x02, 0x02, 2, 2, 1, 1, 0, false, 0x3c⟩, -- LADDER_WINDOW_S, R409
   ⟨0x2860, 0x2860, 0x03, 0x03, 0, 1, 1, 1, 0, false, 0x1⟩, -- RECOVERY_RECOMMIT, R409
   ⟨0x2861, 0x2861, 0x00, 0x0b, 1, 1, 0, 3, 0, false, 0x0⟩, -- LADDER_STEP, R409
   ⟨0x2870, 0x2870, 0x01, 0x01, 1, 1, 2, 1, 0, false, 0x0⟩, -- RETEST_CELL_DOMAIN, R409
   ⟨0x2870, 0x2870, 0x02, 0x02, 1, 1, 2, 1, 0, false, 0x0⟩] -- RETEST_LANE_GROUP, R409

/-- Entries of spec/14_power_clocks_startup.md. -/
def dictRows14a : List DictRow :=
  [⟨0x2400, 0x2400, 0x01, 0x01, 1, 1, 1, 1, 0, false, 0x0⟩, -- STRAND_POWER, R425
   ⟨0x2400, 0x2400, 0x02, 0x02, 0, 1, 1, 1, 0, false, 0x1⟩, -- DOMAIN_AUTO, R425
   ⟨0x2401, 0x2401, 0x00, 0x0f, 1, 1, 0, 3, 0, false, 0x0⟩, -- DOMAIN_STATE, R425
   ⟨0x2402, 0x2402, 0x00, 0x0f, 1, 1, 2, 1, 0, false, 0x0⟩, -- DOMAIN_REQ, R425
   ⟨0x2403, 0x2403, 0x00, 0x0f, 2, 2, 0, 3, 0, false, 0x0⟩, -- DOMAIN_WAKE_US, R425
   ⟨0x2410, 0x2410, 0x01, 0x01, 6, 2, 0, 3, 0, false, 0x0⟩, -- THERM_GRADE, R425
   ⟨0x2410, 0x2410, 0x02, 0x02, 1, 1, 1, 1, 0, false, 0x1e⟩, -- THERM_HYST, R425
   ⟨0x2410, 0x2410, 0x03, 0x03, 2, 2, 1, 1, 0, false, 0x3e8⟩, -- THERM_DWELL_MS, R425
   ⟨0x2410, 0x2410, 0x04, 0x04, 6, 2, 1, 1, 0, false, 0x578⟩, -- THERM_RESTART, R425
   ⟨0x2411, 0x2411, 0x00, 0x0c, 6, 2, 0, 3, 0, false, 0x0⟩, -- THERM_SENSOR, R425
   ⟨0x2412, 0x2412, 0x00, 0x02, 3, 4, 0, 3, 0, false, 0x217⟩, -- REG_STATUS, R425
   ⟨0x2413, 0x2413, 0x01, 0x01, 1, 1, 0, 3, 0, false, 0xff⟩, -- PROFILE_CAP, R425
   ⟨0x2600, 0x2600, 0x01, 0x01, 2, 2, 0, 3, 0, false, 0x0⟩, -- VIN_A_MV, R425
   ⟨0x2600, 0x2600, 0x02, 0x02, 2, 2, 0, 3, 0, false, 0x0⟩, -- VIN_B_MV, R425
   ⟨0x2600, 0x2600, 0x03, 0x03, 3, 4, 0, 3, 0, false, 0x0⟩, -- IIN_A_MA, R425
   ⟨0x2600, 0x2600, 0x04, 0x04, 3, 4, 0, 3, 0, false, 0x0⟩, -- IIN_B_MA, R425
   ⟨0x2600, 0x2600, 0x05, 0x05, 2, 2, 0, 3, 0, false, 0x0⟩, -- VIO_A_MV, R425
   ⟨0x2600, 0x2600, 0x06, 0x06, 2, 2, 0, 3, 0, false, 0x0⟩, -- VIO_B_MV, R425
   ⟨0x2600, 0x2600, 0x07, 0x07, 3, 4, 0, 3, 0, false, 0x0⟩, -- PKG_POWER_MW, R425
   ⟨0x2601, 0x2601, 0x01, 0x01, 1, 1, 0, 3, 0, false, 0x1⟩, -- XIN_STATUS, R425
   ⟨0x2601, 0x2601, 0x02, 0x02, 7, 4, 0, 3, 0, false, 0x0⟩, -- AOCLK_CAL_PPM, R425
   ⟨0x2601, 0x2601, 0x03, 0x03, 1, 1, 0, 3, 0, false, 0x0⟩, -- AOCLK_CAL_SRC, R425
   ⟨0x2602, 0x2602, 0x01, 0x01, 0, 1, 1, 1, 0, false, 0x1⟩, -- STORE_KEEP, R425
   ⟨0x2602, 0x2602, 0x02, 0x02, 0, 1, 1, 1, 0, false, 0x0⟩, -- HOST_PORT_SLEEP, R425
   ⟨0x2603, 0x2603, 0x00, 0x01, 3, 4, 0, 3, 0, false, 0x217⟩, -- PKG_REG_STATUS, R425
   ⟨0x2604, 0x2604, 0x00, 0x03, 1, 1, 0, 3, 0, false, 0x0⟩, -- SHARED_DOMAIN_STATE, R425
   ⟨0x2605, 0x2605, 0x01, 0x01, 6, 2, 0, 3, 0, false, 0x0⟩] -- THERM_PKG_MAX, R425

/-- Every entry of the dictionary (R373). -/
def dictRows : List DictRow :=
  dictRows02a ++
  dictRows03a ++
  dictRows04a ++
  dictRows05a ++
  dictRows06a ++
  dictRows07a ++
  dictRows08a ++
  dictRows09a ++
  dictRows09b ++
  dictRows10a ++
  dictRows11a ++
  dictRows12a ++
  dictRows12b ++
  dictRows13a ++
  dictRows14a

/-- The row that defines a location, if a chapter defines it. -/
def dictFind (index sub : Nat) : Option DictRow :=
  dictRows.find? fun r => decide (r.idxLo ≤ index) && decide (index ≤ r.idxHi) &&
    decide (r.subLo ≤ sub) && decide (sub ≤ r.subHi)

/-- Key of a location in the register table. -/
def locKey (index sub : Nat) : Nat := index * 256 + sub

/-! ### Defaults that are no single number -/

/-- Default severity of a source (R392); reserved numbers read 0. -/
def sourceSeverity (n : Nat) : Nat :=
  if n = 0x00 then 2 else if n = 0x01 then 2 else if n = 0x02 then 2 else if n = 0x03 then 1
  else if n = 0x04 then 0 else if n ≤ 0x07 then 3 else if n = 0x08 then 0 else if n = 0x09 then 1
  else if n ≤ 0x0C then 2
  else if n = 0x12 then 1 else if 0x10 ≤ n ∧ n ≤ 0x15 then 2
  else if n = 0x20 ∨ n = 0x21 then 1
  else if n = 0x30 ∨ n = 0x31 ∨ n = 0x33 then 1 else if n = 0x35 ∨ n = 0x36 then 2
  else if n = 0x41 ∨ n = 0x44 then 1 else if n = 0x45 ∨ n = 0x46 then 2
  else if n = 0x53 ∨ n = 0x54 ∨ n = 0x56 ∨ n = 0x57 then 1
  else if n = 0x50 ∨ n = 0x51 ∨ n = 0x52 ∨ n = 0x58 ∨ n = 0x59 ∨ n = 0x5A then 2
  else if n = 0x62 ∨ n = 0x63 ∨ n = 0x64 then 1 else if n = 0x65 ∨ n = 0x66 then 2
  else if n = 0x70 ∨ n = 0x71 ∨ n = 0x72 ∨ n = 0x74 ∨ n = 0x75 ∨ n = 0x76 ∨ n = 0x78 ∨ n = 0x79 ∨ n = 0x7D then 1
  else if n = 0x7A ∨ n = 0x7B ∨ n = 0x7C then 2
  else if n = 0x80 ∨ n = 0x82 ∨ n = 0x83 ∨ n = 0x86 ∨ n = 0x87 ∨ n = 0x88 ∨ n = 0x8B then 1
  else if n = 0x84 ∨ n = 0x85 ∨ n = 0x89 ∨ n = 0x8A then 2
  else if n = 0x90 ∨ n = 0x92 ∨ n = 0x94 ∨ n = 0x96 ∨ n = 0x97 ∨ n = 0x98 then 1
  else if n = 0x95 ∨ n = 0x99 then 2
  else if n = 0xA1 ∨ n = 0xA2 ∨ n = 0xA4 ∨ n = 0xA8 ∨ n = 0xAA ∨ n = 0xAC then 1
  else if n = 0xA0 ∨ n = 0xA3 ∨ n = 0xA9 ∨ n = 0xAD then 2
  else if n = 0xB0 ∨ n = 0xB1 ∨ n = 0xB3 ∨ n = 0xB4 ∨ n = 0xB5 ∨ n = 0xBB then 1
  else if n = 0xB2 ∨ n = 0xBA then 3 else if n = 0xB6 ∨ n = 0xB7 ∨ n = 0xB9 then 2
  else 0

/-- The physical cell that R24 gives a logical cell at reset. -/
def baseCell (l : Nat) : Nat := 34 * (l / 32) + l % 32

/-- The logical cell of a physical cell under R24; 0xFFFF for a spare. -/
def baseLogical (p : Nat) : Nat := if p % 34 < 32 then 32 * (p / 34) + p % 34 else 0xFFFF

/-- Default SM_PRIO of a master (R345). -/
def smPrioDefault (m : Nat) : Nat := if m ≤ 4 then m else if m = 5 then 4 else 7

/-- Default protection entry (R375). -/
def protDefault (n : Nat) : Nat :=
  if n = 0 then 0x0000EFFF0000000F else if n = 1 then 0x0000FFFFF000000D else 0

/-- Default of a location in the dictionary of strand `k`. -/
def dictDefault (k : Nat) (key : Nat) : Nat :=
  let index := key / 256
  let sub := key % 256
  if 0x5100 ≤ index ∧ index ≤ 0x520F then
    let p := index - 0x5100
    if sub = 0x01 then (if p % 34 < 32 then 2 else 0)
    else if sub = 0x02 then baseLogical p
    else if sub = 0x07 then 0x7FFF
    else if sub = 0x08 then Config.marginBase k p % 65536
    else 0
  else if index = 0x5300 then baseCell sub
  else if index = 0x3001 then (if sub < 24 then sub else 0)
  else if 0x3500 ≤ index ∧ index ≤ 0x35FF then
    (if sub = 1 then 0x40 * 2 ^ 88 + 0x2328 * 2 ^ 128 else 0)
  else if index = 0x2004 then
    (if sub = 0 then 0x2710 else if sub = 1 then 0x64 else if sub = 2 then 0x186A0 else if sub = 3 then 0xA else 0)
  else if index = 0x1102 then 0xFF * 2 ^ 40
  else if 0x1120 ≤ index ∧ index ≤ 0x1123 then (if sub ≤ 6 then smPrioDefault sub else 0)
  else if index = 0x1000 ∧ sub = 1 then Config.vendorId % 65536
  else if index = 0x1000 ∧ sub = 2 then Config.pciDeviceId % 65536
  else if index = 0x1000 ∧ sub = 4 then (if Config.gradeF16 then 0x10 else 0x0C)
  else if index = 0x1000 ∧ sub = 5 then Config.stepping % 256
  else if index = 0x1000 ∧ sub = 6 then Config.serial % 2 ^ 64
  else if index = 0x1000 ∧ sub = 7 then k
  else if index = 0x1000 ∧ sub = 8 then Config.romVersion % 2 ^ 32
  else if index = 0x1200 then protDefault sub
  else if index = 0x1201 ∧ sub = 1 then protDefault 0 + protDefault 1 * 2 ^ 64
  else if index = 0x2810 then (if sub ≤ 0xBF then sourceSeverity sub else 0)
  else if 0x2820 ≤ index ∧ index ≤ 0x282B then
    (if sub = 1 then 1 else if sub = 2 then 3 else if sub = 3 then 7 else 0)
  else if index = 0x2851 then (if sub = 1 then 1 else 0)
  else if index = 0x2412 then (if sub = 0 then 0x042E else if sub ≤ 2 then 0x0217 else 0)
  else match dictFind index sub with
    | some r => r.dflt
    | none => 0

/-- Bits of a location's value: 8 times its size; a location without a row keeps 64 bits. -/
def dictWidth (key : Nat) : Nat :=
  match dictFind (key / 256) (key % 256) with
  | some r => if r.size = 0 then 64 else 8 * r.size
  | none => 64

/-- Whether a location is a package entry (R371): one value for all four strands. -/
def isPackageLoc (key : Nat) : Bool :=
  let index := key / 256
  decide (index = 0x1211) || (decide (0x1080 ≤ index) && decide (index ≤ 0x10FF)) ||
    (decide (0x2600 ≤ index) && decide (index ≤ 0x27FF))

end Sys2Proof.Machine
end

