-- ==== Sys2Proof/Machine/State.lean ====
section
/-! DEFINITION. The state of the block: plain data, one substructure for each subsystem of a strand, the
package's own state, and the queue of waiting commands. A dictionary entry of the spec is a key of `regs`
(per strand) or `Pkg.regs` (package entries, R371); everything else has a field of its own. -/

namespace Sys2Proof.Machine

/-! ### Cells (02_cell.md, 03_accumulation.md) -/

/-- What a sample or an output unit is (R129, R141, R149): the stream that numbers it, stream samples (of its delay
line, R118) per sample, the sample's number and channel; for a beam also its context, the weight generation at its
first sample and whether that changed within the unit; and the plan generation under which it was formed. -/
structure Prov where
  stream : Nat
  div    : Nat
  samp   : Int
  chan   : Nat
  ctx    : Nat := 0
  wgen   : Nat := 0
  wchg   : Bool := false
  gen    : Nat := 0
  deriving DecidableEq, Repr

/-- What the braid or a step left beside 4 bytes of staging memory: the metadata byte and what the bytes are. -/
structure Mark where
  md   : Nat
  prov : Option Prov
  deriving DecidableEq, Repr

/-- A tile of the total file (R67, R71, R74, R84): lane `l` holds its real total at key `2 l` and its
imaginary total at `2 l + 1`. `md` is the metadata combined over the integration (R127), `gen` the plan
generation and `prov` the first sample at the first promotion, `gaps` the count of R144. -/
structure Tile where
  tot      : SMap Int := []
  md       : Option Nat := none
  gen      : Nat := 0
  prov     : Option Prov := none
  gaps     : Nat := 0
  count    : Nat := 0
  flags    : Nat := 0
  owner    : Option (Nat × Nat) := none
  collided : Bool := false
  deriving DecidableEq, Repr

/-- What a VIS record carries for the header of its packet (R143, R146): operand format, promotion and W32
shifts, W48, integration length, plan generation at the dump, records per packet, the physical cell, and whether it is
the run's last record for its queue. -/
structure VisTag where
  fmt    : Nat
  pshift : Nat
  vshift : Nat
  wide   : Bool
  intLen : Nat
  gen    : Nat
  nrec   : Nat
  cell   : Nat
  last   : Bool
  deriving DecidableEq, Repr

/-- A piece of a braid word that belongs to one output unit or operand block: its bytes, metadata, what it is, the
length of the unit where it begins one, and the tag of a VIS record. -/
structure Part where
  len  : Nat
  md   : Nat := 0
  prov : Option Prov := none
  head : Option Nat := none
  vis  : Option VisTag := none
  deriving DecidableEq, Repr

/-- One 32-byte braid word with its pieces (R189); bytes beyond them are padding. -/
structure Word32 where
  bytes : List Byte
  parts : List Part
  deriving DecidableEq, Repr

/-- The dump buffer while it drains (R73, R84): the tile slot it came from, the words of the output port up to its
last, the words of its own, and whether a DUMP has met it. -/
structure DumpBuf where
  slot     : Nat
  left     : Nat
  words    : Nat
  collided : Bool := false
  deriving DecidableEq, Repr

/-- A threshold crossing of a DT step (R52, R451): detector, level, value, repetition, block, sample; the metadata and
BF flags of its beam block, and what the sample is. -/
structure Crossing where
  det    : Nat
  level  : Nat
  value  : Nat
  rep    : Nat
  blk    : Nat
  sample : Nat
  flags  : Nat := 0
  md     : Nat := 0
  prov   : Option Prov := none
  deriving DecidableEq, Repr

/-- A physical cell (R30 to R38, R185). `marks` holds what stands beside each 4 bytes of staging memory (key `65536 *
memory + address / 4`, R126); `lostIn` and `lostRun` say that a transfer to the cell was abandoned for the next and
for the present run (R196); `events` are the crossings of the last DT step. `ecc` marks words: key `m * 65536 + word`
for memory `m` (0 staging A, 1 staging B, 2 coefficient, 3 parameter), `4 * 65536 + tile * 128 + 2 * lane (+ 1)` for
totals; mark 1 is an uncorrectable word, 2 an uncorrectable word already found, 3 a poisoned word. `n0` holds the n0
of each FD step and `n0Set` those that SET_N0 gave for the next run; `flagSet` holds 1 for a parameter block whose
CLEAR and DUMP a FLAGS command set for the next run, 2 where the present run has used them (R185); `ran` the step
entries that have run since a commit introduced them (R141), and `gapHot` says that the present gap between runs has
taken its hot write (R136). -/
structure Cell where
  sa       : SMap Byte := []
  sb       : SMap Byte := []
  cm       : SMap Byte := []
  pm       : SMap Byte := []
  ecc      : SMap Nat := []
  tiles    : SMap Tile := []
  dump     : Option DumpBuf := none
  outQ     : List Word32 := []
  pos      : Nat := 0
  running  : Bool := false
  stopped  : Bool := false
  lastKF   : Option (Nat × Nat) := none
  n0       : SMap Nat := []
  n0Set    : List Nat := []
  flagSet  : SMap Nat := []
  ran      : List Nat := []
  gapHot   : Bool := false
  ag0      : SMap Nat := []
  sel      : CellMem := .stagingA
  gateOpen : Bool := true
  mirror   : Option Nat := none
  thr      : Nat := 0
  marks    : SMap (Option Mark) := []
  lostIn   : Bool := false
  lostRun  : Bool := false
  events   : List Crossing := []
  deriving DecidableEq, Repr

/-- The debug capture buffer (R92): the cell and the tile of a request that waits, and what the last capture took. -/
structure DebugWin where
  request : Option (Nat × Nat) := none
  tile    : Tile := {}
  deriving DecidableEq, Repr

/-! ### Braid and store (07_braid_store_queues.md) -/

/-- A beat instance (R194): its number, one more than its start (0 where none runs), one more than the last
slot entry that has run, and one more than the number of the last instance that has started. -/
structure BeatInst where
  j     : Nat
  start : Nat
  done  : Nat
  last  : Nat
  deriving DecidableEq, Repr

/-- A word gathered by a corner-turn engine: its region, input, first channel and channel sample (R214). -/
structure CtWord where
  region : Nat
  inp   : Nat
  chan  : Nat
  samp  : Int
  bytes : List Byte
  deriving DecidableEq, Repr

/-- A region that a braid descriptor works in. Of a CT region (R214, R215; key INDEX): words written into each half,
the half finished last and the count of halves finished, with the metadata byte of each input and half, plus 256 (key
`65536 * half + input`) and what the half's first sample is. Of a WORK region (R212; key `256 + INDEX`): what stands
beside each word. -/
structure CtRegion where
  fill0 : Nat := 0
  fill1 : Nat := 0
  ready : Option Nat := none
  count : Nat := 0
  md    : SMap Nat := []
  prov0 : Option Prov := none
  prov1 : Option Prov := none
  parts : SMap (List Part) := []
  deriving DecidableEq, Repr

/-- The store partition (R204 to R209): bytes, word marks (1 uncorrectable, 2 poisoned), corrected errors of the last
3,600 s (row, time), the rows in repair, in turn, and the rows on spares. A row number is `bank * 2048 + row`. -/
structure Store where
  mem    : SMap Byte := []
  ecc    : SMap Nat := []
  rowCe  : List (Nat × Nat) := []
  rowMap : SMap Nat := []
  repair : List Nat := []
  deriving DecidableEq, Repr

/-! ### Ingest (04_ingest_and_filters.md) -/

/-- A sample inside the chain: components, whether all or some of what it depends on is non-data (R99), and
the OR of the flags of the blocks it depends on. -/
structure Smp where
  re  : Int
  im  : Int
  all : Bool
  any : Bool
  fl  : Nat
  deriving DecidableEq, Repr

/-- A stream's chain state (R109, R114, R115): what each stage keeps of its input, newest first, the index of
the next input of each stage, the next resampler output, the next output sample, and how many samples of the
output block under way depend on non-data, depend only on it, with the OR of their flags. -/
structure Chain where
  live  : Bool := false
  filt  : List Smp := []
  st1   : List Smp := []
  st2   : List Smp := []
  st3   : List Smp := []
  rs    : List Smp := []
  nIn   : Nat := 0
  nSt1  : Nat := 0
  nSt2  : Nat := 0
  nSt3  : Nat := 0
  rsIn  : Nat := 0
  rsOut : Nat := 0
  nOut  : Option Nat := none
  accAny : Nat := 0
  accAll : Nat := 0
  accFl  : Nat := 0
  deriving DecidableEq, Repr

/-- An accepted block in staging (R106): header and payload as received, whether the strand was partitioned
(R321), whether it was accepted under the plan before the last commit (R20), and the ingest slot I(k) in force at its
acceptance, as TIME80 (R102). -/
structure Staged where
  stream  : Nat
  blk     : Nat
  bytes   : List Byte
  part    : Bool
  oldPlan : Bool
  slot    : Int
  deriving DecidableEq, Repr

/-- The last refusal of an open block (R105, R107). -/
structure OpenBlock where
  stream : Nat
  blk    : Nat
  reason : Nat
  deriving DecidableEq, Repr

/-- Ingest state: blocks in staging, refused open blocks, one more than the next block of each stream, the chains (a
stream that the last commit restarted keeps its former chain at `stream + 4096`, and is in `oldSet`), the delays of
each stream, newest first, each with one more than its first delayed block (`dly`, R119), metadata of delay-line
blocks (key `2^40 * stream + block`), the PEN of each window (R102), one more than the first block to which it applies
(`penFrom`, R452), streams whose ingest memory is bad (R125), and whether a reload waits for the next boundary (R393).
Of each stream also the accepted blocks that a slot has taken and whose windows may still be open (`taken`, R105), and
one more than the last block whose C(k) has passed (`closed`); and the snap ring slots, by store offset, that hold a
gap block (`gapAt`, R231). -/
structure Ingest where
  staged  : List Staged := []
  opens   : List OpenBlock := []
  next    : SMap Nat := []
  chains  : SMap Chain := []
  oldSet  : List Nat := []
  dly     : SMap (List (Nat × Nat)) := []
  dlMeta  : SMap Nat := []
  pen     : SMap Nat := []
  penFrom : SMap Nat := []
  memBad  : List Nat := []
  reload  : Bool := false
  taken   : SMap (List Nat) := []
  closed  : SMap Nat := []
  gapAt   : SMap Nat := []
  deriving DecidableEq, Repr

/-! ### Plans, banks and splices (05, 06) -/

/-- A bank swap that has not yet taken effect (R134): 0 DELAY of a logical cell, 1 WEIGHT of a step
(32 * cell + step); its boundary, and whether the write named it. -/
structure Swap where
  kind   : Nat
  target : Nat
  epoch  : Nat
  named  : Bool
  deriving DecidableEq, Repr

/-- A load or hot write that waits (R135, R136): 0 DELAY_LOAD of a logical cell, 1 WEIGHT_LOAD of a context,
2 WEIGHT_HOT of a context, 3 the same after a gap went by without it. -/
structure HeldLoad where
  kind   : Nat
  target : Nat
  bytes  : List Byte
  deriving DecidableEq, Repr

/-- An EPOCH-class write that waits for a boundary (R369). -/
structure PendWrite where
  due : Nat
  key : Nat
  val : Nat
  deriving DecidableEq, Repr

/-- A splice (R181): `phase` 0 preparing, 1 in effect and draining, 2 prepared; `failed` where the cell that it
retires becomes FAILED (R180); `from_` holds, of each stream whose window feeds the domain, one more than the first
block that the spare handles (R181, R452). -/
structure Splice where
  logical  : Nat
  old      : Nat
  spare    : Nat
  epoch    : Nat
  phase    : Nat
  failed   : Bool
  from_    : SMap Nat := []
  deriving DecidableEq, Repr

/-- Plan state (R153 to R177): the ACTIVE and the former image as read at their commits, and the image and profile of
the beats that run on under the plan or profile before the last change (`beatFormer`, `profFormer`); which image each
logical cell holds (1 ACTIVE, 2 former until its cut-over); the boundary of a pending commit; the largest promised
latencies of both plans in units of 2^-48 s; the epoch of the last commit; the times at which admission under a
profile stopped, with its CCLK (R172); PROFILE and CCLK in MHz; a recommit under way (R401); the base map of the
ACTIVE and of the former plan; physical cells whose reserve is spent (R182) or whose image met a bad store word
(R188); and logical cells that a hot patch has touched (R177); the splices that each domain has taken of the plan's
reserve (R179); and DMA_RATE as it stood at the check of the SHADOW image and of the ACTIVE plan (R344); and the
queues that the profile in force sheds (R173). -/
structure PlanSt where
  active      : SMap Byte := []
  former      : SMap Byte := []
  cellImages  : SMap Nat := []
  pend        : Option Nat := none
  lMax        : Nat := 0
  lFormer     : Nat := 0
  commitAt    : Nat := 0
  profAdmit   : List (Nat × Nat) := []
  profile     : Nat := 0
  cclk        : Nat := 0
  recommit    : Bool := false
  baseMap     : List Nat := []
  rcSpent     : List Nat := []
  badCells    : List Nat := []
  patched     : List Nat := []
  taken       : SMap Nat := []
  rateChecked : Nat := 0
  rateActive  : Nat := 0
  beatFormer  : SMap Byte := []
  profFormer  : Nat := 0
  baseFormer  : List Nat := []
  shed        : List Nat := []
  deriving DecidableEq, Repr

/-- Banks, swaps, loads, hot writes, hot patches and splices: `bank` and `copying` hold the active bank and the
COPY flag of the delay bank of a logical cell (its number) or of the weights of a step (65536 + 32 * cell + step), and
`bankFrom` the epoch at which that bank took effect (R55);
`eccTimes` the corrected errors of the last 3,600 s (physical cell, time; R180), `marginLow` low margin readings in a
row, `activeFor` the epochs in ACTIVE that do not yet make a second (R65). -/
structure Work where
  swaps    : List Swap := []
  held     : List HeldLoad := []
  hots     : List HeldLoad := []
  bank     : SMap Nat := []
  copying  : SMap Nat := []
  bankFrom : SMap Nat := []
  patches  : List (List Byte) := []
  splices  : List Splice := []
  eccTimes : List (Nat × Nat) := []
  marginLow : SMap Nat := []
  activeFor : SMap Nat := []
  deriving DecidableEq, Repr

/-! ### Queues and snaps (07) -/

/-- A queue descriptor (R219), and what the queue engine keeps of the packet under assembly: its length, its format
header, the records or blocks it holds, their flags, the prov of its first and the number of its last block, whether
it is INVALID or being discarded (R228). Of the unit in progress: its length (0 where there is none), the bytes taken,
its metadata, what it is, its VIS tag, the FLAGS byte of a BF record, and the place of a CT block's header in the
packet. Of a CT stream: the number of its next sample, and the channel sample that gave it. `waited` counts closed
packets that wait or waited through a stall (R227); `flowOld` holds how many of them, from the first on, closed under
a former value of their Ethernet flow, and that value (R291); `bad` says that the descriptor row is uncorrectable
(R229). -/
structure QDesc where
  head     : Nat := 0
  tail     : Nat := 0
  openHead : Nat := 0
  openTail : Nat := 0
  openUsed : Nat := 0
  isOpen   : Bool := false
  raised   : Bool := false
  stalled  : Bool := false
  cells    : Nat := 0
  pkts     : Nat := 0
  seq      : Nat := 0
  len      : Nat := 0
  hdr      : List Byte := []
  recs     : Nat := 0
  flags    : List Nat := []
  first    : Option Prov := none
  lastBlk  : Int := 0
  invalid  : Bool := false
  dropping : Bool := false
  ulen     : Nat := 0
  upos     : Nat := 0
  umd      : Nat := 0
  uprov    : Option Prov := none
  uflags   : Nat := 0
  uat      : Nat := 0
  vis      : Option VisTag := none
  ctN      : Option Nat := none
  ctSamp   : Option Int := none
  waited   : Nat := 0
  flowOld  : List (Nat × Nat) := []
  bad      : Bool := false
  deriving DecidableEq, Repr

/-- A packet that an output is sending (R224), with the value of the Ethernet flow under which it closed (R291). -/
structure TxPacket where
  queue : Nat
  cells : List Nat
  bytes : List Byte
  flow  : Nat
  deriving DecidableEq, Repr

/-- A closed packet of a plan two commits back: its output, with OUT_KIND in the low two bits, its bytes and the
value of its Ethernet flow. -/
structure OldPacket where
  out   : Nat
  queue : Nat
  bytes : List Byte
  flow  : Nat
  deriving DecidableEq, Repr

/-- An output of the queues (R223, R224, R227): its next turn, the packet it sends, whether the present turn is idle,
and whether the output is stalled. -/
structure OutSt where
  turn    : Nat := 0
  tx      : Option TxPacket := none
  idle    : Bool := false
  stalled : Bool := false
  deriving DecidableEq, Repr

/-- A pool (R216, R218): its base, its pool cells, and its free list. -/
structure Pool where
  base : Nat := 0
  np   : Nat := 0
  head : Nat := 0
  cnt  : Nat := 0
  deriving DecidableEq, Repr

/-- A capture in progress (R231): group, CAPTURE_ID, T_c in 2^-42 s, whether it continues an overlapping one, and
the (stream, block) pairs still to be queued, and whether a commit has changed its group since. -/
structure Capture where
  group     : Nat
  id        : Nat
  tcU       : Nat
  continues : Bool
  todo      : List (Nat × Nat)
  former    : Bool := false
  deriving DecidableEq, Repr

/-- The queue engine. A queue that a commit changes goes on under its former entry at key `65536 + queue` (R177), in
the former pool where the commit changed the pool (R218). -/
structure Queues where
  qd       : SMap QDesc := []
  pool     : Pool := {}
  oldPool  : Option Pool := none
  outs     : SMap OutSt := []
  caps     : List Capture := []
  capCnt   : SMap Nat := []
  readPos  : Nat := 0
  old      : List OldPacket := []
  deriving DecidableEq, Repr

/-! ### Trigger (08) -/

/-- An event in a unit: tick, source-list index and PARTITION (R236, R246). -/
structure UnitEv where
  tick : Int
  src  : Nat
  part : Bool
  deriving DecidableEq, Repr

/-- A coincidence unit (R246): events not yet taken, `last[]` as the event last seen of each source, `dead_until`,
LATE_SEEN, FIRE_SEQ, and the pin assertions to come with their times (R251). -/
structure UnitSt where
  evs     : List UnitEv := []
  last    : List UnitEv := []
  dead    : Option Int := none
  late    : Bool := false
  fireSeq : Nat := 0
  asserts : List (Nat × Nat) := []
  deriving DecidableEq, Repr

/-- A veto interval (R242): its first tick, the tick from which it has been qualified (R251), and its last. -/
structure Veto where
  lo    : Nat
  from_ : Nat
  hi    : Nat
  deriving DecidableEq, Repr

/-- A trigger input (R242 to R245): first tick of the present pulse with the settings in force then (TIN_CFG, and
STUCK_TIME_US in `stuck`) and whether it gives nothing more, the edges of ended pulses still to deliver with their
TIN_CFG, tick after the last pulse, last event, the tick of its masking, whether an unmask waits, and the veto
intervals of VETO_N. -/
structure PinSt where
  start   : Option Nat := none
  cfg     : Nat := 0
  stuck   : Nat := 0
  done    : Bool := false
  deliver : List (Nat × Nat) := []
  lastEnd : Nat := 0
  lastEv  : Option Nat := none
  maskAt  : Option Nat := none
  unmask  : Bool := false
  vetos   : List Veto := []
  deriving DecidableEq, Repr

/-- A TRIG_OUT pin (R251): whether it is asserted, the end of its pulse, and the hitch assertions of the steps under
way that have still to come (R239). -/
structure ToutSt where
  high : Bool := false
  fin  : Nat := 0
  due  : List Nat := []
  deriving DecidableEq, Repr

/-- The units of a plan that is no longer ACTIVE: its image, the units, and the tick below which they decide (R250). -/
structure OldUnits where
  img   : SMap Byte
  units : SMap UnitSt
  till  : Nat
  deriving DecidableEq, Repr

/-- The trigger fabric: one more than the last event tick of each detector and the crossings that its dead time
dropped (R237), the units of the ACTIVE plan and of the plans before it, oldest first (R250), inputs, outputs, the
last firing that raised a queue with one more than the expiry of RAISED (R253), one more than the arrival tick of each
remote entry's last message (R249; key DEVICE_ID, STRAND and UNIT), the first sixteenth of a tick in which the event
queue is free (R249), the units that have read an uncorrectable table word (R261), and whether a reload of the tables
waits for the next boundary (R393). -/
structure Trig where
  detLast  : SMap Nat := []
  detDrops : SMap Nat := []
  units    : SMap UnitSt := []
  olds     : List OldUnits := []
  pins     : SMap PinSt := []
  touts    : SMap ToutSt := []
  raised   : SMap (Nat × Nat) := []
  remLast  : SMap Nat := []
  evFree   : Nat := 0
  bad      : List Nat := []
  reload   : Bool := false
  deriving DecidableEq, Repr

/-! ### Lanes (09) -/

/-- A frame that waits on a lane (R278): its class (0 a forced IDLE, 1 TRIG, 2 TIME, 3 SUM, 4 a queue's), TYPE,
BONDED, BSEQ and body. -/
structure TxWait where
  cls    : Nat
  type   : Nat
  bonded : Bool
  bseq   : Nat
  body   : List Byte
  deriving DecidableEq, Repr

/-- A lane record (physical pair 0 to 25, or internal lane 0x20 to 0x3F): codeword lock progress, expected CW_SEQ, the
release point and how many codewords ago it was fixed, SYM_ERR at the last check and its run, electrical idle both
ways, SPARE in the peer's IDLE frames, the last test, a test due after a power cycle (R407), TIME sequence numbers and
departures, the echo to send, the last inbound delays, the last offset, its arrival and what the TIME frame said of
the peer. `resync` says that the next codeword gives the CW_SEQ anew (after training or electrical idle). Of the
transmitter: the frames that wait (R278), the time at which the last byte handed over has left, and that of the last
frame other than IDLE (R268). -/
structure LaneDyn where
  goodRun   : Nat := 0
  badRun    : Nat := 0
  locked    : Bool := false
  cwSeq     : Nat := 0
  resync    : Bool := false
  release   : Option (Nat × Nat) := none
  los       : Bool := false
  symSec    : Nat := 0
  berRun    : Nat := 0
  eiNext    : Bool := false
  txIdle    : Bool := false
  spareIdle : Bool := false
  testOk    : Bool := true
  retest    : Bool := false
  txSeq     : Nat := 0
  txDeps    : List (Nat × Nat) := []
  echo      : Option (Nat × Nat) := none
  dIns      : List Int := []
  theta     : Int := 0
  lastTime  : Option Nat := none
  peerState : Nat := 0
  peerTm    : Bool := false
  peerPart  : Bool := false
  peerRank  : Nat := 0
  peerHops  : Nat := 255
  wait      : List TxWait := []
  busy      : Nat := 0
  lastTx    : Nat := 0
  deriving DecidableEq, Repr

/-- A spare swap in progress on a logical lane or an internal lane (R286, R287): the spare and the old record,
whether this end is the initiator, mirrors, is aligned, has seen READY, the switch point, whether the old path
has failed, whether it has switched, and the time of the decision. -/
structure SwapSt where
  lane    : Nat
  spare   : Nat
  old     : Nat
  init    : Bool
  mirror  : Bool
  ready   : Bool
  peerRdy : Bool
  at_     : Option Nat
  txAt    : Option Nat
  oldDead : Bool
  swapped : Bool
  start   : Nat
  deriving DecidableEq, Repr

/-- A bonded frame that waits for an earlier one: BSEQ, arrival, lane record, TYPE and body. -/
structure BondWait where
  seq  : Nat
  at_  : Nat
  n    : Nat
  type : Nat
  body : List Byte
  deriving DecidableEq, Repr

/-- A bond (R280): next BSEQ to send and to deliver, frames that wait for a missing BSEQ with the time of the first
wait. -/
structure BondSt where
  nextTx  : Nat := 0
  nextRx  : Nat := 0
  waiting : List BondWait := []
  since   : Nat := 0
  deriving DecidableEq, Repr

/-- A running-value record received in a SUM frame (R276), waiting for its slot. -/
structure SumRec where
  lane  : Nat
  ctx   : Nat
  chan  : Nat
  samp  : Nat
  md    : Nat
  bytes : List Byte
  deriving DecidableEq, Repr

/-- All lanes and links of a strand. `sumDone` holds, for context and channel (key `65536 * ctx + chan`), one more
than the last sample whose slot has passed; `trigs` the TRIG frames accepted in the last 1 ms (arrival, sender and
unit, FIRE_SEQ), `jesdN` one more than the next sample of each stream of a JESD link, `jesdBuf` the sample codes of
its block so far, `jesdCrc` the times of its CRC-12 errors in the last 1 ms (R298), `imap` the record of each internal
lane (R299), `swapWant` lanes whose swap is called for (R285). -/
structure Lanes where
  sums    : List SumRec := []
  sumDone : SMap Nat := []
  lane  : SMap LaneDyn := []
  swaps : List SwapSt := []
  bonds : SMap BondSt := []
  trigs : List (Nat × Nat × Nat) := []
  ipId  : SMap Nat := []
  jesdN : SMap Nat := []
  jesdBuf : SMap (List Nat) := []
  jesdCrc : SMap (List Nat) := []
  imap  : SMap Nat := []
  swapWant : List Nat := []
  deriving DecidableEq, Repr

/-! ### Timing (10) -/

/-- The timing unit (R302 to R323). Phases are in units of 0.5 ps (R453). Of a switch (R313): its target, the error to
slew and since when. Of a step (R304): the permission of TIME_STEP_ARM, the step to take, whether it uses that
permission and whether it ends a switch. The second that TOD_LOAD names, whether the TAI second is known for good, and
whether a TOD_LOAD has been applied (R309). The state before ACQUIRING, history, the time of LOCKED, the steps of R315
and since when; one more than the time since which the followed input's errors are in range for LOCKED (R311), and the
last leading edge of each PPS input on the timebase (R308). Of holdover (R318): its start, U0 in ns, F0 in ppt, the
reference. The partition as it builds up and as sampled (R321). For each input one more than the time since which it
is a candidate; qualified and refused inputs; measured frequencies in ppb, with those measured; disagreeing pairs,
each with one more than the time since which it is within half the tolerance (R312). The timebase's offset in 2^-48,
OUT_OFS and when it was formed, the ends of the pulses of PPS_OUT and EPOCH_OUT, whether the pins are stopped (R323),
delay requests sent (R317). -/
structure Timing where
  target     : Option Nat := none
  slewLeft   : Int := 0
  slewAt     : Nat := 0
  stepArm    : Bool := false
  stepBy     : Option Int := none
  stepArmed  : Bool := false
  stepEnds   : Bool := false
  tod        : Option Nat := none
  todStep    : Bool := false
  todKnown   : Bool := false
  todLoaded  : Bool := false
  acqFrom    : Nat := 0
  history    : Bool := false
  lockedAt   : Nat := 0
  narrow     : Nat := 0
  acqAt      : Nat := 0
  inRange    : Nat := 0
  holdAt     : Nat := 0
  holdU0     : Nat := 0
  holdF0     : Nat := 0
  holdRef    : Nat := 15
  partNow    : Bool := false
  partition  : Bool := false
  candSince  : SMap Nat := []
  qualified  : List Nat := []
  refused    : List Nat := []
  edgeAt     : SMap Int := []
  freqPpb    : SMap Int := []
  measured   : List Nat := []
  disPairs   : List (Nat × Nat × Nat) := []
  freqOff    : Int := 0
  outOfs     : Int := 0
  outAt      : Nat := 0
  ppsFin     : Nat := 0
  epochFin   : Nat := 0
  pinHeld    : Bool := false
  ptpReq     : Nat := 0
  deriving DecidableEq, Repr

/-! ### Host port (11) -/

/-- A dictionary window of a PF (R327, R330). -/
structure Window where
  addr    : Nat := 0
  len     : Nat := 0
  data    : SMap Byte := []
  busy    : Bool := false
  done    : Bool := false
  overrun : Bool := false
  result  : Nat := 0
  pendRes : Nat := 0
  pendDat : List Byte := []
  deriving DecidableEq, Repr

/-- The command engine (R334, R335): re-reads made, the command in execution, the result code of the checks at its
arrival (0 where they pass; R373), whether it has executed and with what result (0xFF: its write still runs), its host
writes. -/
structure CmdEng where
  tries    : Nat := 0
  verdict  : Nat := 0
  cur      : Option (List Byte) := none
  executed : Bool := false
  result   : Nat := 0
  writes   : List (Nat × List Byte) := []
  noHost   : Bool := false
  deriving DecidableEq, Repr

/-- A DMA channel (R341): write offset, bytes in use, records not yet freed (bytes of each, tail included),
records since the last vector, and the time of the first unsignalled record. -/
structure DmaCh where
  off     : Nat := 0
  used    : Nat := 0
  recs    : List Nat := []
  unsig   : Nat := 0
  firstAt : Option Nat := none
  credit  : Bool := false
  deriving DecidableEq, Repr

/-- The host port of a strand. Events held while the ring is full or disabled (R337). -/
structure HostPort where
  win    : Window := {}
  cmd    : CmdEng := {}
  held   : List (List Byte) := []
  lost   : Bool := false
  dma    : SMap DmaCh := []
  deriving DecidableEq, Repr

/-! ### Management (12) -/

/-- An entry of the requester table (R359); the list is kept most recently used first. -/
structure ReqEntry where
  rq   : Requester
  seq  : Nat
  resp : List Byte
  deriving DecidableEq, Repr

/-- A nonce bound to a requester (R379). -/
structure NonceSt where
  rq    : Requester
  nonce : Nat
  at_   : Nat
  deriving DecidableEq, Repr

/-- A level-0 session (R378). -/
structure Session where
  rq   : Requester
  last : Nat
  deriving DecidableEq, Repr

/-- An access that waits for the dictionary, or a write that has executed and completes later (R135, R370, R371):
where it came from (0 UPSTREAM, 1 DOWNSTREAM, 2 the debug port, 3 the window of the PF, 4 any other), its requester,
the request (TYPE 1 READ, 2 WRITE, 3 DESCRIBE), and, once a reset has cut it off, the result code that it gets. -/
structure Ask where
  port : Nat
  rq   : Requester
  f    : LydFrame
  cut  : Nat := 0
  deriving DecidableEq, Repr

/-- The sage, the Lanyard node and protection of a strand: the requester table, accesses that wait for the dictionary,
writes that complete later, nonces, sessions, mismatches in a row, the end of a lockout, the end of a sage reset
(R353) and the last BEACON taken in, all three in always-on time, and whether none has come within 3 s (R366). -/
structure Mgmt where
  table     : List ReqEntry := []
  queue     : List Ask := []
  asks      : List Ask := []
  nonces    : List NonceSt := []
  sessions  : List Session := []
  fails     : Nat := 0
  lockUntil : Option Nat := none
  bootUntil : Nat := 0
  beaconIn  : Nat := 0
  noHead    : Bool := false
  deriving DecidableEq, Repr

/-! ### Faults and redundancy (13) -/

/-- A ladder instance (R402): function, instance, step held, whether the step is in progress, and the end of
its window. -/
structure Ladder where
  fn    : Nat
  inst  : Nat
  step  : Nat
  busy  : Bool
  until_ : Nat
  deriving DecidableEq, Repr

/-- The collector, the pins it drives and the control pair: sources at (1, 0) with their INSTANCE, sources already
raised in the epoch, the end of ERR_N's minimum width and a release that waits, ladders, one more than the time of a
miscompare that awaits its audit, one more than the time at which the fenced unit's reset began, the unit that takes a
copy of the active one and whether the copy is complete, whether a unit is fit to run the schedule (R400), a strand or
device reset that a reaction, the ladder or a write calls for, and whether the last command's capture of a package
source took an INT reaction (R389). -/
structure Faults where
  rails     : List (Nat × Nat) := []
  onceDone  : List Nat := []
  errUntil  : Nat := 0
  errRelease : Bool := false
  ladders   : List Ladder := []
  missAt    : Nat := 0
  fenceAt   : Nat := 0
  copying   : Option Nat := none
  copied    : Bool := false
  unitFit   : Bool := true
  resetReq  : Bool := false
  devReq    : Bool := false
  pkgInt    : Bool := false
  deriving DecidableEq, Repr

/-! ### Power and thermal (14) -/

/-- Power control of a strand: when each waking domain must be good, domains that heat shut down, the reset trip, the
highest sensor reading of the epoch in 0.1 °C, one more than the epoch since which the grade suits each cooler profile
(R419), boundaries in a row at or below THERM_RESTART (R420), sensors left out, sensors sampled, and FAILED cells
under self-test since their domain was powered on (R406). -/
structure Power where
  wakeBy   : SMap Nat := []
  thermOff : List Nat := []
  stripOff : Bool := false
  peak     : Option Int := none
  coolSince : SMap Nat := []
  restRun  : Nat := 0
  sensorBad : List Nat := []
  sampled  : List Nat := []
  selfTest : List Nat := []
  deriving DecidableEq, Repr

/-! ### A strand -/

/-- Where an output item goes. -/
inductive OutKind where
  /-- A posted write to host memory: address, bytes. -/
  | hostWrite
  /-- An MSI-X vector: 256 * PF + vector. -/
  | vector
  /-- An Agush frame on a lane-map number. -/
  | agush
  /-- An Ethernet frame of a port. -/
  | ether
  /-- A Lanyard frame on a port: 0 UPSTREAM, 1 DOWNSTREAM; 2 and 3 the same, aborted with K30.7. -/
  | lanyard
  /-- A codeword-level action of a lane: electrical idle, training burst, mirroring. -/
  | laneSig
  /-- A level on a pin: 0 to 3 TRIG_OUT, 4 PPS_OUT, 5 EPOCH_OUT, 6 ERR_N, 7 INT_N. -/
  | pin
  /-- A completion returned to the host: address, bytes. -/
  | completion
  deriving DecidableEq, Repr

/-- An item that the strand drove out in the last command. -/
structure Out where
  kind  : OutKind
  addr  : Nat
  bytes : List Byte
  deriving DecidableEq, Repr

/-- Answer of the dictionary unit to the last access: result code (R331) and data. -/
structure Resp where
  code : Nat := 0xFF
  data : List Byte := []
  deriving DecidableEq, Repr

/-- One strand. `ctWords` holds the words gathered by each corner-turn engine, `ct` the regions, `ctPos` for each
CT_READ descriptor the count of the half it reads and its position in it. `now` is strand time in 2^-48 s; `sageBase`
added to it gives the time of the always-on domain, which a reset or step of the timescale does not touch. -/
structure Strand where
  id      : StrandId
  now     : Nat := 0
  sageBase : Int := 0
  regs    : SMap Nat := []
  pendW   : List PendWrite := []
  resp    : Resp := {}
  out     : List Out := []
  freeCtr : Nat := 0
  cells   : SMap Cell := []
  dbg     : DebugWin := {}
  beats   : SMap BeatInst := []
  ctWords : SMap (List CtWord) := []
  ct      : SMap CtRegion := []
  ctPos   : SMap (Nat × Nat) := []
  descJ   : SMap Nat := []
  store   : Store := {}
  ing     : Ingest := {}
  plan    : PlanSt := {}
  work    : Work := {}
  q       : Queues := {}
  trig    : Trig := {}
  lanes   : Lanes := {}
  tm      : Timing := {}
  host    : HostPort := {}
  mgmt    : Mgmt := {}
  flt     : Faults := {}
  pow     : Power := {}
  deriving DecidableEq, Repr

/-! ### The package -/

/-- State of the package: package entries, OTP with its burns, pins, enumeration (`newId` is a device ID that the part
is about to take; the POS of the last ENUM and when it came, the last UNASSIGNED report and the last BEACON sent, in
strand 0's always-on time; whether the head has run its first enumeration), the part's Lanyard ports, PF4's window,
the PCI Express link and the JTAG registers. -/
structure Pkg where
  regs      : SMap Nat := []
  out       : List Out := []
  straps    : Straps := ⟨false, false, 0⟩
  devId     : Option Nat := none
  newId     : Option Nat := none
  posSeen   : Nat := 0xFFFF
  lastEnum  : Option Nat := none
  reported  : Option Nat := none
  beaconAt  : Option Nat := none
  firstEnum : Bool := false
  conflict  : Bool := false
  upLink    : Bool := false
  downLink  : Bool := false
  key       : Option Nat := none
  patches   : SMap (List Byte) := []
  burnKey   : Option Nat := none
  burnPatch : List (Nat × List Byte) := []
  win4      : Window := {}
  hpUp      : Bool := false
  xinOk     : Bool := true
  feeds     : List Feed := []
  feedsLow  : Bool := false
  pwrEn     : Bool := true
  porN      : Bool := true
  testEn    : Bool := false
  perstN    : Bool := true
  powered   : Bool := true
  jtagIr    : Nat := 0x01
  jtagBsr   : Nat := 0
  jtagPins  : Nat := 0
  jtagDr    : Nat := 0
  dbgReg    : List Byte := []
  deriving DecidableEq, Repr

/-! ### The whole block -/

/-- The state of the block. -/
structure State where
  st0     : Strand
  st1     : Strand
  st2     : Strand
  st3     : Strand
  pkg     : Pkg
  pending : List Instr
  deriving DecidableEq, Repr

/-- A fault of the model. No meaning ends in one: a request that the part refuses completes with a result
code, and a fault source is state (R383). The type has no constructor, which is safe. -/
inductive Fault where
  deriving DecidableEq, Repr

/-- A refusal of the model. -/
inductive Refusal where
  /-- A command whose meaning the model does not give yet; raised by Dispatch.lean only, and safe. -/
  | notModelled (mnemonic : String)
  deriving DecidableEq, Repr

/-- One strand of the state. -/
def State.strand (s : State) : StrandId → Strand
  | .s0 => s.st0 | .s1 => s.st1 | .s2 => s.st2 | .s3 => s.st3

/-- The state with one strand replaced. -/
def State.setStrand (s : State) (k : StrandId) (d : Strand) : State :=
  match k with
  | .s0 => { s with st0 := d }
  | .s1 => { s with st1 := d }
  | .s2 => { s with st2 := d }
  | .s3 => { s with st3 := d }

/-- A strand after a cold start (R422): STRAND_STATE RUN, no plan, FREE_RUN, strand time 0, the strand
domains that R412 keeps on in RUN powered and every cell domain and lane group off. -/
def Strand.reset (k : StrandId) : Strand :=
  { id := k
    regs := [(0x240103, 2), (0x24010C, 2), (0x24010D, 2), (0x24010E, 2), (0x24010F, 2)] }

/-- The block right after reset: the cold start of R422 done, straps low, every table empty. -/
def State.reset : State :=
  { st0 := Strand.reset .s0
    st1 := Strand.reset .s1
    st2 := Strand.reset .s2
    st3 := Strand.reset .s3
    pkg := { regs := [(0x260101, 0), (0x260400, 2), (0x260401, 2), (0x260402, 2), (0x260403, 2)] }
    pending := [] }

end Sys2Proof.Machine
end

