-- ==== Sys2Proof/Machine/Ops.lean ====
section
/-! DEFINITION. The named operations over a strand: reading and writing dictionary locations, saturating
counters, raising a fault source, driving an output, strand time, and free values. -/

namespace Sys2Proof.Machine

/-! ### Dictionary locations -/

/-- Value of a location in the strand's own dictionary (R7, R367). -/
def Strand.get (d : Strand) (index sub : Nat) : Nat :=
  smGet (dictDefault d.id.num) d.regs (locKey index sub)

/-- The strand with a location set; the value is kept to the location's width. -/
def Strand.put (d : Strand) (index sub v : Nat) : Strand :=
  let key := locKey index sub
  { d with regs := smSet (dictDefault d.id.num) d.regs key (v % 2 ^ dictWidth key) }

/-- A location back at its default. -/
def Strand.putDefault (d : Strand) (index sub : Nat) : Strand :=
  let key := locKey index sub
  { d with regs := smSet (dictDefault d.id.num) d.regs key (dictDefault d.id.num key) }

/-- Adds `n` to a counter, which saturates at its maximum (R65, R124, R409 and the other counters). -/
def Strand.bump (d : Strand) (index sub n : Nat) : Strand :=
  d.put index sub (min (d.get index sub + n) (2 ^ dictWidth (locKey index sub) - 1))

/-- Sets a signed value of a location, `n` bits wide. -/
def Strand.putInt (d : Strand) (index sub n : Nat) (v : Int) : Strand := d.put index sub (ofSigned n v)

/-- A signed value of a location, `n` bits wide. -/
def Strand.getInt (d : Strand) (index sub n : Nat) : Int := toSigned n (d.get index sub)

/-- Sets or clears bit `i` of a location. -/
def Strand.putBit (d : Strand) (index sub i : Nat) (b : Bool) : Strand :=
  d.put index sub (setBit (d.get index sub) i b)

/-- Bit `i` of a location. -/
def Strand.getBit (d : Strand) (index sub i : Nat) : Bool := bit (d.get index sub) i

/-- Field of a location. -/
def Strand.getF (d : Strand) (index sub lo n : Nat) : Nat := bits (d.get index sub) lo n

/-- Sets a field of a location. -/
def Strand.putF (d : Strand) (index sub lo n x : Nat) : Strand :=
  d.put index sub (setBits (d.get index sub) lo n x)

/-- Several locations of one index back at their defaults. -/
def Strand.clearSubs (d : Strand) (index : Nat) (subs : List Nat) : Strand :=
  subs.foldl (fun d s => d.putDefault index s) d

/-- Value of a package entry (R371). -/
def Pkg.get (g : Pkg) (index sub : Nat) : Nat := smGet (dictDefault 0) g.regs (locKey index sub)

/-- The package with a package entry set. -/
def Pkg.put (g : Pkg) (index sub v : Nat) : Pkg :=
  let key := locKey index sub
  { g with regs := smSet (dictDefault 0) g.regs key (v % 2 ^ dictWidth key) }

/-- The device ID in force for everything except Lanyard addressing (R362). -/
def Pkg.deviceId (g : Pkg) : Nat :=
  match g.devId with
  | some i => i
  | none => g.get 0x1081 0x01

/-! ### Time (R302, R303) -/

/-- Strand time as TIME80: SEC in bits 79:32 and FRAC in bits 31:0, truncated. -/
def time80 (t : Nat) : Nat := t / 2 ^ 16 % 2 ^ 80

/-- FRAC of TIME80. -/
def fracOf (t : Nat) : Nat := t / 2 ^ 16 % 2 ^ 32

/-- SEC[31:0] of TIME80. -/
def secLo (t : Nat) : Nat := t / 2 ^ 48 % 2 ^ 32

/-- Epoch ID of an instant. -/
def epochOf (t : Nat) : Nat := t / 2 ^ 38

/-- First instant of an epoch. -/
def epochStart (e : Nat) : Nat := e * 2 ^ 38

/-- Strand time in units of 2^-42 s (R100), rounded down. -/
def toU (t : Nat) : Nat := t / 2 ^ 6

/-- A length in nanoseconds, in units of 2^-48 s, rounded up. -/
def nsTime (n : Nat) : Nat := ceilDiv (n * 2 ^ 48) 1000000000

/-- A length in microseconds. -/
def usTime (n : Nat) : Nat := nsTime (1000 * n)

/-- A length in milliseconds. -/
def msTime (n : Nat) : Nat := nsTime (1000000 * n)

/-- A length in seconds. -/
def secTime (n : Nat) : Nat := n * 2 ^ 48

/-- Length of a time in nanoseconds, rounded down. -/
def toNs (t : Nat) : Nat := t * 1000000000 / 2 ^ 48

/-- Time of the always-on domain, by which the sage counts seconds over resets and steps of the timescale. -/
def Strand.sage (d : Strand) : Nat := ((d.now : Int) + d.sageBase).toNat

/-- First boundary at least 100 µs after `t` (R14). -/
def boundaryAfter (t : Nat) : Nat := ceilDiv (t * 10000 + 2 ^ 48) (10000 * 2 ^ 38)

/-- Whether boundary `e` lies at least 100 µs after `t` (R14, R174). -/
def inTime (t e : Nat) : Bool := decide (t * 10000 + 2 ^ 48 ≤ e * (10000 * 2 ^ 38))

/-! ### State of the strand (R400, R409) -/

/-- STRAND_STATE: 0 RESET, 1 RUN, 2 SAFE. -/
def Strand.stState (d : Strand) : Nat := d.get 0x2850 0x06

/-- The strand is in reset or asleep. -/
def Strand.inReset (d : Strand) : Bool := decide (d.stState = 0)

/-- The strand is in SAFE. -/
def Strand.inSafe (d : Strand) : Bool := decide (d.stState = 2)

/-- The sage runs: SAGE_STATE is not BOOT (R353, R381). -/
def Strand.sageUp (d : Strand) : Bool := decide (d.mgmt.bootUntil ≤ d.sage)

/-- State of strand domain `n`: 0 OFF, 1 WAKING, 2 ON, 3 FAILED (R425). -/
def Strand.domain (d : Strand) (n : Nat) : Nat := d.get 0x2401 n

/-- A plan is active: ACTIVE_GEN is not 0 (R155, R423). -/
def Strand.hasPlan (d : Strand) : Bool := decide (d.get 0x6000 0x06 ≠ 0)

/-! ### Fault rails (R384) -/

/-- Adds a source at (1, 0) in ascending order; a source already at (1, 0) keeps its INSTANCE. -/
def addRail (src inst : Nat) : List (Nat × Nat) → List (Nat × Nat)
  | [] => [(src, inst)]
  | (s, i) :: r =>
    if src < s then (src, inst) :: (s, i) :: r
    else if src = s then (s, i) :: r
    else (s, i) :: addRail src inst r

/-- A source drives its rails to (1, 0) and holds INSTANCE until the capture strobe. -/
def Strand.raise (d : Strand) (src inst : Nat) : Strand :=
  { d with flt := { d.flt with rails := addRail src (inst % 65536) d.flt.rails } }

/-- A source that is raised at its first occurrence in an epoch only (R125, R245, R301, R382, R409). -/
def Strand.raiseOnce (d : Strand) (src inst : Nat) : Strand :=
  if d.flt.onceDone.contains src then d
  else ({ d with flt := { d.flt with onceDone := src :: d.flt.onceDone } }).raise src inst

/-- Raises a source where a condition holds. -/
def Strand.raiseIf (d : Strand) (c : Bool) (src inst : Nat) : Strand := if c then d.raise src inst else d

/-! ### Outputs -/

/-- The strand drives something out. -/
def Strand.emit (d : Strand) (kind : OutKind) (addr : Nat) (bytes : List Byte) : Strand :=
  { d with out := d.out ++ [⟨kind, addr, bytes⟩] }

/-- A pin takes a level: 0 to 3 TRIG_OUT, 4 PPS_OUT, 5 EPOCH_OUT by level, 6 ERR_N and 7 INT_N with 1 for
asserted. -/
def Strand.pin (d : Strand) (n : Nat) (b : Bool) : Strand := d.emit .pin n [BitVec.ofNat 8 (b2n b)]

/-- MSI-X vector `v` of the strand's PF (R329). -/
def Strand.vector (d : Strand) (v : Nat) : Strand := d.emit .vector (256 * d.id.num + v) []

/-- MSI-X vector `v` of PF4 (R329). -/
def Pkg.vector4 (g : Pkg) (v : Nat) : Pkg := { g with out := g.out ++ [⟨.vector, 256 * 4 + v, []⟩] }

/-! ### Answers of the dictionary unit (R331) -/

/-- Result of the access: a code and no data. -/
def Strand.answer (d : Strand) (code : Nat) : Strand := { d with resp := ⟨code, []⟩ }

/-- OK with data. -/
def Strand.answerData (d : Strand) (data : List Byte) : Strand := { d with resp := ⟨0x00, data⟩ }

/-! ### Free values -/

/-- A value that the spec does not state: the next free number of the strand. -/
def Strand.freeNat (d : Strand) : Nat × Strand :=
  (Config.freeValue (4 * d.freeCtr + d.id.num), { d with freeCtr := d.freeCtr + 1 })

/-- A signed value that the spec does not state. -/
def Strand.freeI (d : Strand) : Int × Strand :=
  (Config.freeInt (4 * d.freeCtr + d.id.num), { d with freeCtr := d.freeCtr + 1 })

/-- Raises a source whose INSTANCE R393 does not give: a free value. -/
def Strand.raiseAny (d : Strand) (src : Nat) : Strand := d.freeNat.2.raise src d.freeNat.1

/-- The same at its first occurrence in an epoch. -/
def Strand.raiseAnyOnce (d : Strand) (src : Nat) : Strand := d.freeNat.2.raiseOnce src d.freeNat.1

/-! ### Cells -/

/-- A physical cell. -/
def Strand.cell (d : Strand) (p : Nat) : Cell := smGet (fun _ => ({} : Cell)) d.cells p

/-- The strand with a physical cell replaced. -/
def Strand.setCell (d : Strand) (p : Nat) (c : Cell) : Strand :=
  { d with cells := smSet (fun _ => ({} : Cell)) d.cells p c }

/-- Physical cell of a logical cell (CELL_MAP, R24, R181); 0xFFFF for none. -/
def Strand.physOf (d : Strand) (l : Nat) : Nat := d.get 0x5300 l

/-- Logical cell of a physical cell (LOGICAL); 0xFFFF for none. -/
def Strand.logicalOf (d : Strand) (p : Nat) : Nat := d.get (0x5100 + p) 0x02

/-- Cell domain of a physical cell (R24). -/
def cellDomain (p : Nat) : Nat := p / 34

end Sys2Proof.Machine
end

