-- ==== Sys2Proof/Machine/Events.lean ====
section
/-! DEFINITION. The event queue (R336, R337): building an event, writing it to the ring, holding it. -/

namespace Sys2Proof.Machine

/-- Bytes 4 to 31 of an event (R336): TYPE, LOST clear, RESETS, ARG0, ARG1, FRAC and SEC_LO. -/
def eventBody (d : Strand) (type arg0 arg1 : Nat) : List Byte :=
  natToBytes 1 type ++ zeros 1 ++ natToBytes 2 (d.get 0x1103 0x01) ++ natToBytes 8 arg0 ++
    natToBytes 8 arg1 ++ natToBytes 4 (fracOf d.now) ++ natToBytes 4 (secLo d.now)

/-- TYPE of an event's bytes 4 to 31. -/
def eventType (b : List Byte) : Nat := fieldAt b 0 1

/-- The ring has a free slot and is enabled. -/
def Strand.evqRoom (d : Strand) : Bool :=
  decide (d.get 0x1101 0x03 = 1) &&
    decide (serialSub 32 (d.get 0x1101 0x04) (d.get 0x1101 0x05) < 2 ^ d.get 0x1101 0x02)

/-- Writes an event to slot E mod size: bytes 4 to 31, then bytes 0 to 3 with SEQ, then vector 0. -/
def Strand.writeEvent (d : Strand) (body : List Byte) : Strand :=
  let e := d.get 0x1101 0x04
  let a := d.get 0x1101 0x01 + 32 * (e % 2 ^ d.get 0x1101 0x02)
  let b := if d.host.lost then body.take 1 ++ [1#8] ++ body.drop 2 else body
  let d := (d.emit .hostWrite (a + 4) b).emit .hostWrite a (natToBytes 4 e)
  let d := { d with host := { d.host with lost := false } }
  (d.put 0x1101 0x04 ((e + 1) % 2 ^ 32)).vector 0

/-- A dropped event: counted, LOST pending, EVQ_OVERFLOW raised (R337). -/
def Strand.loseEvent (d : Strand) : Strand :=
  let d := { d with host := { d.host with lost := true } }
  (d.bump 0x1101 0x07 1).raise 0x92 0xFFFF

/-- Holds an event while the queue is full or disabled; a STRAND_RESET event replaces the oldest (R337). -/
def Strand.holdEvent (d : Strand) (body : List Byte) : Strand :=
  if d.host.held.length < 64 then { d with host := { d.host with held := d.host.held ++ [body] } }
  else if eventType body = 0x05 then
    ({ d with host := { d.host with held := d.host.held.drop 1 ++ [body] } }).loseEvent
  else d.loseEvent

/-- Writes held events, oldest first, while there is room. -/
def drainList (d : Strand) : List (List Byte) → Strand
  | [] => { d with host := { d.host with held := [] } }
  | b :: r =>
    if d.evqRoom then drainList (d.writeEvent b) r
    else { d with host := { d.host with held := b :: r } }

/-- Writes what the ring now takes of the held events. -/
def Strand.drainEvents (d : Strand) : Strand := drainList d d.host.held

/-- Posts an event that EVQ_MASK enables (R336, EVENT_POST). -/
def Strand.post (d : Strand) (type arg0 arg1 : Nat) : Strand :=
  if decide (2 ≤ type) && !(d.getBit 0x1101 0x06 type) then d
  else
    let b := eventBody d type arg0 arg1
    if d.host.held.isEmpty && d.evqRoom then d.writeEvent b else d.holdEvent b

/-- A discarded doorbell value: DB_BAD posted and HP_DB_BAD raised (R334, R336, R341). -/
def Strand.dbBad (d : Strand) (bell v inst : Nat) : Strand :=
  (d.post 0x03 (bell + v % 2 ^ 32 * 2 ^ 32) 0).raise 0x91 inst

/-- Posts TIME_STATE (R336). -/
def Strand.postTimeState (d : Strand) : Strand :=
  d.post 0x08 (bits (d.get 0x2000 0x01) 0 3 + bits (d.get 0x2000 0x04) 0 4 * 16) 0

/-- Posts DMA_STATE of a channel (R336). -/
def Strand.postDmaState (d : Strand) (c : Nat) : Strand :=
  d.post 0x07 (c + b2n (d.getBit (0x7000 + c) 0x0B 0) * 256 + b2n (d.getBit (0x7000 + c) 0x0B 1) * 512) 0

end Sys2Proof.Machine
end

