-- ==== Sys2Proof/Machine/Phasor.lean ====
section
/-! DEFINITION. The phasor ROMs of a cell (R41), from their formula: the first quarter of A cos(2 pi k / 1024),
rounded to nearest, for A = 7, 127 and 32768; the other three quarters follow by symmetry. -/

namespace Sys2Proof.Machine

/-- Part 0 of the quarter wave for A = 7. -/
def ph4Part0 : List Int :=
  [7, 7, 7, 7, 7, 7, 7, 7, 7, 7, 7, 7, 7, 7, 7, 7,
   7, 7, 7, 7, 7, 7, 7, 7, 7, 7, 7, 7, 7, 7, 7, 7,
   7, 7, 7, 7, 7, 7, 7, 7, 7, 7, 7, 7, 7, 7, 7, 7,
   7, 7, 7, 7, 7, 7, 7, 7, 7, 7, 7, 7, 7, 7, 6, 6]

/-- Part 1 of the quarter wave for A = 7. -/
def ph4Part1 : List Int :=
  [6, 6, 6, 6, 6, 6, 6, 6, 6, 6, 6, 6, 6, 6, 6, 6,
   6, 6, 6, 6, 6, 6, 6, 6, 6, 6, 6, 6, 6, 6, 6, 6,
   6, 6, 6, 6, 6, 6, 6, 6, 6, 6, 6, 6, 6, 5, 5, 5,
   5, 5, 5, 5, 5, 5, 5, 5, 5, 5, 5, 5, 5, 5, 5, 5]

/-- Part 2 of the quarter wave for A = 7. -/
def ph4Part2 : List Int :=
  [5, 5, 5, 5, 5, 5, 5, 5, 5, 5, 5, 5, 5, 5, 5, 4,
   4, 4, 4, 4, 4, 4, 4, 4, 4, 4, 4, 4, 4, 4, 4, 4,
   4, 4, 4, 4, 4, 4, 4, 4, 4, 4, 4, 3, 3, 3, 3, 3,
   3, 3, 3, 3, 3, 3, 3, 3, 3, 3, 3, 3, 3, 3, 3, 3]

/-- Part 3 of the quarter wave for A = 7. -/
def ph4Part3 : List Int :=
  [3, 3, 3, 3, 3, 2, 2, 2, 2, 2, 2, 2, 2, 2, 2, 2,
   2, 2, 2, 2, 2, 2, 2, 2, 2, 2, 2, 2, 2, 1, 1, 1,
   1, 1, 1, 1, 1, 1, 1, 1, 1, 1, 1, 1, 1, 1, 1, 1,
   1, 1, 1, 1, 1, 0, 0, 0, 0, 0, 0, 0, 0, 0, 0, 0,
   0]

/-- A cos(2 pi k / 1024) for k from 0 to 256, A = 7. -/
def ph4Quarter : List Int := ph4Part0 ++ ph4Part1 ++ ph4Part2 ++ ph4Part3

/-- Part 0 of the quarter wave for A = 127. -/
def ph8Part0 : List Int :=
  [127, 127, 127, 127, 127, 127, 127, 127, 127, 127, 127, 127, 127, 127, 127, 126,
   126, 126, 126, 126, 126, 126, 126, 126, 126, 126, 125, 125, 125, 125, 125, 125,
   125, 124, 124, 124, 124, 124, 124, 123, 123, 123, 123, 123, 122, 122, 122, 122,
   122, 121, 121, 121, 121, 120, 120, 120, 120, 119, 119, 119, 118, 118, 118, 118]

/-- Part 1 of the quarter wave for A = 127. -/
def ph8Part1 : List Int :=
  [117, 117, 117, 116, 116, 116, 115, 115, 115, 114, 114, 114, 113, 113, 113, 112,
   112, 112, 111, 111, 111, 110, 110, 109, 109, 109, 108, 108, 107, 107, 106, 106,
   106, 105, 105, 104, 104, 103, 103, 102, 102, 102, 101, 101, 100, 100, 99, 99,
   98, 98, 97, 97, 96, 96, 95, 95, 94, 94, 93, 93, 92, 91, 91, 90]

/-- Part 2 of the quarter wave for A = 127. -/
def ph8Part2 : List Int :=
  [90, 89, 89, 88, 88, 87, 86, 86, 85, 85, 84, 84, 83, 82, 82, 81,
   81, 80, 79, 79, 78, 78, 77, 76, 76, 75, 74, 74, 73, 72, 72, 71,
   71, 70, 69, 69, 68, 67, 67, 66, 65, 65, 64, 63, 63, 62, 61, 61,
   60, 59, 58, 58, 57, 56, 56, 55, 54, 54, 53, 52, 51, 51, 50, 49]

/-- Part 3 of the quarter wave for A = 127. -/
def ph8Part3 : List Int :=
  [49, 48, 47, 46, 46, 45, 44, 44, 43, 42, 41, 41, 40, 39, 38, 38,
   37, 36, 35, 35, 34, 33, 32, 32, 31, 30, 29, 29, 28, 27, 26, 26,
   25, 24, 23, 22, 22, 21, 20, 19, 19, 18, 17, 16, 16, 15, 14, 13,
   12, 12, 11, 10, 9, 9, 8, 7, 6, 5, 5, 4, 3, 2, 2, 1,
   0]

/-- A cos(2 pi k / 1024) for k from 0 to 256, A = 127. -/
def ph8Quarter : List Int := ph8Part0 ++ ph8Part1 ++ ph8Part2 ++ ph8Part3

/-- Part 0 of the quarter wave for A = 32768. -/
def ph16Part0 : List Int :=
  [32768, 32767, 32766, 32762, 32758, 32753, 32746, 32738, 32729, 32718, 32706, 32693, 32679, 32664, 32647, 32629,
   32610, 32590, 32568, 32546, 32522, 32496, 32470, 32442, 32413, 32383, 32352, 32319, 32286, 32251, 32214, 32177,
   32138, 32099, 32058, 32015, 31972, 31927, 31881, 31834, 31786, 31737, 31686, 31634, 31581, 31527, 31471, 31415,
   31357, 31298, 31238, 31177, 31114, 31050, 30986, 30920, 30853, 30784, 30715, 30644, 30572, 30499, 30425, 30350]

/-- Part 1 of the quarter wave for A = 32768. -/
def ph16Part1 : List Int :=
  [30274, 30196, 30118, 30038, 29957, 29875, 29792, 29707, 29622, 29535, 29448, 29359, 29269, 29178, 29086, 28993,
   28899, 28803, 28707, 28610, 28511, 28411, 28311, 28209, 28106, 28002, 27897, 27791, 27684, 27576, 27467, 27357,
   27246, 27133, 27020, 26906, 26791, 26674, 26557, 26439, 26320, 26199, 26078, 25956, 25833, 25708, 25583, 25457,
   25330, 25202, 25073, 24943, 24812, 24680, 24548, 24414, 24279, 24144, 24008, 23870, 23732, 23593, 23453, 23312]

/-- Part 2 of the quarter wave for A = 32768. -/
def ph16Part2 : List Int :=
  [23170, 23028, 22884, 22740, 22595, 22449, 22302, 22154, 22006, 21856, 21706, 21555, 21403, 21251, 21097, 20943,
   20788, 20632, 20475, 20318, 20160, 20001, 19841, 19681, 19520, 19358, 19195, 19032, 18868, 18703, 18538, 18372,
   18205, 18037, 17869, 17700, 17531, 17361, 17190, 17018, 16846, 16673, 16500, 16326, 16151, 15976, 15800, 15624,
   15447, 15269, 15091, 14912, 14733, 14553, 14373, 14192, 14010, 13828, 13646, 13463, 13279, 13095, 12910, 12725]

/-- Part 3 of the quarter wave for A = 32768. -/
def ph16Part3 : List Int :=
  [12540, 12354, 12167, 11980, 11793, 11605, 11417, 11228, 11039, 10850, 10660, 10469, 10279, 10088, 9896, 9704,
   9512, 9319, 9127, 8933, 8740, 8546, 8351, 8157, 7962, 7767, 7571, 7376, 7180, 6983, 6787, 6590,
   6393, 6195, 5998, 5800, 5602, 5404, 5205, 5007, 4808, 4609, 4410, 4211, 4011, 3812, 3612, 3412,
   3212, 3012, 2811, 2611, 2411, 2210, 2009, 1809, 1608, 1407, 1206, 1005, 804, 603, 402, 201,
   0]

/-- A cos(2 pi k / 1024) for k from 0 to 256, A = 32768. -/
def ph16Quarter : List Int := ph16Part0 ++ ph16Part1 ++ ph16Part2 ++ ph16Part3

/-- A cos(2 pi k / 1024) rounded, for any k, from the quarter wave. -/
def fullCos (q : List Int) (k : Nat) : Int :=
  let i := k % 1024
  if i ≤ 256 then q.getD i 0
  else if i ≤ 512 then -(q.getD (512 - i) 0)
  else if i ≤ 768 then -(q.getD (i - 512) 0)
  else q.getD (1024 - i) 0

/-- Entry `k` of a phasor ROM: (c, s), each at most C. -/
def romEntry (q : List Int) (c : Int) (k : Nat) : Int × Int :=
  (min c (fullCos q k), min c (fullCos q (k + 768)))

/-- Entry `k` of the ROM of a weight format: 0 PH4, 1 PH8, otherwise PH16. -/
def phasorRom (fmt k : Nat) : Int × Int :=
  if fmt = 0 then romEntry ph4Quarter 7 k
  else if fmt = 1 then romEntry ph8Quarter 127 k
  else romEntry ph16Quarter 32767 k

end Sys2Proof.Machine
end

