-- ==== Sys2Proof/Machine/Operands.lean ====
section
/-! DEFINITION. Operand forms of a cell: samples in every format (R25, R28, R98), the step entry (R35), the
parameter block's fields (R39), the address generators (R33, R34), and the reader of a cell's memories. -/

namespace Sys2Proof.Machine

/-! ### Samples -/

/-- A complex number: real and imaginary component. -/
abbrev Cx := Int × Int

/-- Plain product (R26). -/
def cxMul (a b : Cx) : Cx := (a.1 * b.1 - a.2 * b.2, a.1 * b.2 + a.2 * b.1)

/-- Conjugate product a·conj(b) (R26). -/
def cxMulConj (a b : Cx) : Cx := (a.1 * b.1 + a.2 * b.2, a.2 * b.1 - a.1 * b.2)

/-- Bytes of a sample of a cell format (R25): 0 CX4, 1 CX8, 2 CX16, 4 S8, 5 S16. -/
def sampleBytes (fmt : Nat) : Nat := if fmt = 1 ∨ fmt = 5 then 2 else if fmt = 2 then 4 else 1

/-- The sample that bytes spell. -/
def sampleOf (fmt v : Nat) : Cx :=
  if fmt = 0 then (toSigned 4 (bits v 0 4), toSigned 4 (bits v 4 4))
  else if fmt = 1 then (toSigned 8 (bits v 0 8), toSigned 8 (bits v 8 8))
  else if fmt = 2 then (toSigned 16 (bits v 0 16), toSigned 16 (bits v 16 16))
  else if fmt = 4 then (toSigned 8 (bits v 0 8), 0)
  else (toSigned 16 (bits v 0 16), 0)

/-- The bytes of a sample. -/
def sampleEnc (fmt : Nat) (x : Cx) : List Byte :=
  if fmt = 0 then natToBytes 1 (ofSigned 4 x.1 + 16 * ofSigned 4 x.2)
  else if fmt = 1 then natToBytes 1 (ofSigned 8 x.1) ++ natToBytes 1 (ofSigned 8 x.2)
  else if fmt = 2 then natToBytes 2 (ofSigned 16 x.1) ++ natToBytes 2 (ofSigned 16 x.2)
  else if fmt = 4 then natToBytes 1 (ofSigned 8 x.1)
  else natToBytes 2 (ofSigned 16 x.1)

/-- `sat_F` of R27. -/
def satFmt (fmt : Nat) (v : Int) : Int :=
  if fmt = 0 then clampI (-7) 7 v
  else if fmt = 1 ∨ fmt = 4 then clampI (-128) 127 v
  else clampI (-32768) 32767 v

/-- An invalid CX4 sample (R28). -/
def invalidCx4 (fmt : Nat) (x : Cx) : Bool := decide (fmt = 0) && (decide (x.1 = -8) || decide (x.2 = -8))

/-- The sample as XT, XA and BP use it: an invalid one contributes zero (R28). -/
def effective (fmt : Nat) (x : Cx) : Cx := if invalidCx4 fmt x then (0, 0) else x

/-- How many of the samples are invalid. -/
def invCount (fmt : Nat) (l : List Cx) : Nat := (l.filter (invalidCx4 fmt)).length

/-- Multiplier lanes of a format (R64). -/
def lanesOf (fmt : Nat) : Nat := if fmt = 0 then 64 else if fmt = 1 then 16 else 4

/-- Passes P of a format (R25). -/
def passesOf (fmt : Nat) : Nat := 64 / lanesOf fmt

/-- Leading-sign count of R40: `lsc (w - 1) v` is `LSC_w(v)`. -/
def lsc : Nat → Int → Nat
  | 0, _ => 0
  | n + 1, v => if -(2 : Int) ^ n ≤ v ∧ v < 2 ^ n then 1 + lsc n v else 0

/-! ### Step list and parameter block -/

/-- A step entry (R35). -/
structure StepEntry where
  pbUnit : Nat
  agUnit : Nat
  last   : Bool
  rep    : Nat
  tile   : Nat
  deriving DecidableEq, Repr

/-- The step entry that 64 bits spell. -/
def stepEntryOf (w : Nat) : StepEntry :=
  ⟨bits w 0 7, bits w 8 7, bit w 15, bits w 16 16 + 1, bits w 32 6⟩

/-- KERNEL, FMT and OFMT of a parameter block (R39). -/
def pbKernel (pb : Nat) : Nat := bits pb 0 4
/-- FMT. -/
def pbFmt (pb : Nat) : Nat := bits pb 4 4
/-- OFMT. -/
def pbOfmt (pb : Nat) : Nat := bits pb 8 4

/-- Group size of GROUP (R46, R56). -/
def groupOf (g : Nat) : Nat := if g = 0 then 4 else if g = 1 then 8 else 16

/-- TAPS of an FP block (R56). -/
def fpTaps (pb : Nat) : Nat := 4 * (bits pb 18 2 + 1)

/-! ### Address generators -/

/-- An address generator descriptor (R33). -/
structure Ag where
  base   : Nat
  len    : Nat
  step   : Int
  mem    : Nat
  chain  : Bool
  stride : Int
  deriving DecidableEq, Repr

/-- The descriptor that 64 bits spell. -/
def agOf (w : Nat) : Ag :=
  ⟨bits w 0 16, bits w 16 16 + 1, toSigned 16 (bits w 32 16), bits w 48 2, bit w 50, toSigned 12 (bits w 52 12)⟩

/-- The eight descriptors of an AG set. -/
def agSet (w : Nat) : List Ag := (List.range 8).map fun n => agOf (bits w (64 * n) 64)

/-- Descriptor `n` of a set. -/
def agAt (l : List Ag) (n : Nat) : Ag := l.getD n (agOf 0)

/-- SIZE of the memory that a generator addresses. -/
def agSize (a : Ag) : Nat := if a.mem = 2 then 32768 else 65536

/-- Base at repetition `r` (R34). -/
def agBase (a : Ag) (r : Nat) : Nat := (((a.base : Int) + (r : Int) * a.stride * 16) % (agSize a : Int)).toNat

/-- Address of byte `b` of element `e` of `es` bytes, at offset `off` (R34). -/
def agAddr (a : Ag) (r off e es b : Nat) : Nat := (agBase a r + (off + e * es + b) % a.len) % agSize a

/-- `advance(n)` of R34; `fuel` bounds the chain. -/
def agAdvance : Nat → List Ag → Nat → List Nat → List Nat
  | 0, _, _, offs => offs
  | fuel + 1, ags, n, offs =>
    let a := agAt ags n
    let t : Int := (offs.getD n 0 : Int) + a.step
    let offs' := offs.set n (t % (a.len : Int)).toNat
    if (t < 0 ∨ (a.len : Int) ≤ t) ∧ n < 7 ∧ (agAt ags (n + 1)).chain = true then
      agAdvance fuel ags (n + 1) offs'
    else offs'

/-- Advances generators in turn. One with CHAIN advances only when the generator before it wraps (R33). -/
def agAdvanceAll (ags : List Ag) (ns : List Nat) (offs : List Nat) : List Nat :=
  ns.foldl (fun o n => if n ≠ 0 ∧ (agAt ags n).chain = true then o else agAdvance 8 ags n o) offs

/-- The offsets at the start of each of `count` samples, `ns` advancing once per sample. -/
def agWalk (ags : List Ag) (ns : List Nat) : Nat → List Nat → List (List Nat)
  | 0, _ => []
  | n + 1, o => o :: agWalk ags ns n (agAdvanceAll ags ns o)

/-! ### Reading a cell's memories -/

/-- One of the cell's memories by code: 0 staging A, 1 staging B, 2 coefficient, 3 parameter (R185). -/
def Cell.memOf (c : Cell) (m : Nat) : SMap Byte :=
  if m = 0 then c.sa else if m = 1 then c.sb else if m = 2 then c.cm else c.pm

/-- The cell with one of its memories replaced. -/
def Cell.setMem (c : Cell) (m : Nat) (v : SMap Byte) : Cell :=
  if m = 0 then { c with sa := v } else if m = 1 then { c with sb := v }
  else if m = 2 then { c with cm := v } else { c with pm := v }

/-- Size of a memory in bytes (R30); memory 4 is the total file, of 64 tiles with 128 totals of a word each. -/
def memSize (m : Nat) : Nat := if m = 2 then 32768 else if m = 3 then 8192 else 65536

/-- Code of a memory: 0 to 3 as SELECT names it (R185), 4 the total file. -/
def memCode : CellMem → Nat
  | .stagingA => 0 | .stagingB => 1 | .coefficient => 2 | .parameter => 3 | .totals => 4

/-- ECC mark of the 64-bit word that holds an address (R32). -/
def Cell.markAt (c : Cell) (m a : Nat) : Nat := smGet zeroAt c.ecc (m * 65536 + a / 8)

/-- A byte as the datapath reads it: zero in an uncorrectable or poisoned word (R32). -/
def Cell.rd (c : Cell) (m a : Nat) : Byte :=
  if c.ecc.isEmpty then smGet zeroByteAt (c.memOf m) a
  else if c.markAt m a = 0 then smGet zeroByteAt (c.memOf m) a else 0#8

/-- Element `e` of a generator as a number. -/
def agRead (c : Cell) (a : Ag) (r off e es : Nat) : Nat :=
  bytesToNat ((List.range es).map fun b => c.rd a.mem (agAddr a r off e es b))

/-- `n` samples from element 0 of a generator. -/
def agSamples (c : Cell) (a : Ag) (fmt r off n : Nat) : List Cx :=
  (List.range n).map fun e => sampleOf fmt (agRead c a r off e (sampleBytes fmt))

/-- Bytes `a` to `a + n - 1` of the parameter memory as a number. -/
def Cell.pmNat (c : Cell) (a n : Nat) : Nat :=
  bytesToNat ((List.range n).map fun i => c.rd 3 (a + i))

/-- Step entry `e` of the step list (R35). -/
def Cell.stepAt (c : Cell) (e : Nat) : StepEntry := stepEntryOf (c.pmNat (8 * e) 8)

/-- Stores a byte by control port, braid or datapath: the word's mark is cleared (R32). DESIGN CHOICE: a write of part
of an uncorrectable word clears its mark too, and the rest of the word reads as it stood (assumption log 71). -/
def Cell.store (c : Cell) (m a : Nat) (b : Byte) : Cell :=
  let c := c.setMem m (smSet zeroByteAt (c.memOf m) a b)
  { c with ecc := smSet zeroAt c.ecc (m * 65536 + a / 8) 0 }

/-- Stores bytes at ascending addresses, wrapping at the memory's size. -/
def Cell.storeBytes (c : Cell) (m a : Nat) : List Byte → Cell
  | [] => c
  | b :: r => (c.store m (a % memSize m) b).storeBytes m (a % memSize m + 1) r

/-- What the datapath stores, as (memory, address, byte): it writes staging memory only (R30). -/
def Cell.storeAll (c : Cell) (l : List (Nat × Nat × Byte)) : Cell :=
  (l.filter fun x => decide (x.1 < 2)).foldl (fun c x => c.store x.1 x.2.1 x.2.2) c

/-! ### What stands beside operand data (R126, R127) -/

/-- The mark beside a byte of staging memory. -/
def Cell.markOf (c : Cell) (m a : Nat) : Option Mark := smGet (fun _ => none) c.marks (m * 65536 + a / 4)

/-- The cell with the marks of `n` bytes from an address on replaced; addresses wrap. -/
def Cell.setMarks (c : Cell) (m a n : Nat) (k : Option Mark) : Cell :=
  if 2 ≤ m ∨ n = 0 then c
  else { c with marks := (List.range ((a % 4 + n + 3) / 4)).foldl (fun t i =>
    smSet (fun _ => none) t (m * 65536 + (a / 4 + i) % 16384) k) c.marks }

/-- Marks of elements `e` to `e + n - 1` of a generator. -/
def elemMarks (c : Cell) (a : Ag) (r off e n es : Nat) : List Mark :=
  if c.marks.isEmpty ∨ 2 ≤ a.mem then []
  else (List.range (n * es)).filterMap fun b => c.markOf a.mem (agAddr a r off e es b)

/-- What the data of some marks is: the first that is known. -/
def provOf (l : List Mark) : Option Prov := l.findSome? (·.prov)

/-- The stores of one element's bytes. -/
def agWrites (a : Ag) (r off e es : Nat) (bs : List Byte) : List (Nat × Nat × Byte) :=
  bs.zipIdx.map fun p => (a.mem, agAddr a r off e es p.2, p.1)

end Sys2Proof.Machine
end

