-- ==== Sys2Proof/Machine/Flags.lean ====
section
/-! DEFINITION. Flag and status computations: block metadata (R99, R127), tile status words (R74), and the
combination of step metadata. -/

namespace Sys2Proof.Machine

/-! ### Metadata bytes (R99, R127): bit 0 GAP, 1 EDGE, 2 INVALID, 3 PARTITION, 4 CONV_SAT, 5 RF_HIT, 6 FIR,
7 DLY_STEP -/

/-- INVALID as a metadata byte. -/
def mdInvalid : Nat := 4

/-- The combination of two metadata bytes (R127): bits 2 to 7 are ORed, GAP needs both, EDGE is any GAP or
EDGE where not both are gaps. -/
def mdJoin (a b : Nat) : Nat :=
  let gap := bit a 0 && bit b 0
  let edge := !gap && (bits a 0 2 ≠ 0 || bits b 0 2 ≠ 0)
  ((a ||| b) / 4 % 64) * 4 + b2n gap + 2 * b2n edge

/-- Adds one metadata byte to a combination. -/
def mdAdd (acc : Option Nat) (m : Nat) : Option Nat :=
  match acc with
  | none => some m
  | some a => some (mdJoin a m)

/-- The combination of a list. -/
def mdAll (l : List Nat) : Option Nat := l.foldl mdAdd none

/-- The combination of the marks of operand data. -/
def mdOf (l : List Mark) : Nat := (mdAll (l.map (·.md))).getD 0

/-- A metadata byte with INVALID where a condition holds. -/
def mdBad (b : Bool) (m : Nat) : Nat := if b then setBit m 2 true else m

/-- Whether a metadata byte marks lost samples. -/
def mdLost (m : Nat) : Bool := decide (bits m 0 2 ≠ 0)

/-! ### Tile status word (R71, R74) -/

/-- Bit numbers of the status word. -/
def stSat : Nat := 16
/-- CHUNK_SAT. -/
def stChunkSat : Nat := 17
/-- BOUND. -/
def stBound : Nat := 18
/-- COLLIDE. -/
def stCollide : Nat := 19
/-- INVALID. -/
def stInvalid : Nat := 20
/-- OPEN. -/
def stOpen : Nat := 21

/-- The status word: PCNT is the promotion count minus 1, held at 0xFFFF. -/
def Tile.status (t : Tile) : Nat := min (t.count - 1) 0xFFFF + bits t.flags 16 6 * 2 ^ 16

/-- Sets a bit of the status word. -/
def Tile.flag (t : Tile) (b : Nat) (v : Bool) : Tile := if v then { t with flags := setBit t.flags b true } else t

/-- A total of a tile: real at `2 l`, imaginary at `2 l + 1`. -/
def Tile.total (t : Tile) (i : Nat) : Int := smGet (fun _ => (0 : Int)) t.tot i

/-- The tile with a total set. -/
def Tile.setTotal (t : Tile) (i : Nat) (v : Int) : Tile := { t with tot := smSet (fun _ => (0 : Int)) t.tot i v }

/-- A tile of a cell. -/
def Cell.tile (c : Cell) (n : Nat) : Tile := smGet (fun _ => ({} : Tile)) c.tiles n

/-- The cell with a tile replaced. -/
def Cell.setTile (c : Cell) (n : Nat) (t : Tile) : Cell :=
  { c with tiles := smSet (fun _ => ({} : Tile)) c.tiles n t }

end Sys2Proof.Machine
end

