-- ==== Sys2Proof/Machine/Kernels.lean ====
section
/-! DEFINITION. The kernels (R43 to R63): what one repetition of a step reads, computes and emits. Every
function is exact; the tile file, ECC and faults are applied by the step in CellOps.lean. -/

namespace Sys2Proof.Machine

/-- What one repetition produces: output-port bytes, stores, and the counts of R28, R62 and R93. -/
structure KOut where
  out    : List Byte := []
  wr     : List (Nat × Nat × Byte) := []
  inv    : Nat := 0
  tsErr  : Nat := 0
  rvSat  : Nat := 0
  evs    : List Crossing := []
  thr    : List (Nat × Nat) := []
  passes : List (List (Cx × Bool)) := []
  lanes  : List (Nat × Cx) := []
  deriving DecidableEq, Repr

/-! ### XT and XA (R44, R45, R68) -/

/-- Adds a product component to a chunk; CX16 clamps to 40 bits (R68). -/
def chunkAdd (fmt : Nat) (acc : Int × Bool) (v : Int) : Int × Bool :=
  let s := acc.1 + v
  if fmt = 2 then
    let c := clampI (-549755813888) 549755813887 s
    (c, acc.2 || decide (c ≠ s))
  else (s, acc.2)

/-- The chunk of a lane over its products in sample order. -/
def chunkOf (fmt : Nat) (ps : List Cx) : Cx × Bool :=
  let re := ps.foldl (fun a p => chunkAdd fmt a p.1) (0, false)
  let im := ps.foldl (fun a p => chunkAdd fmt a p.2) (0, false)
  ((re.1, im.1), re.2 || im.2)

/-- Row and column inputs of each sample of a pass. -/
def xtInputs (c : Cell) (ags : List Ag) (pb r : Nat) : List (List Cx × List Cx) :=
  let fmt := pbFmt pb
  (agWalk ags [0, 1] (bits pb 16 13) (List.replicate 8 0)).map fun o =>
    (agSamples c (agAt ags 0) fmt r (o.getD 0 0) 8, agSamples c (agAt ags 1) fmt r (o.getD 1 0) 8)

/-- One repetition of XT: pass `p` covers lanes `64 p / P` to `64 (p + 1) / P - 1`; lane `8 c + r` accumulates
row `r` times the conjugate of column `c`. -/
def kernelXt (c : Cell) (ags : List Ag) (pb r : Nat) : KOut :=
  let fmt := pbFmt pb
  let n := lanesOf fmt
  let ins := xtInputs c ags pb r
  let inv := (ins.map fun x => invCount fmt x.1 + invCount fmt x.2).foldl (· + ·) 0
  let eff := ins.map fun x => (x.1.map (effective fmt), x.2.map (effective fmt))
  let lane := fun l => chunkOf fmt (eff.map fun x => cxMulConj (x.1.getD (l % 8) (0, 0)) (x.2.getD (l / 8) (0, 0)))
  { inv := inv * passesOf fmt
    passes := (List.range (passesOf fmt)).map fun p => (List.range n).map fun i => lane (p * n + i) }

/-- One repetition of XA: lane `e` accumulates input `e` times its own conjugate. -/
def kernelXa (c : Cell) (ags : List Ag) (pb r : Nat) : KOut :=
  let fmt := pbFmt pb
  let n := lanesOf fmt
  let ins := (agWalk ags [0, 1] (bits pb 16 13) (List.replicate 8 0)).map fun o =>
    agSamples c (agAt ags 0) fmt r (o.getD 0 0) 64
  let inv := (ins.map (invCount fmt)).foldl (· + ·) 0
  let eff := ins.map fun x => x.map (effective fmt)
  let lane := fun l => chunkOf fmt (eff.map fun x => cxMulConj (x.getD l (0, 0)) (x.getD l (0, 0)))
  { inv := inv * passesOf fmt
    passes := (List.range (passesOf fmt)).map fun p => (List.range n).map fun i => lane (p * n + i) }

/-! ### BP (R46, R47, R76, R77) -/

/-- A running value: value, FLAGS and STAGES. -/
structure RunVal where
  re     : Int
  im     : Int
  flags  : Nat
  stages : Nat
  deriving DecidableEq, Repr

/-- The running-value record that 128 bits spell (R77). -/
def runValOf (w : Nat) : RunVal :=
  ⟨toSigned 48 (bits w 0 48), toSigned 48 (bits w 48 48), bits w 96 4, bits w 104 8⟩

/-- The 16 bytes of a record. -/
def runValEnc (v : RunVal) : List Byte :=
  natToBytes 6 (ofSigned 48 v.re) ++ natToBytes 6 (ofSigned 48 v.im) ++ natToBytes 1 v.flags ++
    natToBytes 1 v.stages ++ zeros 2

/-- Adds one group sum (R76). -/
def addGroup (v : RunVal) (g : Cx) : RunVal :=
  let re := sat48 (v.re + g.1)
  let im := sat48 (v.im + g.2)
  let sat := decide (re ≠ v.re + g.1) || decide (im ≠ v.im + g.2)
  { v with re := re, im := im, flags := if sat then setBit v.flags 0 true else v.flags }

/-- The weight w(k, i) (R47): a STORED sample, or the phasor of a PHASE0 and DPHASE entry. -/
def bpWeight (fmt pb r : Nat) (word : Nat) : Cx :=
  if bit pb 19 then
    let th := (bits word 0 16 + bits word 16 16 * r) % 2 ^ 16
    phasorRom fmt ((th + 32) % 2 ^ 16 / 64)
  else sampleOf fmt word

/-- Sum of complex numbers. -/
def cxSum (l : List Cx) : Cx := (sumI (l.map (·.1)), sumI (l.map (·.2)))

/-- The running value of one sample and beam. -/
def bpValue (start : RunVal) (g : Nat) (ws xs : List Cx) : RunVal :=
  let ps := List.zipWith cxMul ws xs
  let v := ((chunksOf g (ps.length + 1) ps).map cxSum).foldl addGroup start
  { v with stages := min 255 (v.stages + 1) }

/-- One repetition of BP; `bad` marks records of a step that ran under R32. -/
def kernelBp (c : Cell) (ags : List Ag) (pb r : Nat) (bad : Bool) : KOut :=
  let fmt := pbFmt pb
  let nin := bits pb 20 12
  let nbeam := bits pb 32 8
  let phasor := bit pb 19
  let wBytes := if phasor then 4 else sampleBytes fmt
  let word := fun k i => agRead c (agAt ags 3) r 0 (k * nin + i) wBytes
  let ws := (List.range nbeam).map fun k => (List.range nin).map fun i => bpWeight fmt pb r (word k i)
  let wInv := if phasor then 0 else (ws.map (invCount fmt)).foldl (· + ·) 0
  let wsE := ws.map fun l => l.map (effective fmt)
  let walk := agWalk ags [0, 2] (bits pb 40 16) (List.replicate 8 0)
  let samples := walk.map fun o =>
    let xs := agSamples c (agAt ags 0) fmt r (o.getD 0 0) nin
    let xsE := xs.map (effective fmt)
    let recs := (List.range nbeam).map fun k =>
      let start := if bit pb 18 then runValOf (agRead c (agAt ags 2) r (o.getD 2 0) k 16) else ⟨0, 0, 0, 0⟩
      let v := bpValue start (groupOf (bits pb 16 2)) (wsE.getD k []) xsE
      let v := if bad then { v with flags := setBit v.flags 2 true } else v
      (v, bit v.flags 0 && !(bit start.flags 0))
    (invCount fmt xs * nbeam + wInv, recs)
  let recs := samples.flatMap (·.2)
  { inv := (samples.map (·.1)).foldl (· + ·) 0
    out := recs.flatMap fun x => runValEnc x.1
    rvSat := (recs.filter (·.2)).length
    lanes := (List.range nbeam).filterMap fun k =>
      ((samples.getLast?.map (·.2)).bind fun l => l[k]?).map fun x => (k % 64, (x.1.re, x.1.im)) }

/-- The records that a discarded BP operation emits (R86). DESIGN CHOICE: their STAGES is 0, as R86 gives RE, IM and
two flags only (assumption log 74). -/
def bpDiscarded (pb : Nat) : List Byte :=
  (List.replicate (bits pb 40 16 * bits pb 32 8) (runValEnc ⟨0, 0, 0xC, 0⟩)).flatten

/-! ### BF (R48, R49) -/

/-- One beam block record from 64 running values. -/
def bfRecord (emin : Nat) (vs : List RunVal) : List Byte :=
  let comps := vs.flatMap fun v => [v.re, v.im]
  let l := (comps.map (lsc 47)).foldl min 47
  let e0 := max emin (40 - l)
  let m0 := comps.map fun v => rnd v e0
  let ovf := m0.any fun m => decide (m < -128) || decide (127 < m)
  let e := if ovf then e0 + 1 else e0
  let m := if ovf then comps.map (fun v => rnd v e) else m0
  let fl := vs.foldl (fun a v => a ||| v.flags) 0
  natToBytes 1 e ++ natToBytes 1 fl ++ zeros 2 ++ m.flatMap fun x => natToBytes 1 (ofSigned 8 x)

/-- One repetition of BF. -/
def kernelBf (c : Cell) (ags : List Ag) (pb r : Nat) (bad : Bool) : KOut :=
  { out := (agWalk ags [0] (bits pb 32 16) (List.replicate 8 0)).flatMap fun o =>
      bfRecord (bits pb 16 6) ((List.range 64).map fun i =>
        let v := runValOf (agRead c (agAt ags 0) r (o.getD 0 0) i 16)
        if bad then { v with flags := setBit v.flags 2 true } else v) }

/-! ### DT (R50 to R53, R451) -/

/-- A detector slot (R51). -/
structure DetSlot where
  thresh : Nat
  det    : Nat
  level  : Nat
  beam   : Nat
  hitch  : Nat
  enable : Bool
  deriving DecidableEq, Repr

/-- The slot that 128 bits spell. -/
def detSlotOf (w : Nat) : DetSlot :=
  ⟨bits w 0 48, bits w 48 10, bits w 58 4, bits w 64 8, bits w 72 3, bit w 75⟩

/-- Largest boxcar value. -/
def dtCap : Nat := 2 ^ 48 - 1

/-- State of one beam: samples since the clear, and the last two values of levels 0 to 9, newer first. -/
structure DtBeam where
  t  : Nat
  lv : List (Nat × Nat)
  deriving DecidableEq, Repr

/-- The state that 176 bytes spell (R52). -/
def dtBeamOf (b : List Byte) : DtBeam :=
  ⟨fieldAt b 0 8, (List.range 10).map fun k => (fieldAt b (8 + 16 * k) 8, fieldAt b (16 + 16 * k) 8)⟩

/-- The 176 bytes of a state. -/
def dtBeamEnc (s : DtBeam) : List Byte :=
  natToBytes 8 s.t ++ (s.lv.flatMap fun p => natToBytes 8 p.1 ++ natToBytes 8 p.2) ++ zeros 8

/-- Power of one sample of a beam block (R52). -/
def dtPower (shift e : Nat) (mr mi : Int) : Nat :=
  min dtCap ((mr * mr + mi * mi).toNat * 2 ^ (2 * e) / 2 ^ shift)

/-- Evaluations from level `k` up, and the values then stored: level `k + 1` is evaluated where
`(t + 1) mod 2^k = 0`, from this value and the one `2^k` samples back. -/
def dtClimb (t : Nat) : Nat → Nat → List (Nat × Nat) → List (Nat × Nat) × List (Nat × Nat)
  | k, cur, [] => ([(k, cur)], [])
  | k, cur, (n, o) :: rest =>
    if (t + 1) % 2 ^ k = 0 then
      let up := dtClimb t (k + 1) (min dtCap (cur + (if k = 0 then n else o))) rest
      ((k, cur) :: up.1, (cur, n) :: up.2)
    else ([(k, cur)], (cur, n) :: rest)

/-- What a beam's samples leave: its state, crossings and THR assertions. -/
structure DtAcc where
  st  : DtBeam
  evs : List Crossing
  thr : List (Nat × Nat)
  deriving DecidableEq, Repr

/-- What a beam block is to its crossings: repetition, block, FLAGS of the record, metadata, and its first sample. -/
structure DtFrom where
  rep   : Nat
  blk   : Nat
  flags : Nat
  md    : Nat
  prov  : Option Prov
  deriving DecidableEq, Repr

/-- The crossing of slot `x` at level and value `ev` in sample `s` of a block. -/
def dtCrossing (w : DtFrom) (s : Nat) (x : DetSlot) (ev : Nat × Nat) : Crossing :=
  ⟨x.det, ev.1, ev.2, w.rep, w.blk, s, w.flags, w.md, w.prov.map fun p => { p with samp := p.samp + s }⟩

/-- One sample: `cyc` is the cycle of R451 in which THR and the events appear. -/
def dtSample (slots : List DetSlot) (w : DtFrom) (s cyc : Nat) (a : DtAcc) (power : Nat) : DtAcc :=
  let up := dtClimb a.st.t 0 power a.st.lv
  let hits := up.1.flatMap fun ev =>
    (slots.filter fun x => decide (x.level = ev.1) && decide (x.thresh ≤ ev.2)).map fun x => (x, ev)
  let bitsSet := hits.foldl (fun m h => if h.1.hitch = 0 ∨ 4 < h.1.hitch then m else setBit m (h.1.hitch - 1) true) 0
  { st := ⟨a.st.t + 1, up.2⟩
    evs := a.evs ++ hits.map fun h => dtCrossing w s h.1 h.2
    thr := if bitsSet = 0 then a.thr else a.thr ++ [(cyc, bitsSet)] }

/-- One beam block record: 64 samples in order. -/
def dtBlock (slots : List DetSlot) (shift cyc0 : Nat) (w : DtFrom) (a : DtAcc) (recd : List Byte) : DtAcc :=
  let e := fieldAt recd 0 1
  (List.range 64).foldl (fun a s =>
    let mr := toSigned 8 (fieldAt recd (4 + 2 * s) 1)
    let mi := toSigned 8 (fieldAt recd (5 + 2 * s) 1)
    dtSample slots w s (cyc0 + s / 4 + 13) a (dtPower shift e mr mi)) a

/-- One repetition of DT. -/
def kernelDt (c : Cell) (ags : List Ag) (pb r : Nat) : KOut :=
  let nbeam := bits pb 24 8
  let nblk := bits pb 32 16
  let slots := ((List.range (bits pb 48 11)).map fun j =>
    detSlotOf (agRead c (agAt ags 3) r 0 j 16)).filter (·.enable)
  let clear := bit pb 22 && decide (r = 0)
  let walk := agWalk ags [0] nblk (List.replicate 8 0)
  let beams := (List.range nbeam).map fun k =>
    let st0 := if clear then dtBeamOf (zeros 176)
      else dtBeamOf (natToBytes 176 (agRead c (agAt ags 5) r 0 k 176))
    let mine := slots.filter fun x => decide (x.beam = k)
    let acc := (walk.zipIdx).foldl (fun a ob =>
      let recd := natToBytes 132 (agRead c (agAt ags 0) r (ob.1.getD 0 0) k 132)
      let ms := elemMarks c (agAt ags 0) r (ob.1.getD 0 0) k 1 132
      let w : DtFrom := ⟨r, ob.2, fieldAt recd 1 1, mdOf ms, provOf ms⟩
      dtBlock mine (bits pb 16 6) (16 * ((r * nblk + ob.2) * nbeam + k)) w a recd) ⟨st0, [], []⟩
    (acc, agWrites (agAt ags 5) r 0 k 176 (dtBeamEnc acc.st))
  { wr := beams.flatMap (·.2)
    evs := beams.flatMap (·.1.evs)
    thr := beams.flatMap (·.1.thr) }

/-! ### FD (R54, R55) -/

/-- Output of FD for one input sample. -/
def fdSample (pb n0 r i : Nat) (entry gain : Nat) (x : Cx) : Cx :=
  let fmt := pbFmt pb
  let ofmt := pbOfmt pb
  if invalidCx4 fmt x then (if ofmt = 0 then (-8, -8) else (0, 0))
  else
    let n : Int := ((n0 + i : Nat) : Int)
    let dl : Int := ((bits pb 64 16 + r : Nat) : Int) - (bits pb 48 16 : Int)
    let p0 : Int := (bits entry 0 32 : Int)
    let pr := toSigned 32 (bits entry 32 32)
    let d0 := toSigned 32 (bits entry 64 32)
    let dr := toSigned 32 (bits entry 96 32)
    let th := ((p0 + pr * n + (d0 + dr * n) * dl) % (2 : Int) ^ 32).toNat
    let v := cxMul x (phasorRom 2 ((th + 2 ^ 21) % 2 ^ 32 / 2 ^ 22))
    let sh := 23 + bits pb 16 5
    (satFmt ofmt (rnd (v.1 * gain) sh), satFmt ofmt (rnd (v.2 * gain) sh))

/-- One repetition of FD; `n0` is the sample index of the run's first sample. -/
def kernelFd (c : Cell) (ags : List Ag) (pb r n0 : Nat) : KOut :=
  let fmt := pbFmt pb
  let nin := bits pb 21 11
  let entries := (List.range nin).map fun i =>
    (agRead c (agAt ags 3) r 0 i 16, agRead c (agAt ags 4) r 0 i 2)
  let rows := (agWalk ags [0] (bits pb 32 16) (List.replicate 8 0)).zipIdx.map fun o =>
    let xs := agSamples c (agAt ags 0) fmt r (o.1.getD 0 0) nin
    (invCount fmt xs, (List.zipWith (fun x e => fdSample pb n0 r o.2 e.1 e.2 x) xs entries).flatMap
      (sampleEnc (pbOfmt pb)))
  { inv := (rows.map (·.1)).foldl (· + ·) 0, out := rows.flatMap (·.2) }

/-! ### FP (R56, R57) -/

/-- Stored S12 coefficient `j`: two to three bytes (R57). -/
def fpCoef (c : Cell) (a : Ag) (r j : Nat) : Int :=
  let g := bytesToNat ((List.range 3).map fun b => c.rd a.mem (agAddr a r 0 0 1 (3 * (j / 2) + b)))
  toSigned 12 (if j % 2 = 0 then bits g 0 12 else bits g 12 12)

/-- One repetition of FP at ring offset `off`: writes the FT working frame at AG1. -/
def kernelFp (c : Cell) (ags : List Ag) (pb r off : Nat) : KOut :=
  let fmt := pbFmt pb
  let taps := fpTaps pb
  let n := 2 ^ bits pb 20 4
  let h := fun j => fpCoef c (agAt ags 3) r (if bit pb 24 then min j (taps * n - 1 - j) else j)
  let x := fun t m => (sampleOf fmt (agRead c (agAt ags 0) r off (t * n + m) (sampleBytes fmt))).1
  let y := (List.range n).map fun m =>
    satFmt 5 (rnd (sumI ((List.range taps).map fun t => h (t * n + m) * x t m)) (bits pb 25 5))
  { wr := (List.range (n / 2)).flatMap fun i =>
      agWrites (agAt ags 1) r 0 i 4 (sampleEnc 2 (y.getD (2 * i) 0, y.getD (2 * i + 1) 0)) }

/-! ### FT (R42, R58 to R61) -/

/-- Twiddle W(i) = C(i) - j S(i) for size `n`, as (C, S), from the table `q` (R42). -/
def twiddle (n : Nat) (q : Nat → Int) (i : Nat) : Int × Int :=
  let f := n / 4
  let a := i / f
  let b := i % f
  if b = 0 then
    (if a % 4 = 0 then (32768, 0) else if a % 4 = 1 then (0, 32768)
      else if a % 4 = 2 then (-32768, 0) else (0, -32768))
  else if a = 0 then (q b, q (f - b))
  else if a = 1 then (-(q (f - b)), q b)
  else if a = 2 then (-(q b), -(q (f - b)))
  else (q (f - b), -(q b))

/-- X·W (R42). -/
def twMul (x : Cx) (w : Int × Int) : Cx := (x.1 * w.1 + x.2 * w.2, x.2 * w.1 - x.1 * w.2)

/-- Sum and difference of complex numbers. -/
def cxAdd (a b : Cx) : Cx := (a.1 + b.1, a.2 + b.2)
/-- Difference. -/
def cxSub (a b : Cx) : Cx := (a.1 - b.1, a.2 - b.2)
/-- j·a. -/
def cxJ (a : Cx) : Cx := (-a.2, a.1)

/-- rnd and sat_CX16 of both components. -/
def cxRound (v : Cx) (s : Nat) : Cx := (satFmt 2 (rnd v.1 s), satFmt 2 (rnd v.2 s))

/-- The quarter-wave table at AG3. -/
def ftTable (c : Cell) (ags : List Ag) (r i : Nat) : Int := toSigned 16 (agRead c (agAt ags 3) r 0 i 2)

/-- RADIX4 stage `s` of the M-point transform (R59). -/
def radix4 (n s sh : Nat) (q : Nat → Int) (z : List Cx) : List Cx :=
  let len := (n / 2) / 4 ^ s
  let d := len / 4
  (List.range (n / 2)).map fun i =>
    let g := i / len * len
    let m := (i % len) / d
    let k := i % d
    let at_ := fun j => z.getD (g + k + j * d) (0, 0)
    let t0 := cxAdd (at_ 0) (at_ 2)
    let t1 := cxSub (at_ 0) (at_ 2)
    let t2 := cxAdd (at_ 1) (at_ 3)
    let t3 := cxSub (at_ 1) (at_ 3)
    let x := if m = 0 then cxAdd t0 t2 else if m = 1 then cxSub t1 (cxJ t3)
      else if m = 2 then cxSub t0 t2 else cxAdd t1 (cxJ t3)
    cxRound (twMul x (twiddle n q (2 * m * k * 4 ^ s % n))) (15 + sh)

/-- RADIX2, the last complex stage (R59). -/
def radix2 (sh : Nat) (z : List Cx) : List Cx :=
  (List.range z.length).map fun i =>
    let a := z.getD (2 * (i / 2)) (0, 0)
    let b := z.getD (2 * (i / 2) + 1) (0, 0)
    cxRound (if i % 2 = 0 then cxAdd a b else cxSub a b) sh

/-- Complex stages of an M-point transform, in order (R58). -/
def ftRadices (lgM : Nat) : List Nat := List.replicate (lgM / 2) 4 ++ (if lgM % 2 = 1 then [2] else [])

/-- pos(k) of R59. -/
def ftPos : List Nat → Nat → Nat → Nat → Nat
  | [], _, p, _ => p
  | rd :: rest, size, p, k => ftPos rest (size / rd) (p + k % rd * (size / rd)) (k / rd)

/-- Element `k` of SPLIT's output (R60). -/
def splitAt (n sh : Nat) (q : Nat → Int) (z : List Cx) (k : Nat) : Cx :=
  let m := n / 2
  let lg := Nat.log2 m
  let zAt := fun i => z.getD (ftPos (ftRadices lg) m 0 (i % m)) (0, 0)
  let a := zAt k
  let b0 := zAt (m - k)
  let b := (b0.1, -b0.2)
  let e := cxAdd a b
  let o := twMul (cxSub a b) (twiddle n q k)
  cxRound (cxSub (e.1 * 32768, e.2 * 32768) (cxJ o)) (16 + sh)

/-- One element of PAIR (R61): `own` is the cell's SPLIT output, `oth` its partner's. -/
def pairAt (n role : Nat) (own oth : List Cx) (k : Nat) : Cx :=
  if role = 0 then
    let re := own.getD k (0, 0)
    let im := oth.getD k (0, 0)
    (re.1 - im.2, re.2 + im.1)
  else
    let u := n - k
    let im := own.getD u (0, 0)
    let re := oth.getD u (0, 0)
    (re.1 + im.2, im.1 - re.2)

/-- One repetition of FT. -/
def kernelFt (c : Cell) (ags : List Ag) (pb r : Nat) : KOut :=
  let n := 2 ^ bits pb 16 4
  let m := n / 2
  let st := bits pb 20 3
  let sh := bits pb 28 2
  let q := ftTable c ags r
  let z := agSamples c (agAt ags 1) 2 r 0 m
  let put := fun (l : List Cx) => l.zipIdx.flatMap fun p => agWrites (agAt ags 1) r 0 p.2 4 (sampleEnc 2 p.1)
  if st = 0 then { wr := put (radix4 n (bits pb 24 4) sh q z) }
  else if st = 1 then { wr := put (radix2 sh z) }
  else if st = 2 then
    let x := (List.range (m + 1)).map fun k => splitAt n sh q z k
    { wr := x.zipIdx.flatMap fun p => agWrites (agAt ags 2) r 0 p.2 4 (sampleEnc 2 p.1)
      out := x.flatMap (sampleEnc 2) }
  else
    let role := bits pb 30 1
    let own := agSamples c (agAt ags 2) 2 r 0 (m + 1)
    let oth := agSamples c (agAt ags 6) 2 r 0 (m + 1)
    let sh := bits pb 31 5
    let f := pbOfmt pb
    { out := (List.range m).flatMap fun i =>
        let v := pairAt n role own oth (if role = 0 then i else m + i)
        sampleEnc f (satFmt f (rnd v.1 sh), satFmt f (rnd v.2 sh)) }

/-! ### TS (R62) -/

/-- `n` bits of the PRBS of x^31 + x^28 + 1 from a 31-bit state, and the state after them. DESIGN CHOICE: each bit is
the sum of taps 30 and 27, and shifts in from the right (assumption log 67). -/
def prbsBits : Nat → Nat → List Bool × Nat
  | 0, s => ([], s)
  | n + 1, s =>
    let b := (bits s 30 1 + bits s 27 1) % 2
    let r := prbsBits n ((s * 2 + b) % 2 ^ 31)
    (decide (b = 1) :: r.1, r.2)

/-- Eight bits as a byte, the first in bit 7. -/
def bitsToByte (l : List Bool) : Byte := BitVec.ofNat 8 (l.foldl (fun a b => 2 * a + b2n b) 0)

/-- `n` bytes of the PRBS. -/
def prbsBytes (seed n : Nat) : List Byte := (chunksOf 8 n (prbsBits (8 * n) seed).1).map bitsToByte

/-- Bits in which two bytes differ. -/
def bitDiff (a b : Byte) : Nat := ((List.range 8).filter fun i => decide (bit a.toNat i ≠ bit b.toNat i)).length

/-- One repetition of TS. DESIGN CHOICE: a PRBS starts at ARG in every repetition (assumption log 67), and codes of −8
that a check reads in CX4 are compared and not counted in INVALID_CNT (assumption log 68). -/
def kernelTs (c : Cell) (ags : List Ag) (pb r : Nat) : KOut :=
  let fmt := pbFmt pb
  let mode := bits pb 16 3
  let arg := bits pb 64 32
  let n := bits pb 32 16 * sampleBytes fmt
  if mode = 0 then { out := prbsBytes (arg % 2 ^ 31) n }
  else if mode = 1 then
    let got := (List.range (bits pb 32 16)).flatMap fun e =>
      natToBytes (sampleBytes fmt) (agRead c (agAt ags 0) r 0 e (sampleBytes fmt))
    { tsErr := (List.zipWith bitDiff got (prbsBytes (arg % 2 ^ 31) n)).foldl (· + ·) 0 }
  else if mode = 2 then { out := (List.range n).map fun i => BitVec.ofNat 8 (arg + i) }
  else if mode = 3 then { out := (List.range n).map fun i => BitVec.ofNat 8 (bits arg (8 * (i % 4)) 8) }
  else { out := (List.range (bits pb 32 16)).flatMap fun t =>
    sampleEnc fmt (phasorRom (if fmt = 4 then 1 else fmt) ((t * arg + 2 ^ 21) % 2 ^ 32 / 2 ^ 22)) }

end Sys2Proof.Machine
end

