-- ==== Sys2Proof/Machine/PlanImage.lean ====
section
/-! DEFINITION. Reading a plan image (R157 to R164): the header, the section directory and the entries of the
smaller sections. An image is a byte memory with the image at address 0. -/

namespace Sys2Proof.Machine

/-! ### Header and directory -/

/-- A section of the directory (R159). -/
structure Sec where
  type : Nat
  inst : Nat
  off  : Nat
  len  : Nat
  crc  : Nat
  deriving DecidableEq, Repr

/-- PLAN_GEN. -/
def imgGen (m : SMap Byte) : Nat := readNat m 12 4
/-- IMAGE_SIZE. -/
def imgSize (m : SMap Byte) : Nat := readNat m 8 4
/-- The flag bits of byte 19: LOCAL_TIME 0, HOT_PATCH_OK 1, DOUBLE_RESERVE 2, ANY_DEVICE 3. -/
def imgFlags (m : SMap Byte) : Nat := readNat m 19 1

/-- Directory entry `i`. -/
def secAt (m : SMap Byte) (i : Nat) : Sec :=
  let a := 128 + 16 * i
  ⟨readNat m a 2, readNat m (a + 2) 1, readNat m (a + 4) 4, readNat m (a + 8) 4, readNat m (a + 12) 4⟩

/-- The directory. -/
def secList (m : SMap Byte) : List Sec := (List.range (bits (readNat m 16 2) 0 7)).map (secAt m)

/-- The section of a type and instance. -/
def secFind (m : SMap Byte) (type inst : Nat) : Option Sec :=
  (secList m).find? fun s => decide (s.type = type) && decide (s.inst = inst)

/-- Offset of a section; 0 where it is absent. -/
def secOff (m : SMap Byte) (type inst : Nat) : Nat := ((secFind m type inst).map (·.off)).getD 0

/-- Entries of `size` bytes in a section. -/
def secCount (m : SMap Byte) (type inst size : Nat) : Nat := ((secFind m type inst).map (·.len)).getD 0 / size

/-- Entry `i` of `size` bytes of a section, as a number; 0 where the section is absent or shorter. -/
def secEntry (m : SMap Byte) (type inst size i : Nat) : Nat :=
  match secFind m type inst with
  | none => 0
  | some s => if (i + 1) * size ≤ s.len then readNat m (s.off + i * size) size else 0

/-! ### Profiles (R161) -/

/-- A grade profile. -/
structure Profile where
  tjTop : Int
  cclk  : Nat
  admLevel : Nat
  deriving DecidableEq, Repr

/-- Profiles of the image. -/
def imgProfiles (m : SMap Byte) : List Profile :=
  (List.range (secCount m 1 0 16)).map fun i =>
    let w := secEntry m 1 0 16 i
    ⟨toSigned 16 (bits w 0 16), bits w 16 16, bits w 32 2⟩

/-- Profile `p`. -/
def imgProfile (m : SMap Byte) (p : Nat) : Profile := (imgProfiles m).getD p ⟨150, 0, 3⟩

/-! ### Cell images (R162) -/

/-- A logical cell has a role exactly when the image holds a CELL_IMAGE for it (R200). -/
def imgRole (m : SMap Byte) (l : Nat) : Bool := (secFind m 2 l).isSome

/-- Lengths of the four images and the number of persist entries. -/
structure CellHdr where
  off     : Nat
  pm      : Nat
  persist : Nat
  cm      : Nat
  sa      : Nat
  sb      : Nat
  deriving DecidableEq, Repr

/-- Header of a cell image; empty where the cell has none. -/
def cellHdr (m : SMap Byte) (l : Nat) : CellHdr :=
  match secFind m 2 l with
  | none => ⟨0, 0, 0, 0, 0, 0⟩
  | some s => ⟨s.off, readNat m s.off 2, readNat m (s.off + 2) 2, readNat m (s.off + 4) 4, readNat m (s.off + 8) 4,
      readNat m (s.off + 12) 4⟩

/-- Bytes of memory `k` of a cell image: 0 staging A, 1 staging B, 2 coefficient, 3 parameter. -/
def cellImageBytes (m : SMap Byte) (l k : Nat) : List Byte :=
  let h := cellHdr m l
  let a := h.off + 32
  if k = 3 then readMem m a h.pm
  else if k = 2 then readMem m (a + h.pm) h.cm
  else if k = 0 then readMem m (a + h.pm + h.cm) h.sa
  else readMem m (a + h.pm + h.cm + h.sa) h.sb

/-- A persist region: memory, base and length (R162). -/
structure Persist where
  mem  : Nat
  base : Nat
  len  : Nat
  deriving DecidableEq, Repr

/-- Persist list of a cell image. -/
def cellPersist (m : SMap Byte) (l : Nat) : List Persist :=
  let h := cellHdr m l
  let a := h.off + 32 + h.pm + h.cm + h.sa + h.sb
  (List.range h.persist).map fun i =>
    let w := readNat m (a + 8 * i) 8
    ⟨bits w 0 2, bits w 16 16, bits w 32 16 + 1⟩

/-! ### The stream table (R95) -/

/-- Stream table entry `s`. -/
def imgStream (m : SMap Byte) (s : Nat) : Nat := secEntry m 5 0 32 s

/-- VALID. -/
def stValid (e : Nat) : Bool := bit e 0
/-- IN_FMT. -/
def stInFmt (e : Nat) : Nat := bits e 1 4
/-- OUT_FMT. -/
def stOutFmt (e : Nat) : Nat := bits e 5 4
/-- WIN. -/
def stWin (e : Nat) : Nat := bits e 16 6
/-- LANE. -/
def stLane (e : Nat) : Nat := bits e 22 7
/-- RATE_NUM. -/
def stNum (e : Nat) : Nat := bits e 32 32
/-- RATE_DEN. -/
def stDen (e : Nat) : Nat := bits e 64 16
/-- RATE_SEL. -/
def stRate (e : Nat) : Nat := bits e 12 3
/-- RS_STEP. -/
def stRsStep (e : Nat) : Nat := bits e 192 32
/-- ORIGIN. -/
def stOrigin (e : Nat) : Nat := bits e 128 58
/-- DL_BASE in bytes. -/
def stDlBase (e : Nat) : Nat := bits e 112 16 * 4096
/-- DELAY_MAX. -/
def stDelayMax (e : Nat) : Nat := bits e 224 21

/-- Samples of the delay line of a stream per 2^42 units of time, as numerator and denominator (R118). -/
def dlRatio (e : Nat) : Nat × Nat :=
  (if stRate e = 4 then stNum e * 2 ^ 24 else stNum e,
    stDen e * (if stRate e = 4 then max (stRsStep e) 1 else 2 ^ stRate e))

/-- Nominal time of sample `n` of the delay line of a stream, in 2^-42 s (R100, R129). -/
def sampleTime (e : Nat) (n : Int) : Int :=
  (stOrigin e * 2 ^ 32 : Nat) + n * (dlRatio e).2 * (2 : Int) ^ 42 / (max (dlRatio e).1 1 : Nat)

/-- Nominal time of what stands in a stream: none where the stream is not known. -/
def provTime (m : SMap Byte) (p : Prov) : Option Nat :=
  if p.stream < 4096 then some (sampleTime (imgStream m p.stream) (p.samp * p.div)).toNat else none

/-- First sample of a channel stream whose nominal time is at or after a boundary (R55). -/
def firstSampleAt (m : SMap Byte) (p : Prov) (epoch : Nat) : Int :=
  let e := imgStream m p.stream
  let num : Int := ((epoch : Int) - stOrigin e) * 2 ^ 32 * (dlRatio e).1
  let den : Int := (max p.div 1 * max (dlRatio e).2 1 * 2 ^ 42 : Nat)
  (num + den - 1) / den

/-! ### The context table (R147) -/

/-- Context entry of R147. -/
def imgContext (m : SMap Byte) (c : Nat) : Nat := secEntry m 10 0 32 c

/-- The context of beam `k` of a step of a logical cell. -/
def beamContext (m : SMap Byte) (l step k : Nat) : Option Nat :=
  (List.range (secCount m 10 0 32)).find? fun c =>
    let w := imgContext m c
    decide (bits w 0 2 ≠ 0) && decide (bits w 16 8 = l) && decide (bits w 24 5 = step) && decide (bits w 8 8 = k)

/-! ### Dump descriptors (R139, R163) -/

/-- A dump descriptor. -/
structure DumpDesc where
  rowBase  : Nat
  colBase  : Nat
  queue    : Nat
  wide     : Bool
  visShift : Nat
  ch0      : Nat
  intRuns  : Nat
  nrec     : Nat
  deriving DecidableEq, Repr

/-- The descriptor that 128 bits spell. -/
def dumpDescOf (w : Nat) : DumpDesc :=
  ⟨bits w 0 16, bits w 16 16, bits w 32 14, bit w 46, bits w 48 6, bits w 56 16, bits w 72 16 + 1, bits w 88 3 + 1⟩

/-- The descriptor of a cell's step. -/
def imgDump (m : SMap Byte) (l step : Nat) : Option DumpDesc :=
  let n := secCount m 9 0 24
  ((List.range n).map fun i => secEntry m 9 0 24 i).findSome? fun w =>
    if bits w 0 8 = l ∧ bits w 8 8 = step then some (dumpDescOf (bits w 64 128)) else none

/-! ### Streams and windows (R95, R101) -/

/-- Valid entries of an image. -/
def imgValidStreams (m : SMap Byte) : List Nat :=
  (List.range (secCount m 5 0 32)).filter fun s => stValid (imgStream m s)

/-- Window entry `w`. -/
def imgWindow (m : SMap Byte) (w : Nat) : Nat := secEntry m 6 0 16 w
/-- W_EARLY_NS. -/
def winEarly (w : Nat) : Nat := bits w 0 32
/-- ING_LAG_NS. -/
def winLag (w : Nat) : Nat := bits w 32 32
/-- SPLICE_PEN_NS. -/
def winPen (w : Nat) : Nat := bits w 64 16
/-- DOMAIN_MASK. -/
def winMask (w : Nat) : Nat := bits w 80 8
/-- SHED_CLASS. -/
def winShed (w : Nat) : Nat := bits w 88 2
/-- TIME_TOL_U. -/
def winTol (w : Nat) : Nat := bits w 96 32

/-! ### The QUEUES section (R223) -/

/-- Queues of an image. -/
def imgQCount (m : SMap Byte) : Nat := readNat m (secOff m 11 0) 2

/-- Queue entry `q`. -/
def imgQueue (m : SMap Byte) (q : Nat) : Nat :=
  if q < imgQCount m then readNat m (secOff m 11 0 + 16 + 32 * q) 32 else 0

/-- KIND of a queue: 1 VIS, 2 BEAM, 3 TRIG, 4 SNAP, 5 CT. -/
def qKind (e : Nat) : Nat := bits e 0 4
/-- Output of a queue: OUT_ID and OUT_KIND. -/
def qOut (e : Nat) : OutId := ⟨bits e 8 2, bits e 16 16⟩
/-- RESERVE. -/
def qReserve (e : Nat) : Nat := bits e 32 20
/-- PRIO. -/
def qPrio (e : Nat) : Nat := bits e 52 4
/-- MAX_PKT. -/
def qMaxPkt (e : Nat) : Nat := bits e 64 16

/-- A calendar (R223). -/
structure Calendar where
  out   : OutId
  turns : List Nat
  deriving DecidableEq, Repr

/-- Calendars from offset `o`. -/
def calendarsFrom (m : SMap Byte) : Nat → Nat → List Calendar
  | 0, _ => []
  | n + 1, o =>
    let h := readNat m o 8
    let t := bits h 32 9
    ⟨⟨bits h 0 2, bits h 16 16⟩, (List.range t).map fun i => readNat m (o + 8 + 2 * i) 2⟩ ::
      calendarsFrom m n (o + 8 + ceilDiv (2 * t) 8 * 8)

/-- Offset of the calendars. -/
def calendarOff (m : SMap Byte) : Nat := secOff m 11 0 + 16 + 32 * imgQCount m

/-- The calendars of an image. -/
def imgCalendars (m : SMap Byte) : List Calendar :=
  calendarsFrom m (readNat m (secOff m 11 0 + 2) 2) (calendarOff m)

/-- The calendar of an output. -/
def imgCalendar (m : SMap Byte) (o : OutId) : Option Calendar := (imgCalendars m).find? fun c => decide (c.out = o)

/-- A snap group (R231). -/
structure SnapGroup where
  queue  : Nat
  first  : Nat
  count  : Nat
  depth  : Nat
  pre    : Nat
  post   : Nat
  region : Nat
  deriving DecidableEq, Repr

/-- Offset of the snap groups. -/
def snapOff (m : SMap Byte) : Nat :=
  (imgCalendars m).foldl (fun o c => o + 8 + ceilDiv (2 * c.turns.length) 8 * 8) (calendarOff m)

/-- Number of snap groups. -/
def snapCount (m : SMap Byte) : Nat := readNat m (secOff m 11 0 + 4) 1

/-- Snap group `g`. -/
def imgSnap (m : SMap Byte) (g : Nat) : SnapGroup :=
  let w := readNat m (snapOff m + 16 * g) 16
  ⟨bits w 0 14, bits w 16 12, bits w 32 13, bits w 48 16, bits w 64 16, bits w 80 16, bits w 96 4⟩

/-! ### The TRIGGER section (R258) -/

/-- Offset of the section; the image has one. -/
def trigOff (m : SMap Byte) : Nat := secOff m 13 0

/-- The image has a TRIGGER section. -/
def imgHasTrig (m : SMap Byte) : Bool := (secFind m 13 0).isSome

/-- SRC_COUNT. -/
def imgSrcCount (m : SMap Byte) : Nat := if imgHasTrig m then readNat m (trigOff m) 2 else 0
/-- REMOTE_COUNT. -/
def imgRemoteCount (m : SMap Byte) : Nat := if imgHasTrig m then readNat m (trigOff m + 2) 2 else 0
/-- RAISE_COUNT. -/
def imgRaiseCount (m : SMap Byte) : Nat := if imgHasTrig m then readNat m (trigOff m + 4) 2 else 0

/-- Detector entry: ENABLE and DEAD_TICKS. -/
def imgDetector (m : SMap Byte) (k : Nat) : Nat :=
  if imgHasTrig m ∧ k < 1024 then readNat m (trigOff m + 16 + 4 * k) 4 else 0

/-- Unit descriptor. -/
def imgUnit (m : SMap Byte) (u : Nat) : Nat :=
  if imgHasTrig m ∧ u < 64 then readNat m (trigOff m + 4112 + 32 * u) 32 else 0

/-- Source entry. -/
def imgSource (m : SMap Byte) (i : Nat) : Nat :=
  if i < imgSrcCount m then readNat m (trigOff m + 6160 + 4 * i) 4 else 3

/-- Remote entry. -/
def imgRemote (m : SMap Byte) (i : Nat) : Nat :=
  if i < imgRemoteCount m then readNat m (trigOff m + 6160 + 4 * imgSrcCount m + 16 * i) 16 else 0

/-- Raise-table entry: a queue. -/
def imgRaise (m : SMap Byte) (i : Nat) : Nat :=
  readNat m (trigOff m + 6160 + 4 * imgSrcCount m + 16 * imgRemoteCount m + 2 * i) 2

/-- K of a unit. -/
def unitK (w : Nat) : Nat := bits w 8 9
/-- N of a unit. -/
def unitN (w : Nat) : Nat := bits w 17 9
/-- WIN_TICKS. -/
def unitWin (w : Nat) : Nat := bits w 32 12
/-- SRC_FIRST. -/
def unitSrcFirst (w : Nat) : Nat := bits w 48 14
/-- DEAD_TICKS. -/
def unitDead (w : Nat) : Nat := bits w 64 16
/-- SETTLE_TICKS. -/
def unitSettle (w : Nat) : Nat := bits w 128 32

/-! ### The strand's plans -/

/-- Bytes of a plan slot of the store as an image: slot 0 at 0x0E00_0000, slot 1 at 0x0F00_0000 (R204). -/
def slotImage (m : SMap Byte) (slot : Nat) : SMap Byte :=
  let base := 0x0E000000 + slot * 0x01000000
  (m.filter fun p => decide (base ≤ p.1) && decide (p.1 < base + 0x01000000)).map fun p => (p.1 - base, p.2)

/-- The slot that is not ACTIVE (R153). -/
def Strand.shadowSlot (d : Strand) : Nat := 1 - d.get 0x6810 0x07

/-- Base of the SHADOW slot in the store partition. -/
def Strand.shadowBase (d : Strand) : Nat := 0x0E000000 + d.shadowSlot * 0x01000000

/-- The image in the SHADOW slot, as a reader gets it: a marked word reads as zero (R207). -/
def Strand.shadowImage (d : Strand) : SMap Byte :=
  (slotImage d.store.mem d.shadowSlot).filter fun x => decide (smGet zeroAt d.store.ecc ((d.shadowBase + x.1) / 8) = 0)

/-- The plan under which a logical cell runs: the former one until its cut-over ends (R177). -/
def Strand.planOf (d : Strand) (l : Nat) : SMap Byte :=
  if smGet zeroAt d.plan.cellImages l = 2 then d.plan.former else d.plan.active

/-- CCLK in MHz (R161, R419). -/
def Strand.cclkMhz (d : Strand) : Nat :=
  if d.plan.cclk = 0 then (if Config.gradeF16 then 1600 else 1200) else d.plan.cclk

end Sys2Proof.Machine
end

