-- ==== Sys2Proof/Machine/Schedule.lean ====
section
/-! DEFINITION. The SCHEDULE section of an image (R198 to R200, R212), the graph that its slot entries make, and the
channelisers with their kept channels (R130, R163). -/

namespace Sys2Proof.Machine

/-! ### The SCHEDULE section (R198 to R200, R212) -/

/-- Offset of the schedule of a profile. -/
def schedOff (m : SMap Byte) (p : Nat) : Nat := secOff m 3 p
/-- BEAT_COUNT. -/
def schedBeats (m : SMap Byte) (p : Nat) : Nat := if (secFind m 3 p).isSome then readNat m (schedOff m p) 2 else 0
/-- GROUP_COUNT. -/
def schedGroups (m : SMap Byte) (p : Nat) : Nat := readNat m (schedOff m p + 2) 2
/-- DESC_COUNT. -/
def schedDescs (m : SMap Byte) (p : Nat) : Nat := readNat m (schedOff m p + 8) 2

/-- Beat descriptor `b`. -/
def imgBeat (m : SMap Byte) (p b : Nat) : Nat :=
  if b < schedBeats m p then readNat m (schedOff m p + 16 + 32 * b) 32 else 0

/-- Offset of the run-start table. -/
def runStartOff (m : SMap Byte) (p : Nat) : Nat := schedOff m p + 16 + 32 * schedBeats m p

/-- Run-start entry of a logical cell. -/
def imgRunStart (m : SMap Byte) (p l : Nat) : Nat := readNat m (runStartOff m p + 8 * l) 8

/-- Multicast group `g`, a bitmap of logical cells. -/
def imgGroup (m : SMap Byte) (p g : Nat) : Nat :=
  if g < schedGroups m p then readNat m (runStartOff m p + 2048 + 32 * g) 32 else 0

/-- Store access descriptor `n`. -/
def imgDesc (m : SMap Byte) (p n : Nat) : Nat :=
  if n < schedDescs m p then readNat m (runStartOff m p + 2048 + 32 * schedGroups m p + 32 * n) 32 else 0

/-- Slot entry `i` of the schedule. -/
def imgSlot (m : SMap Byte) (p i : Nat) : Nat :=
  readNat m (runStartOff m p + 2048 + 32 * schedGroups m p + 32 * schedDescs m p + 16 * i) 16

/-- DIV of a beat. -/
def beatDiv (b : Nat) : Nat := bits b 16 16
/-- PHASE. -/
def beatPhase (b : Nat) : Nat := bits b 32 16
/-- ANCHOR_NS. -/
def beatAnchor (b : Nat) : Nat := bits b 64 32
/-- ENTRY_COUNT of a beat. -/
def beatEntries (b : Nat) : Nat := bits b 240 16
/-- SRC of a slot entry. -/
def slotSrc (e : Nat) : Nat := bits e 26 10
/-- DST. -/
def slotDst (e : Nat) : Nat := bits e 36 10
/-- Words of a slot entry. -/
def slotWords (e : Nat) : Nat := bits e 46 12 + 1
/-- MCAST. -/
def slotMcast (e : Nat) : Bool := bit e 58
/-- QUEUE. -/
def slotQueue (e : Nat) : Nat := bits e 64 14

/-! ### Spare routes (R202) -/

/-- Offsets of the records of a section. -/
def walkOffs (size : Nat → Nat) (stop : Nat) : Nat → Nat → List Nat
  | 0, _ => []
  | n + 1, o => if stop ≤ o then [] else o :: walkOffs size stop n (o + max 1 (size o))

/-- Length of a route record (R202). -/
def routeSize (m : SMap Byte) (o : Nat) : Nat := 16 + 16 * readNat m (o + 2) 2

/-- Offsets of the route records of a profile. -/
def routeOffs (m : SMap Byte) (p : Nat) : List Nat :=
  match secFind m 4 p with
  | none => []
  | some s => walkOffs (routeSize m) (s.off + s.len) (s.len / 16 + 1) s.off

/-- The route record of a cell and spare position in a profile. -/
def routeOf (m : SMap Byte) (p l pos : Nat) : Option Nat :=
  (routeOffs m p).find? fun o => decide (bits (readNat m o 16) 0 9 = l + 256 * pos)

/-- The entry of a route record that replaces entry `i` of the beat of its cell. -/
def routeEntry (m : SMap Byte) (o i : Nat) : Option Nat :=
  ((List.range (readNat m (o + 2) 2)).map fun n => readNat m (o + 16 + 16 * n) 16).find? fun e => decide (bits e 80 16 = i)

/-! ### The schedule as a graph -/

/-- Slot entries of a profile's schedule. -/
def schedSlots (m : SMap Byte) (p : Nat) : List Nat :=
  (List.range (readNat m (schedOff m p + 4) 4)).map (imgSlot m p)

/-- Nodes of a schedule: a logical cell is its number, a CT region 0x1000 + INDEX, a WORK region 0x2000 + INDEX, a
stream 0x4000 + number, a queue 0x8000 + number, the records of a lane 0xC000 + number. -/
def slotFrom (m : SMap Byte) (p e : Nat) : Option Nat :=
  let s := slotSrc e
  if s < 256 then some s
  else if s < 0x17F then some (0xC000 + (s - 0x100))
  else if 0x200 ≤ s ∧ s < 0x300 then
    let x := imgDesc m p (s - 0x200)
    match bits x 0 4 with
    | 1 => some (0x4000 + bits x 16 12)
    | 3 => some (0x1000 + bits x 16 8)
    | 4 => some (0x2000 + bits x 16 8)
    | _ => none
  else none

/-- Nodes that an entry delivers to. -/
def slotTo (m : SMap Byte) (p e : Nat) : List Nat :=
  let t := slotDst e
  if slotMcast e then (List.range 256).filter fun l => bit (imgGroup m p t) l
  else if t < 256 then [t]
  else if 0x200 ≤ t ∧ t < 0x300 then
    let x := imgDesc m p (t - 0x200)
    match bits x 0 4 with
    | 2 => [0x1000 + bits x 16 8]
    | 4 => [0x2000 + bits x 16 8]
    | _ => []
  else if t = 0x300 then [0x8000 + slotQueue e]
  else []

/-- Edges of a profile's schedule. -/
def schedEdges (m : SMap Byte) (p : Nat) : List (Nat × Nat) :=
  (schedSlots m p).flatMap fun e =>
    match slotFrom m p e with
    | none => []
    | some a => (slotTo m p e).map fun b => (a, b)

/-! ### Channelisers (R128, R130, R163) -/

/-- Entries of CHANNELISERS. -/
def chanEntries (m : SMap Byte) : List Nat := (List.range (secCount m 16 0 8)).map (secEntry m 16 0 8)

/-- CH_KEEP_LO and CH_KEEP_HI of the channeliser in which a logical cell is the single or role-0 cell, or, with `role`
1, takes the transform of its role-0 cell. -/
def chanKeep (m : SMap Byte) (l role : Nat) : Option (Nat × Nat) :=
  let mine := (chanEntries m).find? fun w =>
    if role = 0 then decide (bits w 0 8 = l)
    else (schedEdges m 0).contains (bits w 0 8, l)
  mine.map fun w => (bits w 16 16, bits w 32 16)

/-! ### Where streams reach -/

/-- Nodes reached from a set; `fuel` bounds the length of a path. -/
def reachFrom (edges : List (Nat × Nat)) : Nat → List Nat → List Nat
  | 0, l => l
  | n + 1, l =>
    let new := ((edges.filter fun x => l.contains x.1 && !(l.contains x.2)).map (·.2)).dedup
    if new.isEmpty then l else reachFrom edges n (l ++ new)

/-- Nodes that a stream feeds in a profile. -/
def streamReach (m : SMap Byte) (p s : Nat) : List Nat := reachFrom (schedEdges m p) 1024 [0x4000 + s]

/-! ### What a profile admits and sheds (R161, R173) -/

/-- Streams that a profile admits. -/
def admitted (m : SMap Byte) (p : Nat) : List Nat :=
  (imgValidStreams m).filter fun s => decide (winShed (imgWindow m (stWin (imgStream m s))) ≤ (imgProfile m p).admLevel)

/-- Records of a lane feed a node in a profile. -/
def laneFeeds (m : SMap Byte) (p node : Nat) : Bool :=
  let es := schedEdges m p
  es.any fun x => decide (0xC000 ≤ x.1) && (reachFrom es 1024 [x.1]).contains node

/-- Some admitted stream or lane feeds a logical cell in a profile, or no stream does. -/
def cellLive (m : SMap Byte) (p l : Nat) : Bool :=
  let ss := (imgValidStreams m).filter fun s => (streamReach m p s).contains l
  ss.isEmpty || (ss.any fun s => (admitted m p).contains s) || laneFeeds m p l

/-- Streams that feed a queue in a profile, admitted or not. -/
def queueStreams (m : SMap Byte) (p q : Nat) : List Nat :=
  let e := imgQueue m q
  if qKind e = 4 then
    (List.range (snapCount m)).flatMap fun g =>
      let x := imgSnap m g
      if x.queue = q then (List.range x.count).map (x.first + ·) else []
  else (imgValidStreams m).filter fun s => (streamReach m p s).contains (0x8000 + q)

/-- LINKS entries whose chain reaches a queue in a profile. -/
def queueLinks (m : SMap Byte) (p q : Nat) : List Nat :=
  (List.range (secCount m 14 0 16)).filter fun i =>
    (reachFrom (schedEdges m p) 1024 [bits (imgContext m (bits (secEntry m 14 0 16 i) 0 12)) 16 8]).contains (0x8000 + q)

/-- A unit of the TRIGGER section that sends its event messages to a queue (R254). -/
def msgFeeds (m : SMap Byte) (q : Nat) : Bool :=
  (List.range 64).any fun u =>
    let w := imgUnit m u
    bit w 0 && bit w 180 && decide (bits w 184 14 = q)

/-- A queue is live in a profile: something admitted feeds it (R173). -/
def queueLive (m : SMap Byte) (p q : Nat) : Bool :=
  msgFeeds m q || ((queueStreams m p q).any fun s => (admitted m p).contains s) ||
    !(queueLinks m p q).isEmpty || laneFeeds m p (0x8000 + q)

/-- Queues that a profile sheds: streams feed them, and nothing that the profile admits. -/
def shedQueues (m : SMap Byte) (p : Nat) : List Nat :=
  (List.range (imgQCount m)).filter fun q => !(queueStreams m p q).isEmpty && !(queueLive m p q)

end Sys2Proof.Machine
end

