-- ==== Sys2Proof/Machine/CellOps.lean ====
section
/-! DEFINITION. One cell of a strand: the check of a step (R38), ECC findings (R32, R75), the tile file and
its ownership (R70 to R75, R84 to R86), the execution of one step (R31), run starts (R36), the scrubber (R32),
the control port (R185), health (R65) and the debug window (R91, R92). -/

namespace Sys2Proof.Machine

/-! ### Validity of a step (R38, R39) -/

/-- Address generators that a kernel uses. -/
def agsUsed (pb : Nat) : List Nat :=
  match pbKernel pb with
  | 1 => [0, 1] | 2 => [0] | 3 => if bit pb 18 then [0, 2, 3] else [0, 3] | 4 => [0] | 5 => [0, 1, 3]
  | 6 => (match bits pb 20 3 with | 0 => [1, 3] | 1 => [1] | 2 => [1, 2, 3] | _ => [2, 6])
  | 7 => [0, 3, 4] | 8 => [0, 3, 5] | 9 => if bits pb 16 3 = 1 then [0] else []
  | _ => []

/-- Whether a value lies in a range. -/
def inR (lo hi v : Nat) : Bool := decide (lo ≤ v) && decide (v ≤ hi)

/-- FMT, OFMT and the fields of a parameter block are within the ranges that R25 and R43 to R63 state. DESIGN CHOICE:
SHIFT 0b11 is accepted in a PAIR block, which does not use the field (assumption log 72). -/
def pbValid (pb : Nat) : Bool :=
  let f := pbFmt pb
  let o := pbOfmt pb
  let cx := decide (f ≤ 2)
  match pbKernel pb with
  | 0 => decide (f = 0) && decide (o = 0)
  | 1 | 2 => cx && decide (o = 0) && inR 16 4096 (bits pb 16 13) && inR 0 16 (bits pb 32 5) &&
      (decide (f ≠ 0) || decide (bits pb 32 5 = 0))
  | 3 => cx && decide (o = 0) && decide (bits pb 16 2 ≠ 3) && inR 1 1024 (bits pb 20 12) &&
      inR 1 255 (bits pb 32 8) && inR 1 65535 (bits pb 40 16)
  | 4 => decide (f = 1) && decide (o = 0) && inR 0 40 (bits pb 16 6) && inR 1 65535 (bits pb 32 16)
  | 5 => (decide (f = 4) || decide (f = 5)) && decide (o = 2) && decide (bits pb 16 2 ≠ 3) &&
      decide (fpTaps pb % groupOf (bits pb 16 2) = 0) && inR 8 14 (bits pb 20 4)
  | 6 => decide (f = 2) && inR 8 14 (bits pb 16 4) && inR 0 3 (bits pb 20 3) &&
      (if bits pb 20 3 = 3 then decide (o = 1) || decide (o = 2) else decide (o = 0)) &&
      (decide (bits pb 28 2 ≠ 3) || decide (bits pb 20 3 = 3)) &&
      (decide (bits pb 20 3 ≠ 0) || decide (bits pb 24 4 < (bits pb 16 4 - 1) / 2))
  | 7 => cx && inR 0 2 o && inR 0 15 (bits pb 16 5) && inR 1 1024 (bits pb 21 11) && inR 1 65535 (bits pb 32 16)
  | 8 => decide (f = 1) && decide (o = 0) && inR 1 255 (bits pb 24 8) && inR 1 65535 (bits pb 32 16) &&
      inR 0 1024 (bits pb 48 11)
  | 9 => (cx || decide (f = 4) || decide (f = 5)) && decide (o = 0) && inR 0 4 (bits pb 16 3) &&
      inR 1 65535 (bits pb 32 16) && (decide (1 < bits pb 16 3) || decide (bits pb 64 31 ≠ 0))
  | _ => false

/-- A step may run: its units are 4 or above, its block is valid, no generator it uses names MEM 0b11, and AG0 of an
FP step has REP_STRIDE 0 (R34, R38). -/
def stepValid (se : StepEntry) (pb : Nat) (ags : List Ag) : Bool :=
  decide (4 ≤ se.pbUnit) && decide (4 ≤ se.agUnit) && pbValid pb &&
    (decide (pbKernel pb ≠ 5) || decide ((agAt ags 0).stride = 0)) &&
    (agsUsed pb).all fun n => decide ((agAt ags n).mem ≠ 3)

/-! ### ECC findings (R32) -/

/-- A region that a repetition reads: generator, offset, elements and element size. -/
structure Touch where
  ag  : Nat
  off : Nat
  n   : Nat
  es  : Nat
  deriving DecidableEq, Repr

/-- What one repetition of a step reads through its generators. -/
def touches (ags : List Ag) (pb fpOff : Nat) : List Touch :=
  let f := pbFmt pb
  let sb := sampleBytes f
  let z := List.replicate 8 0
  match pbKernel pb with
  | 1 => (agWalk ags [0, 1] (bits pb 16 13) z).flatMap fun o => [⟨0, o.getD 0 0, 8, sb⟩, ⟨1, o.getD 1 0, 8, sb⟩]
  | 2 => (agWalk ags [0, 1] (bits pb 16 13) z).map fun o => ⟨0, o.getD 0 0, 64, sb⟩
  | 3 => ⟨3, 0, bits pb 20 12 * bits pb 32 8, if bit pb 19 then 4 else sb⟩ ::
      (agWalk ags [0, 2] (bits pb 40 16) z).flatMap fun o =>
        ⟨0, o.getD 0 0, bits pb 20 12, sb⟩ :: (if bit pb 18 then [⟨2, o.getD 2 0, bits pb 32 8, 16⟩] else [])
  | 4 => (agWalk ags [0] (bits pb 32 16) z).map fun o => ⟨0, o.getD 0 0, 64, 16⟩
  | 5 => [⟨0, fpOff, fpTaps pb * 2 ^ bits pb 20 4, sb⟩,
      ⟨3, 0, (if bit pb 24 then 1 else 2) * fpTaps pb * 2 ^ bits pb 20 4 * 3 / 4, 1⟩]
  | 6 => (match bits pb 20 3 with
    | 1 => [⟨1, 0, 2 ^ bits pb 16 4 / 2, 4⟩]
    | 3 => [⟨2, 0, 2 ^ bits pb 16 4 / 2 + 1, 4⟩, ⟨6, 0, 2 ^ bits pb 16 4 / 2 + 1, 4⟩]
    | _ => [⟨1, 0, 2 ^ bits pb 16 4 / 2, 4⟩, ⟨3, 0, 2 ^ bits pb 16 4 / 4 + 1, 2⟩])
  | 7 => [⟨3, 0, bits pb 21 11, 16⟩, ⟨4, 0, bits pb 21 11, 2⟩] ++
      (agWalk ags [0] (bits pb 32 16) z).map fun o => ⟨0, o.getD 0 0, bits pb 21 11, sb⟩
  | 8 => [⟨3, 0, bits pb 48 11, 16⟩, ⟨5, 0, bits pb 24 8, 176⟩] ++
      (agWalk ags [0] (bits pb 32 16) z).map fun o => ⟨0, o.getD 0 0, bits pb 24 8, 132⟩
  | 9 => if bits pb 16 3 = 1 then [⟨0, 0, bits pb 32 16, sb⟩] else []
  | _ => []

/-- Whether a touch reads a marked word, named by its ECC key. -/
def touchHits (ags : List Ag) (r : Nat) (t : Touch) (key : Nat) : Bool :=
  let a := agAt ags t.ag
  decide (key / 65536 = a.mem) &&
    (List.range (t.n * t.es)).any fun b => decide (agAddr a r t.off 0 t.es b / 8 = key % 65536)

/-- Marks of the operand data that a repetition reads (R127). -/
def touchMarks (c : Cell) (ags : List Ag) (pb r fpOff : Nat) : List Mark :=
  if c.marks.isEmpty then []
  else (touches ags pb fpOff).flatMap fun t => elemMarks c (agAt ags t.ag) r t.off 0 t.n t.es

/-- Sample indices of an XT or XA repetition at which the operand block of some input has GAP or EDGE (R144). -/
def gapCount (c : Cell) (ags : List Ag) (pb r : Nat) : Nat :=
  let sb := sampleBytes (pbFmt pb)
  let lost := fun (n o e : Nat) => (elemMarks c (agAt ags n) r o 0 e sb).any fun k => mdLost k.md
  if c.marks.isEmpty then 0
  else ((agWalk ags [0, 1] (bits pb 16 13) (List.replicate 8 0)).filter fun o =>
    if pbKernel pb = 1 then lost 0 (o.getD 0 0) 8 || lost 1 (o.getD 1 0) 8 else lost 0 (o.getD 0 0) 64).length

/-- Marked words of the parameter memory that the latch of a step reads. -/
def latchHits (pos : Nat) (se : StepEntry) (key : Nat) : Bool :=
  decide (key / 65536 = 3) &&
    (decide (key % 65536 = pos) || decide (key % 65536 / 8 = se.pbUnit) || decide (key % 65536 / 8 = se.agUnit))

/-- Marked words that a step reads. -/
def stepHits (c : Cell) (se : StepEntry) (ags : List Ag) (pb r fpOff : Nat) : List Nat :=
  (c.ecc.map (·.1)).filter fun key =>
    latchHits c.pos se key || (touches ags pb fpOff).any fun t => touchHits ags r t key

/-- The cell sets STATE to FAILED (R66); CELL_SPARES_FREE falls where it was a spare. -/
def failCell (d : Strand) (p : Nat) : Strand :=
  let st := d.get (0x5100 + p) 0x01
  let d := if st = 0 then d.put 0x5000 0x03 (d.get 0x5000 0x03 - 1) else d
  d.put (0x5100 + p) 0x01 4

/-- First findings of uncorrectable words: counted, CELL_ECC_UNCORR raised, STATE FAILED (R32). -/
def findWords (d : Strand) (p : Nat) (keys : List Nat) : Strand :=
  let c := d.cell p
  let new := keys.filter fun k => decide (smGet zeroAt c.ecc k = 1)
  if new.isEmpty then d
  else
    let ecc := new.foldl (fun e k => smSet zeroAt e k 2) c.ecc
    let d := (d.setCell p { c with ecc := ecc }).bump (0x5100 + p) 0x04 new.length
    (failCell d p).raise 0x10 p

/-! ### Tiles (R70 to R75, R84 to R86) -/

/-- ECC key of a total. -/
def totalKey (slot i : Nat) : Nat := 4 * 65536 + slot * 128 + i

/-- A collision of operation (e, r) on a tile that another operation owns (R86). -/
def collide (d : Strand) (p slot e : Nat) : Strand :=
  let c := d.cell p
  let t := c.tile slot
  let d := d.setCell p (c.setTile slot { (t.flag stCollide true).flag stInvalid true with collided := true })
  let d := ((d.bump (0x5100 + p) 0x0B 1).bump 0x5800 0x04 1).put 0x5800 0x08 (p + slot * 2 ^ 9 + e * 2 ^ 15)
  d.raiseIf (!t.collided) 0x15 p

/-- Promotes one component of a chunk (R70): total, and whether it was clamped. -/
def promote (t v : Int) (sh : Nat) : Int × Bool :=
  let s := t + rnd v sh
  (sat48 s, decide (sat48 s ≠ s))

/-- Promotes one lane: the tile and whether SAT was set; totals with an uncorrectable word count as 0. -/
def promoteLane (bad : Nat → Bool) (sh : Nat) (tn : Tile × Nat) (lane : Nat) (ch : Cx × Bool) : Tile × Nat :=
  let t := tn.1
  let re := promote (if bad (2 * lane) then 0 else t.total (2 * lane)) ch.1.1 sh
  let im := promote (if bad (2 * lane + 1) then 0 else t.total (2 * lane + 1)) ch.1.2 sh
  let sat := re.2 || im.2 || ch.2
  let t := (((t.setTotal (2 * lane) re.1).setTotal (2 * lane + 1) im.1).flag stSat sat).flag stChunkSat ch.2
  let t := t.flag stInvalid (bad (2 * lane) || bad (2 * lane + 1))
  (t, tn.2 + b2n sat)

/-- Promotes every lane of every pass, in pass order. -/
def promoteAll (bad : Nat → Bool) (sh : Nat) (t : Tile) (passes : List (List (Cx × Bool))) : Tile × Nat :=
  (passes.flatten.zipIdx).foldl (fun tn x => promoteLane bad sh tn x.2 x.1) (t, 0)

/-- The count of promotions and BOUND after the last pass (R71). -/
def countPromotion (t : Tile) : Tile :=
  let t := t.flag stOpen true
  if t.count < 65536 then { t with count := t.count + 1 } else t.flag stBound true

/-- Clears a tile's totals, status word and count and keeps its owner (R73). -/
def clearTile (t : Tile) (owner : Option (Nat × Nat)) : Tile := { owner := owner, collided := t.collided }

/-! ### VIS records (R144, R145) -/

/-- A total in a record: W48 as it is, W32 rounded and clamped; the clamp sets W32_SAT. -/
def visValue (wide : Bool) (sh : Nat) (v : Int) : List Byte × Bool :=
  if wide then (natToBytes 6 (ofSigned 48 v), false)
  else
    let w := rnd v sh
    let c := clampI (-2147483648) 2147483647 w
    (natToBytes 4 (ofSigned 32 c), decide (c ≠ w))

/-- Lanes that a record holds: those with r ≤ c on the diagonal of XT, else all 64. -/
def visLanes (diag : Bool) : List Nat :=
  (List.range 64).filter fun b => !diag || decide (b % 8 ≤ b / 8)

/-- The record of a dumped tile (R144): `xa` for XA, `change` for PLAN_CHANGE, `md` its metadata. -/
def visRecord (ds : DumpDesc) (xa change : Bool) (r md : Nat) (t : Tile) : List Byte :=
  let diag := !xa && decide (ds.rowBase = ds.colBase)
  let vals := (visLanes diag).flatMap fun b =>
    [visValue ds.wide ds.visShift (t.total (2 * b)), visValue ds.wide ds.visShift (t.total (2 * b + 1))]
  let fl := b2n (vals.any (·.2)) + 2 * b2n diag + 4 * b2n xa + 8 * b2n change
  let md := if bit t.flags stInvalid || bit t.flags stCollide then setBit md 2 true else md
  natToBytes 2 ds.rowBase ++ natToBytes 2 ds.colBase ++ natToBytes 2 (ds.ch0 + r) ++ natToBytes 1 md ++
    natToBytes 1 fl ++ natToBytes 4 t.status ++ natToBytes 4 t.gaps ++ vals.flatMap (·.1)

/-! ### The output port -/

/-- The pieces that fill `n` bytes, and the pieces after them. -/
def splitParts : Nat → List Part → List Part × List Part
  | _, [] => ([], [])
  | n, p :: r =>
    if p.len ≤ n then
      let x := splitParts (n - p.len) r
      (p :: x.1, x.2)
    else if n = 0 then ([], p :: r)
    else ([{ p with len := n }], { p with len := p.len - n, head := none } :: r)

/-- Bytes with their pieces as braid words of 32 bytes, the last padded with zeros; `fuel` bounds the words. -/
def toWords : Nat → List Part → List Byte → List Word32
  | 0, _, _ => []
  | n + 1, ps, b =>
    if b.isEmpty then []
    else
      let x := splitParts 32 ps
      ⟨b.take 32 ++ zeros (32 - b.length), x.1⟩ :: toWords n x.2 (b.drop 32)

/-- An output unit of some bytes. -/
def unitPart (md : Nat) (prov : Option Prov) (len : Nat) : Part := { len := len, md := md, prov := prov, head := some len }

/-- The cell's output port takes units and their bytes. -/
def Cell.push (c : Cell) (ps : List Part) (b : List Byte) : Cell :=
  { c with outQ := c.outQ ++ toWords (b.length / 32 + 1) ps b }

/-- Whether a step at or after entry `e` dumps into queue `q` in this run, from repetition `r` of that entry on. -/
def laterDump (img : SMap Byte) (l : Nat) (c : Cell) (q : Nat) : Nat → Nat → Nat → Bool
  | 0, _, _ => false
  | n + 1, e, r =>
    let se := c.stepAt e
    let pb := c.pmNat (64 * se.pbUnit) 64
    let hit := (decide (pbKernel pb = 1) || decide (pbKernel pb = 2)) && bit pb 38 && decide (r < se.rep) &&
      (match imgDump img l e with | some ds => decide (ds.queue = q) | none => false)
    hit || (!se.last && laterDump img l c q n (e + 1) 0)

/-- A step of a cell as it runs: physical and logical cell, step entry, parameter block, AG set, the image it runs
under, the n0 of FD, the context, first channel and WGEN of each beam of BP, the number of the first sample where the
spec's data does not tell it, and whether every unit of the step carries INVALID. -/
structure StepEnv where
  p     : Nat
  l     : Nat
  e     : Nat
  se    : StepEntry
  pb    : Nat
  ags   : List Ag
  img   : SMap Byte
  n0    : Nat
  beams : List (Option (Nat × Nat × Nat))
  free  : Int
  bad   : Bool
  deriving DecidableEq, Repr

/-- The tag of a record: header fields of its packet, and whether it is the run's last for its queue (R146). -/
def visTagOf (x : StepEnv) (c : Cell) (r : Nat) (ds : DumpDesc) : VisTag :=
  { fmt := pbFmt x.pb, pshift := if pbFmt x.pb = 0 then 0 else bits x.pb 32 5, vshift := ds.visShift, wide := ds.wide,
    intLen := bits x.pb 16 13 * ds.intRuns, gen := imgGen x.img, nrec := ds.nrec, cell := x.p,
    last := !(laterDump x.img x.l c ds.queue (32 - x.e) x.e (r + 1)) }

/-- A record's status and metadata take COLLIDE and INVALID (R86, R144). -/
def collideRecord (b : List Byte) : List Byte :=
  b.take 6 ++ [b.getD 6 0#8 ||| 4#8] ++ (b.take 10).drop 7 ++ [b.getD 10 0#8 ||| 0x18#8] ++ b.drop 11

/-- A DUMP meets a draining dump buffer: the record that drains is flagged where it has not left, and the collision
counts; it is raised once while the buffer drains (R84, R86). DESIGN CHOICE: every such DUMP counts, that of the
buffer's own operation too (assumption log 80). -/
def dumpCollide (d : Strand) (p slot e : Nat) (b : DumpBuf) : Strand :=
  let c := d.cell p
  let lo := b.left - b.words
  let one := fun (w : Word32 × Nat) =>
    if w.2 < lo ∨ b.left ≤ w.2 then w.1
    else
      { bytes := if w.2 = lo ∧ b.words ≤ b.left then collideRecord w.1.bytes else w.1.bytes,
        parts := w.1.parts.map fun q => { q with md := setBit q.md 2 true } }
  let d := d.setCell p { c with outQ := c.outQ.zipIdx.map one, dump := some { b with collided := true } }
  let d := ((d.bump (0x5100 + p) 0x0B 1).bump 0x5800 0x04 1).put 0x5800 0x08 (p + slot * 2 ^ 9 + e * 2 ^ 15)
  d.raiseIf (!b.collided) 0x15 p

/-- A tile is handed to the dump path: counters of R93, ACC_TILE_SAT, the record, the tile zeroed (R73). -/
def dumpTile (d : Strand) (x : StepEnv) (r slot : Nat) : Strand :=
  let c := d.cell x.p
  match c.dump with
  | some b => dumpCollide d x.p slot x.e b
  | none =>
    let t := c.tile slot
    let md := mdBad (bit t.flags stInvalid || bit t.flags stCollide) (t.md.getD 0)
    let c := c.setTile slot {}
    let c := match imgDump x.img x.l x.e with
      | none => c
      | some ds =>
        let rec_ := visRecord ds (decide (pbKernel x.pb = 2)) (decide (t.gen ≠ imgGen x.img)) r md t
        let n := c.outQ.length
        let c' := c.push [{ unitPart md t.prov rec_.length with vis := some (visTagOf x c r ds) }] rec_
        { c' with dump := some ⟨slot, c'.outQ.length, c'.outQ.length - n, false⟩ }
    let d := d.setCell x.p c
    let d := if bit t.flags stSat then (d.bump 0x5800 0x01 1).raise 0x22 x.p else d
    let d := if bit t.flags stChunkSat then d.bump 0x5800 0x02 1 else d
    if bit t.flags stBound then d.bump 0x5800 0x03 1 else d

/-- One repetition of XT or XA on its tile: CLEAR, promotions, DUMP (R73), under ownership (R84, R86). DESIGN CHOICE:
a SAT event of SAT_CNT is one lane's promotion in which its chunk or total clamped (assumption log 73). -/
def tileRep (d : Strand) (x : StepEnv) (r slot md gaps : Nat) (prov : Option Prov) (k : KOut) : Strand :=
  let c := d.cell x.p
  let t := c.tile slot
  if t.owner ≠ none ∧ t.owner ≠ some (x.e, r) then collide d x.p slot x.e
  else
    let clear := bit x.pb 37
    let t := if clear then clearTile t (some (x.e, r)) else { t with owner := some (x.e, r) }
    let marked := fun i => decide (smGet zeroAt c.ecc (totalKey slot i) ≠ 0)
    let hits := ((List.range 128).filter marked).map (totalKey slot)
    let d := findWords d x.p (if clear then [] else hits)
    let c := d.cell x.p
    let t := { t with gen := if t.count = 0 then imgGen x.img else t.gen,
                      prov := if t.count = 0 then prov else t.prov, md := mdAdd t.md md, gaps := t.gaps + gaps }
    let sh := if pbFmt x.pb = 0 then 0 else bits x.pb 32 5
    let tn := promoteAll (fun i => marked i && !clear) sh t k.passes
    let ecc := hits.foldl (fun m key => smSet zeroAt m key 0) c.ecc
    let d := d.setCell x.p ({ c with ecc := ecc }.setTile slot (countPromotion tn.1))
    let d := if tn.2 = 0 then d else d.bump (0x5100 + x.p) 0x0A tn.2
    if bit x.pb 38 then dumpTile d x r slot else d

/-- One repetition of BP on its tile: the records leave, and the tile keeps the last value of each lane, written anew. -/
def bpRep (d : Strand) (x : StepEnv) (r slot : Nat) (us : List Part) (k : KOut) : Strand :=
  let c := d.cell x.p
  let t := c.tile slot
  if t.owner ≠ none ∧ t.owner ≠ some (x.e, r) then
    let d := collide d x.p slot x.e
    d.setCell x.p ((d.cell x.p).push (us.map fun u => { u with md := setBit u.md 2 true }) (bpDiscarded x.pb))
  else
    let t := k.lanes.foldl (fun t x => (t.setTotal (2 * x.1) x.2.1).setTotal (2 * x.1 + 1) x.2.2) t
    let ecc := k.lanes.foldl (fun m x =>
      smSet zeroAt (smSet zeroAt m (totalKey slot (2 * x.1)) 0) (totalKey slot (2 * x.1 + 1)) 0) c.ecc
    let d := d.setCell x.p (({ c with ecc := ecc }.setTile slot { t with owner := none, collided := false }).push us k.out)
    if k.rvSat = 0 then d else d.bump 0x5800 0x05 k.rvSat

/-! ### Output units (R127) -/

/-- The rows of operand samples that AG0 gives in a repetition of `n` samples: index, offsets, marks of its elements. -/
def markRows (c : Cell) (x : StepEnv) (r n elems es : Nat) (ns : List Nat) : List (Nat × List Nat × List Mark) :=
  (agWalk x.ags ns n (List.replicate 8 0)).zipIdx.map fun o =>
    (o.2, o.1, elemMarks c (agAt x.ags 0) r (o.1.getD 0 0) 0 elems es)

/-- What row `i` of a beam step is, before its beam is named. -/
def rowProv (x : StepEnv) (i : Nat) (ms : List Mark) : Prov :=
  (provOf ms).getD ⟨4096, 1, x.free + i, 0, 0, 0, false, 0⟩

/-- What a record of beam `k` in repetition `r` is. -/
def beamProv (x : StepEnv) (r k : Nat) (p : Prov) : Prov :=
  match x.beams.getD k none with
  | some b => { p with ctx := b.1, chan := b.2.1 + r, wgen := b.2.2, wchg := false, gen := imgGen x.img }
  | none => { p with gen := imgGen x.img }

/-- Units of a BP repetition: one record each, with the metadata of its 64-sample block of its beam. -/
def bpUnits (c : Cell) (x : StepEnv) (r : Nat) : List Part :=
  let nbeam := bits x.pb 32 8
  let rows := markRows c x r (bits x.pb 40 16) (bits x.pb 20 12) (sampleBytes (pbFmt x.pb)) [0, 2]
  let blk := fun (w : Nat × List Nat × List Mark) => (rowProv x w.1 w.2.2).samp / 64
  (rows.splitBy fun a b => decide (blk a = blk b)).flatMap fun g =>
    let md0 := g.flatMap (·.2.2)
    let mds := (List.range nbeam).map fun k =>
      mdOf (md0 ++ if bit x.pb 18 then g.flatMap fun w => elemMarks c (agAt x.ags 2) r (w.2.1.getD 2 0) k 1 16 else [])
    g.flatMap fun w => (List.range nbeam).map fun k =>
      unitPart (mds.getD k 0) (some (beamProv x r k (rowProv x w.1 w.2.2))) 16

/-- Units of a BF repetition: one beam block record each; WGEN changed within it where its records differ (R150). -/
def bfUnits (c : Cell) (x : StepEnv) (r : Nat) : List Part :=
  (markRows c x r (bits x.pb 32 16) 64 16 [0]).map fun w =>
    let p := provOf w.2.2
    let change := p.any fun a => w.2.2.any fun k => k.prov.any fun b => decide (b.wgen ≠ a.wgen)
    unitPart (mdOf w.2.2) (p.map fun a => { a with wchg := change }) 132

/-- Units of an FD repetition: the outputs of one sample that make up 32 bytes. -/
def fdUnits (c : Cell) (x : StepEnv) (r : Nat) : List Part :=
  let nin := bits x.pb 21 11
  let es := sampleBytes (pbFmt x.pb)
  let os := sampleBytes (pbOfmt x.pb)
  let per := 32 / os
  (agWalk x.ags [0] (bits x.pb 32 16) (List.replicate 8 0)).flatMap fun o =>
    (List.range (ceilDiv nin per)).map fun g =>
      let n := min per (nin - g * per)
      let ms := elemMarks c (agAt x.ags 0) r (o.getD 0 0) (g * per) n es
      unitPart (mdOf ms) ((provOf ms).map fun p => { p with chan := bits x.pb 64 16 + r }) (n * os)

/-- A piece for each 32 bytes of the channels of a frame from channel `ch` on, `es` bytes each. -/
def chanParts (md : Nat) (prov : Option Prov) (es : Nat) : Nat → Nat → Nat → List Part
  | 0, _, _ => []
  | fuel + 1, ch, n =>
    if n = 0 then []
    else
      let k := min n (32 / es)
      unitPart md (prov.map fun p => { p with chan := ch }) (k * es) :: chanParts md prov es fuel (ch + k) (n - k)

/-- Channel of the first element that an FT step emits, the channels it emits, and their bytes (R129); for SPLIT those
of X[0..M]. -/
def ftChannels (pb : Nat) : Nat × Nat × Nat :=
  let m := 2 ^ bits pb 16 4 / 2
  if bits pb 20 3 = 2 then (0, m + 1, 4)
  else (if bits pb 30 1 = 0 then m else 0, m, sampleBytes (pbOfmt pb))

/-- Whether a cell's step list holds a PAIR step. -/
def listHasPair (c : Cell) : Nat → Nat → Bool
  | 0, _ => false
  | n + 1, e =>
    let se := c.stepAt e
    let pb := c.pmNat (64 * se.pbUnit) 64
    (decide (pbKernel pb = 6) && decide (bits pb 20 3 = 3)) || (!se.last && listHasPair c n (e + 1))

/-- The channels of an FT step that the braid takes (R130): first, how many are dropped before it, and how many are
kept. The transform that a cell of a pair copies to its partner is whole. -/
def keptChannels (c : Cell) (m : SMap Byte) (l pb : Nat) : Nat × Nat × Nat :=
  let w := ftChannels pb
  let role := if bits pb 20 3 = 3 then bits pb 30 1 else 0
  if bits pb 20 3 = 2 ∧ listHasPair c 32 0 then (w.1, 0, w.2.1)
  else match chanKeep m l role with
    | none => (w.1, 0, w.2.1)
    | some k =>
      let lo := max k.1 w.1
      let hi := min (k.2 + 1) (w.1 + w.2.1)
      (lo, lo - w.1, hi - lo)

/-- What the frame of an FP or FT step is: FP names it by the newest N samples of its ring (R129), a later stage by
what stands in the working frame. -/
def frameProv (c : Cell) (x : StepEnv) (r fpOff : Nat) : Option Prov :=
  let n := 2 ^ bits x.pb 20 4
  if pbKernel x.pb = 5 then
    (provOf (elemMarks c (agAt x.ags 0) r fpOff ((fpTaps x.pb - 1) * n) 1 (sampleBytes (pbFmt x.pb)))).map fun p =>
      { p with div := n * max p.div 1, samp := p.samp / n, chan := 0 }
  else provOf (elemMarks c (agAt x.ags (if bits x.pb 20 3 = 3 then 2 else 1)) r 0 0 1 4)

/-- The output of a repetition with its units. -/
def repUnits (c : Cell) (x : StepEnv) (r fpOff : Nat) (out : List Byte) : List Part × List Byte :=
  if out.isEmpty then ([], [])
  else match pbKernel x.pb with
  | 4 => (bfUnits c x r, out)
  | 6 =>
    let w := ftChannels x.pb
    let k := keptChannels c x.img x.l x.pb
    (chanParts (mdOf (touchMarks c x.ags x.pb r fpOff)) (frameProv c x r fpOff) w.2.2 (k.2.2 + 1) k.1 k.2.2,
      (out.drop (k.2.1 * w.2.2)).take (k.2.2 * w.2.2))
  | 7 => (fdUnits c x r, out)
  | _ => ([unitPart (mdOf (touchMarks c x.ags x.pb r fpOff)) none out.length], out)

/-! ### One step (R31, R37, R38) -/

/-- The kernel of a repetition. -/
def kernelRep (c : Cell) (ags : List Ag) (pb r n0 fpOff : Nat) (bad : Bool) : KOut :=
  match pbKernel pb with
  | 1 => kernelXt c ags pb r
  | 2 => kernelXa c ags pb r
  | 3 => kernelBp c ags pb r bad
  | 4 => kernelBf c ags pb r bad
  | 5 => kernelFp c ags pb r fpOff
  | 6 => kernelFt c ags pb r
  | 7 => kernelFd c ags pb r n0
  | 8 => kernelDt c ags pb r
  | 9 => kernelTs c ags pb r
  | _ => {}

/-- THR assertions of a step so far: cycle and bits. -/
abbrev ThrList := List (Nat × Nat)

/-- The stores of a repetition, with what stands beside them: the frame of FP and FT goes on to the next stage. -/
def storeRep (c : Cell) (x : StepEnv) (r fpOff : Nat) (k : KOut) : Cell :=
  let frame := decide (pbKernel x.pb = 5) || decide (pbKernel x.pb = 6)
  let ms := touchMarks c x.ags x.pb r fpOff
  let m : Option Mark :=
    if frame && (x.bad || !ms.isEmpty) then some ⟨mdBad x.bad (mdOf ms), frameProv c x r fpOff⟩ else none
  let c' := { c.storeAll k.wr with events := c.events ++ k.evs.map fun y => { y with md := mdBad x.bad y.md } }
  if m.isNone && c.marks.isEmpty then c' else k.wr.foldl (fun c w => c.setMarks w.1 w.2.1 1 m) c'

/-- Ring offset of the AG set of an FP step (R34). DESIGN CHOICE: it is kept for the unit of the AG set, so two FP
steps that share a unit share it (assumption log 69). -/
def ringOff (c : Cell) (x : StepEnv) : Nat := if pbKernel x.pb = 5 then smGet zeroAt c.ag0 x.se.agUnit else 0

/-- One repetition of a step: the kernel, its stores, tile, counters and output units. -/
def stepRep (x : StepEnv) (dt : Strand × ThrList) (r : Nat) : Strand × ThrList :=
  let d := dt.1
  let c := d.cell x.p
  let fpOff := ringOff c x
  let k := kernelRep c x.ags x.pb r x.n0 fpOff x.bad
  let bad := fun (u : Part) => { u with md := mdBad x.bad u.md }
  let c' := storeRep c x r fpOff k
  let c' := if pbKernel x.pb = 5 then
      { c' with ag0 := smSet zeroAt c'.ag0 x.se.agUnit
                        ((agAdvance 8 x.ags 0 (fpOff :: List.replicate 7 0)).getD 0 0) }
    else c'
  let d := d.setCell x.p c'
  let d := if k.inv = 0 then d else d.bump (0x5100 + x.p) 0x09 k.inv
  let d := if k.tsErr = 0 then d else d.bump (0x5100 + x.p) 0x0D k.tsErr
  let slot := (x.se.tile + r) % 64
  let d := if pbKernel x.pb = 1 ∨ pbKernel x.pb = 2 then
      let first := elemMarks c (agAt x.ags 0) r 0 0 (if pbKernel x.pb = 1 then 8 else 64) (sampleBytes (pbFmt x.pb))
      tileRep d x r slot (mdBad x.bad (mdOf (touchMarks c x.ags x.pb r fpOff))) (gapCount c x.ags x.pb r) (provOf first) k
    else if pbKernel x.pb = 3 then bpRep d x r slot ((bpUnits c x r).map bad) k
    else
      let u := repUnits c x r fpOff k.out
      d.setCell x.p ((d.cell x.p).push (u.1.map bad) u.2)
  (d, dt.2 ++ k.thr)

/-- An invalid step: CELL_PB_INVALID, and no further step until the next run start (R38). The port forms no unit of
its own. -/
def invalidStep (d : Strand) (p : Nat) : Strand :=
  (d.setCell p { d.cell p with stopped := true, outQ := [], dump := none }).raise 0x13 p

/-- Failed modulo-3 residue checks (R65, R66). -/
def residueFailOp (d : Strand) (p n : Nat) : Strand :=
  if n = 0 then d else (failCell (d.bump (0x5100 + p) 0x05 n) p).raise 0x11 p

/-- Words that fail before a read finds them. -/
def Cell.upset (c : Cell) (keys : List Nat) : Cell :=
  { c with ecc := keys.foldl (fun m k => if smGet zeroAt m k = 0 then smSet zeroAt m k 1 else m) c.ecc }

/-- Logical number under which a physical cell runs: its own, or that of a splice that retires it. -/
def Strand.runsAs (d : Strand) (p : Nat) : Nat :=
  match d.work.splices.find? fun x => decide (x.old = p) && decide (x.phase = 1) with
  | some x => x.logical
  | none => d.logicalOf p

/-- Marked words that a step reads: its latch, and all its repetitions (R32). -/
def stepFinds (c : Cell) (se : StepEntry) (ags : List Ag) (pb : Nat) : List Nat :=
  if c.ecc.isEmpty then []
  else
    let ring := fun (r : Nat) => (agWalk ags [0] (r + 1)
      ((if pbKernel pb = 5 then smGet zeroAt c.ag0 se.agUnit else 0) :: List.replicate 7 0)).getLast?.bind (·[0]?)
    ((List.range se.rep).flatMap fun r => stepHits c se ags pb r (if pbKernel pb = 5 then (ring r).getD 0 else 0)).dedup

/-- Context, first channel and WGEN of each beam of a BP step. -/
def stepBeams (d : Strand) (img : SMap Byte) (l e pb : Nat) : List (Option (Nat × Nat × Nat)) :=
  if pbKernel pb = 3 then
    (List.range (bits pb 32 8)).map fun k =>
      (beamContext img l e k).map fun x => (x, bits (imgContext img x) 64 16, d.get (0x8000 + x) 0x05)
  else []

/-- CLEAR and DUMP that a FLAGS command set and the run used go back to 0 (R185). -/
def Cell.flagsBack (c : Cell) : Cell :=
  let used := c.flagSet.filter fun x => decide (x.2 = 2)
  let c := used.foldl (fun c x =>
    let a := 64 * x.1 + 4
    c.store 3 a (smGet zeroByteAt c.pm a &&& 0x9F#8)) c
  { c with flagSet := c.flagSet.filter fun x => decide (x.2 ≠ 2) }

/-- The step at the cell's position: invalid, or its first `n` repetitions (R31). `resid` counts its failed residue
checks, `soft` the single-bit errors that its reads correct, `upset` the words that fail before it reads them. Answers
the strand and the THR assertions of the step. -/
def stepRun (d : Strand) (p n resid soft : Nat) (upset : List Nat) : Strand × ThrList :=
  let c := (d.cell p).upset upset
  if 32 ≤ c.pos then (invalidStep (d.setCell p c) p, [])
  else
    let se := c.stepAt c.pos
    let pb := c.pmNat (64 * se.pbUnit) 64
    let ags := agSet (c.pmNat (64 * se.agUnit) 64)
    let hits := if stepValid se pb ags then stepFinds c se ags pb else (c.ecc.map (·.1)).filter (latchHits c.pos se)
    let d := if soft = 0 then d else d.bump (0x5100 + p) 0x03 soft
    let d := findWords (d.setCell p c) p hits
    if stepValid se pb ags then
      let l := d.runsAs p
      let img := d.planOf l
      let spent := d.plan.rcSpent.contains p || d.plan.badCells.contains p
      let f := if pbKernel pb = 3 then d.freeI else (0, d)
      let x : StepEnv := ⟨p, l, c.pos, se, pb, ags, img, smGet zeroAt c.n0 se.pbUnit, stepBeams d img l c.pos pb, f.1,
        !hits.isEmpty || decide (0 < resid) || spent || c.lostRun⟩
      let dt := (List.range (min n se.rep)).foldl (stepRep x) (f.2, [])
      let c' := dt.1.cell p
      let flags := if smGet zeroAt c'.flagSet se.pbUnit = 0 then c'.flagSet else smSet zeroAt c'.flagSet se.pbUnit 2
      let c' := { c' with lastKF := some (pbKernel pb, pbFmt pb), flagSet := flags,
                          n0Set := c'.n0Set.filter fun u => decide (u ≠ se.pbUnit), ran := (c.pos :: c'.ran).dedup }
      (residueFailOp (dt.1.setCell p c') p resid, dt.2)
    else (invalidStep d p, [])

/-- The step at the cell's position, whole; the run ends after a step with LAST. -/
def kernelStepOp (d : Strand) (p resid soft : Nat) (upset : List Nat) : Strand × ThrList :=
  let c := d.cell p
  if c.running = false ∨ c.stopped = true then (d, [])
  else
    let dt := stepRun d p (2 ^ 16) resid soft upset
    let c' := dt.1.cell p
    if c'.stopped then dt
    else
      let last := ((c.upset upset).stepAt c.pos).last
      let c' := { c' with pos := c.pos + 1, running := !last, thr := 0, gapHot := if last then false else c'.gapHot }
      (dt.1.setCell p (if last then c'.flagsBack else c'), dt.2)

/-! ### Run starts (R36, R38) -/

/-- A cell may run: powered, gate open, and a role in the plan it runs under. -/
def Strand.mayRun (d : Strand) (p : Nat) : Bool :=
  let l := d.runsAs p
  decide (p < 272) && decide (d.domain (4 + cellDomain p) = 2) && (d.cell p).gateOpen && decide (l < 256) &&
    imgRole (d.planOf l) l && !(d.inReset) && d.flt.unitFit

/-- Tiles that the steps from the cell's position on name. -/
def abandonedTiles (c : Cell) : Nat → Nat → List Nat
  | 0, _ => []
  | n + 1, e =>
    let se := c.stepAt e
    let k := pbKernel (c.pmNat (64 * se.pbUnit) 64)
    let here := if k = 1 ∨ k = 2 ∨ k = 3 then (List.range se.rep).map fun r => (se.tile + r) % 64 else []
    if se.last then here else here ++ abandonedTiles c n (e + 1)

/-- A run start during a run: the step under way is cut short after `cut` repetitions, the rest is abandoned, and
CELL_OVERRUN is raised (R38). Words that no slot has taken are not sent. Answers the THR assertions of the cut step. -/
def overrunOp (d : Strand) (p cut : Nat) : Strand × ThrList :=
  if (d.cell p).stopped then (d, [])
  else
    let x := if cut = 0 then (d, []) else stepRun d p cut 0 0 []
    let c := x.1.cell p
    let c := (abandonedTiles c (32 - c.pos) c.pos).foldl (fun c s => c.setTile s ((c.tile s).flag stInvalid true)) c
    ((x.1.setCell p { c with outQ := [], dump := none }).raise 0x14 p, x.2)

/-- A run start: the list from entry 0 (R36). -/
def runStartOp (d : Strand) (p cut : Nat) : Strand × ThrList :=
  if d.mayRun p then
    let x := if (d.cell p).running then overrunOp d p cut else (d, [])
    let c := (x.1.cell p).flagsBack
    (x.1.setCell p { c with running := true, stopped := false, pos := 0, gapHot := false, lostRun := c.lostIn, lostIn := false,
                            outQ := if c.stopped then [] else c.outQ }, x.2)
  else (d, [])

/-! ### Scrubber (R32) -/

/-- The background scrubber reads a word. -/
def cellScrubOp (d : Strand) (p m word : Nat) (f : EccFind) : Strand :=
  let c := d.cell p
  let key := m * 65536 + word
  if 272 ≤ p ∨ memSize m ≤ 8 * word ∨ smGet zeroAt c.ecc key = 3 then d
  else match f with
    | .clean => d
    | .corrected => if smGet zeroAt c.ecc key = 0 then d.bump (0x5100 + p) 0x03 1 else d
    | .uncorrectable => findWords (d.setCell p (c.upset [key])) p [key]

/-! ### Control port (R185, R186) -/

/-- A command reaches a cell, and the spare that mirrors it (R181). -/
def Strand.onCell (d : Strand) (p : Nat) (f : Cell → Cell) : Strand :=
  if 272 ≤ p then d
  else
    let c := d.cell p
    let d := d.setCell p (f c)
    match c.mirror with
    | none => d
    | some q => d.setCell q (f (d.cell q))

/-- Resets the kept AG0 offsets of an AG set whose unit is rewritten (R34). -/
def Cell.dropAg0 (c : Cell) (unit : Nat) : Cell := { c with ag0 := smSet zeroAt c.ag0 unit 0 }

/-- WRITE: 4 bytes at ADDR in the memory of the last SELECT. -/
def cpWrite (addr arg : Nat) (c : Cell) : Cell :=
  let m := memCode c.sel
  let c := (c.storeBytes m addr (natToBytes 4 arg)).setMarks m addr 4 none
  if m = 3 then { c.dropAg0 (addr / 64) with lastKF := none } else c

/-- SELECT. -/
def cpSelect (addr : Nat) (c : Cell) : Cell :=
  { c with sel := match addr % 4 with | 0 => .stagingA | 1 => .stagingB | 2 => .coefficient | _ => .parameter }

/-- CLEAR and DUMP of the parameter block at a unit. -/
def Cell.setFlags (c : Cell) (unit : Nat) (clear dump : Bool) : Cell :=
  let a := 64 * unit + 4
  let b := (smGet zeroByteAt c.pm a).toNat
  c.store 3 a (BitVec.ofNat 8 (setBit (setBit b 5 clear) 6 dump))

/-- FLAGS: CLEAR and DUMP of the parameter block at a unit, for the next run. DEDUCED: after that run both are 0 again
(assumption log 81). -/
def cpFlags (unit arg : Nat) (c : Cell) : Cell :=
  { c.setFlags unit (bit arg 0) (bit arg 1) with flagSet := smSet zeroAt c.flagSet unit 1 }

/-- SET_BASE: BASE of AG3 of the set at a unit. -/
def cpSetBase (unit arg : Nat) (c : Cell) : Cell := c.storeBytes 3 (64 * unit + 24) (natToBytes 2 arg)

/-- SET_N0. -/
def cpSetN0 (unit arg : Nat) (c : Cell) : Cell :=
  { c with n0 := smSet zeroAt c.n0 unit arg, n0Set := (unit :: c.n0Set).dedup }

/-- COPY_BANK: bytes of the bank that AG3.BASE names to the other bank, whose base is `other` (R132). -/
def cpCopyBank (unit n other : Nat) (c : Cell) : Cell :=
  let a := agAt (agSet (readNat c.pm (64 * unit) 64)) 3
  c.storeBytes a.mem other ((List.range n).map fun i => smGet zeroByteAt (c.memOf a.mem) ((a.base + i) % memSize a.mem))

/-- OWNERS: every owner tag is cleared (R88). -/
def cpOwners (c : Cell) : Cell :=
  (List.range 64).foldl (fun c s => c.setTile s { c.tile s with owner := none, collided := false }) c

/-! ### Health (R65, R66) -/

/-- A margin reading by the sage. -/
def marginReadOp (d : Strand) (p : Nat) (margin : Int) : Strand :=
  if 272 ≤ p then d
  else
    let i := 0x5100 + p
    let d := d.putInt i 0x06 16 margin
    let d := if margin < d.getInt i 0x07 16 then d.putInt i 0x07 16 margin else d
    let low := decide (margin < d.getInt 0x5001 0x01 16)
    let n := if low then smGet zeroAt d.work.marginLow p + 1 else 0
    let d := { d with work := { d.work with marginLow := smSet zeroAt d.work.marginLow p n } }
    d.raiseIf low 0x12 p

/-- A write of 1 to HEALTH_CLEAR. -/
def healthClearOp (d : Strand) (p : Nat) : Strand :=
  let d := d.clearSubs (0x5100 + p) [0x03, 0x04, 0x05, 0x09, 0x0A, 0x0B, 0x0D]
  d.put (0x5100 + p) 0x07 (d.get (0x5100 + p) 0x06)

/-! ### Debug window (R91, R92) -/

/-- DEBUG_MODE. -/
def Strand.debugMode (d : Strand) : Bool := decide (d.get 0xF000 0x01 = 1)

/-- Locations of the debug window whose reads R91 refuses outside debug mode: the tile's status word and totals. -/
def debugLoc (index sub : Nat) : Bool :=
  decide (index = 0x5811) || decide (index = 0x5812) || (decide (index = 0x5810) && decide (sub = 0x05))

/-- A write of 1 to DBG_CAPTURE: a request that clears READY; a cell without power sets NO_CLOCK. -/
def dbgCaptureOp (d : Strand) : Strand :=
  let p := d.get 0x5810 0x01
  if d.domain (4 + cellDomain p) = 2 then
    { d.put 0x5810 0x04 0 with dbg := { d.dbg with request := some (p, d.get 0x5810 0x02) } }
  else { d.put 0x5810 0x04 2 with dbg := { d.dbg with request := none } }

/-- DBG_OWNER of a tile. -/
def ownerWord (t : Tile) : Nat :=
  match t.owner with
  | none => 0
  | some (e, r) => e + r * 2 ^ 5 + 2 ^ 21

/-- The capture: the totals, status word and owner tag of the tile that the request named, and READY; a cell that has
lost its power since gives NO_CLOCK and nothing else. -/
def debugTakeOp (d : Strand) : Strand :=
  match d.dbg.request with
  | none => d
  | some (p, n) =>
    if d.debugMode = false then d
    else if d.domain (4 + cellDomain p) ≠ 2 then { d.put 0x5810 0x04 2 with dbg := { d.dbg with request := none } }
    else
    let t := (d.cell p).tile n
    let d := { d with dbg := { request := none, tile := t } }
    let d := (d.put 0x5810 0x05 t.status).put 0x5810 0x06 (ownerWord t)
    let d := (List.range 64).foldl (fun d l =>
      (d.putInt 0x5811 l 64 (t.total (2 * l))).putInt 0x5812 l 64 (t.total (2 * l + 1))) d
    d.put 0x5810 0x04 1

end Sys2Proof.Machine
end

