-- ==== Sys2Proof/Machine/StoreOps.lean ====
section
/-! DEFINITION. The store of a strand (R204 to R210): reads and writes under ECC, the scrubber, soft repair, the
regions of STORE_MAP. -/

namespace Sys2Proof.Machine

/-- Bytes of the partition (R204). -/
def storeSize : Nat := 0x10000000

/-- Row of a byte offset, counted over all banks. -/
def storeRow (off : Nat) : Nat := off / 8192

/-- Bank of a row. -/
def rowBank (row : Nat) : Nat := row / 2048

/-! ### Regions (R205) -/

/-- A region of STORE_MAP. -/
structure Region where
  kind  : Nat
  index : Nat
  base  : Nat
  len   : Nat
  cells : Nat
  deriving DecidableEq, Repr

/-- The regions of an image; offsets in bytes. -/
def imgRegions (m : SMap Byte) : List Region :=
  (List.range (secCount m 12 0 16)).map fun i =>
    let w := secEntry m 12 0 16 i
    ⟨bits w 0 4, bits w 16 8, bits w 32 16 * 4096, bits w 48 16 * 4096, bits w 64 20 + 1⟩

/-- The region of a kind and index: 1 DELAY, 2 CT, 3 POOL, 4 SNAP, 5 WORK. -/
def imgRegion (m : SMap Byte) (kind index : Nat) : Option Region :=
  (imgRegions m).find? fun r => decide (r.kind = kind) && decide (r.index = index)

/-- The POOL region. -/
def imgPool (m : SMap Byte) : Option Region := (imgRegions m).find? fun r => decide (r.kind = 3)

/-! ### Reads and writes -/

/-- Mark of the 64-bit word that holds an offset: 1 uncorrectable, 2 poisoned. -/
def Strand.storeMark (d : Strand) (off : Nat) : Nat := smGet zeroAt d.store.ecc (off / 8)

/-- A byte of the store as a reader gets it: zero in a marked word (R207). -/
def Strand.storeByte (d : Strand) (off : Nat) : Byte :=
  if d.store.ecc.isEmpty then smGet zeroByteAt d.store.mem off
  else if d.storeMark off = 0 then smGet zeroByteAt d.store.mem off else 0#8

/-- Bytes `off` to `off + n - 1` as a reader gets them. -/
def Strand.storeRead (d : Strand) (off n : Nat) : List Byte := (List.range n).map fun i => d.storeByte (off + i)

/-- Whether a read meets an uncorrectable or poisoned word. -/
def Strand.storeBad (d : Strand) (off n : Nat) : Bool :=
  !d.store.ecc.isEmpty && (List.range n).any fun i => decide (d.storeMark (off + i) ≠ 0)

/-- A write: a word that has been written since it was poisoned is no longer poisoned (R208). -/
def Strand.storeWrite (d : Strand) (off : Nat) (b : List Byte) : Strand :=
  let ecc := if d.store.ecc.isEmpty then [] else
    (List.range b.length).foldl (fun e i => smSet zeroAt e ((off + i) / 8) 0) d.store.ecc
  { d with store := { d.store with mem := writeMem d.store.mem off b, ecc := ecc } }

/-! ### Soft repair (R209) -/

/-- Calls for the copy of a row to a spare row of its bank, which a copy under way precedes; a bank with no spare row
left for it raises STORE_SPARES_OUT. -/
def repairStart (d : Strand) (row : Nat) : Strand :=
  let same := (d.store.repair.filter fun r => decide (rowBank r = rowBank row)).length
  if d.store.repair.contains row then d
  else if d.get 0x6811 (rowBank row) ≤ same then d.raise 0x56 (0x8000 + rowBank row)
  else { d with store := { d.store with repair := d.store.repair ++ [row] } }

/-- The copy is complete: the row map switches, a word that was uncorrectable is poisoned in the copy. -/
def repairSwitchOp (d : Strand) : Strand :=
  match d.store.repair with
  | [] => d
  | row :: rest =>
    let bank := rowBank row
    let ecc := d.store.ecc.map fun x => if x.1 / 1024 = row then (x.1, 2) else x
    let n := smGet zeroAt d.store.rowMap row
    let d := { d with store := { d.store with repair := rest, ecc := ecc,
                                              rowMap := smSet zeroAt d.store.rowMap row (n + 1),
                                              rowCe := d.store.rowCe.filter fun x => decide (x.1 ≠ row) } }
    let d := d.put 0x6811 bank (d.get 0x6811 bank - 1)
    (d.bump 0x6810 0x05 1).raise 0x55 (0x8000 + bank)

/-- A corrected error of a row: more than STORE_ROW_CE_LIMIT within 3,600 s start a repair. -/
def rowCorrected (d : Strand) (row : Nat) : Strand :=
  let l := (row, d.sage) :: d.store.rowCe.filter fun x => decide (d.sage < x.2 + secTime 3600)
  let d := { d with store := { d.store with rowCe := l } }
  if d.get 0x6810 0x06 < (l.filter fun x => decide (x.1 = row)).length then repairStart d row else d

/-- A read finds bad words at `off` to `off + n - 1`: an uncorrectable one starts the repair of its row. -/
def storeFound (d : Strand) (off n : Nat) : Strand :=
  if (List.range n).any fun i => decide (d.storeMark (off + i) = 1) then repairStart d (storeRow off) else d

/-! ### Scrubber (R208) -/

/-- The scrubber reads a word in a port-B turn. -/
def storeScrubOp (d : Strand) (word : Nat) (f : EccFind) : Strand :=
  if storeSize ≤ 8 * word then d
  else
    let row := word / 1024
    let mark := smGet zeroAt d.store.ecc word
    let d := match f with
      | .clean => d
      | .corrected => if mark = 0 then rowCorrected (d.bump 0x6810 0x01 1) row else d
      | .uncorrectable =>
        if mark = 0 then
          let d := { d with store := { d.store with ecc := smSet zeroAt d.store.ecc word 1 } }
          repairStart (d.bump 0x6810 0x02 1) row
        else if mark = 1 then repairStart d row
        else d
    if word = 0x1FFFFFF then d.bump 0x6810 0x04 1 else d

/-- The store's contents are lost (R210): the partition, both plan slots and the plan generations. -/
def storeLost (d : Strand) : Strand :=
  { d with store := { d.store with mem := [], ecc := [], repair := [] } }

end Sys2Proof.Machine
end

