-- ==== Sys2Proof/Machine/QueueOps.lean ====
section
/-! DEFINITION. The queue engine (R216 to R233): pool cells and link words, packets under assembly and their
closing, the VIS, BEAM, CT, TRIG and SNAP formats, queue reads, turns of an output, stalls and flushes. -/

namespace Sys2Proof.Machine

/-! ### Descriptors, free list and link words (R217 to R219) -/

/-- Entry of a queue key: that of the ACTIVE plan, or for a key from 65536 on that of the plan before the last commit. -/
def Strand.qEntry (d : Strand) (q : Nat) : Nat :=
  if q < 65536 then imgQueue d.plan.active q else imgQueue d.plan.former (q - 65536)

/-- A queue's descriptor. -/
def Strand.queue (d : Strand) (q : Nat) : QDesc := smGet (fun _ => ({} : QDesc)) d.q.qd q

/-- QUEUE_PKTS and QUEUE_STATUS of a queue (R233), over its descriptor and the one under its former entry. -/
def queueRegs (d : Strand) (q : Nat) : Strand :=
  let x := d.queue q
  let y := d.queue (q + 65536)
  let d := d.put (0x6900 + q / 256) (q % 256) (x.pkts + y.pkts)
  d.put (0x6940 + q / 256) (q % 256) (b2n (x.stalled || y.stalled) + 2 * b2n (x.raised || y.raised) + 4 * b2n (x.isOpen || y.isOpen))

/-- The strand with a descriptor replaced; QUEUE_PKTS and QUEUE_STATUS follow it. -/
def Strand.setQueue (d : Strand) (q : Nat) (x : QDesc) : Strand :=
  queueRegs { d with q := { d.q with qd := smSet (fun _ => ({} : QDesc)) d.q.qd q x } } (q % 65536)

/-- The pool of a queue key: a queue under its former entry is in the former pool where the commit changed it. -/
def Strand.poolOf (d : Strand) (q : Nat) : Pool := if q < 65536 then d.q.pool else d.q.oldPool.getD d.q.pool

/-- Sets the free list of a queue's pool; POOL_FREE and POOL_FREE_MIN follow that of the ACTIVE plan. -/
def Strand.setFree (d : Strand) (q head n : Nat) : Strand :=
  if 65536 ≤ q ∧ d.q.oldPool.isSome then
    { d with q := { d.q with oldPool := d.q.oldPool.map fun p => { p with head := head, cnt := n } } }
  else
    let d := { d with q := { d.q with pool := { d.q.pool with head := head, cnt := n } } }
    let d := d.put 0x6820 0x02 n
    if n < d.get 0x6820 0x03 then d.put 0x6820 0x03 n else d

/-- Offset of a pool cell. -/
def Strand.poolOff (d : Strand) (q c : Nat) : Nat := (d.poolOf q).base + 256 * c

/-- Offset of a link word. -/
def Strand.linkOff (d : Strand) (q c : Nat) : Nat := (d.poolOf q).base + 256 * (d.poolOf q).np + 4 * c

/-- Link word of a pool cell. -/
def Strand.link (d : Strand) (q c : Nat) : Nat := bytesToNat (d.storeRead (d.linkOff q c) 4)

/-- Writes a link word: NEXT, END and USED_M1. -/
def Strand.setLink (d : Strand) (q c next : Nat) (fin : Bool) (used : Nat) : Strand :=
  d.storeWrite (d.linkOff q c) (natToBytes 4 (next % 2 ^ 20 + b2n fin * 2 ^ 20 + (used - 1) * 2 ^ 21))

/-- A cell of a queue's pool returns to the head of the free list. -/
def freeCell (q : Nat) (d : Strand) (c : Nat) : Strand :=
  (d.setLink q c (d.poolOf q).head false 1).setFree q c ((d.poolOf q).cnt + 1)

/-- Cells return in turn. -/
def freeCells (d : Strand) (q : Nat) (l : List Nat) : Strand := l.foldl (freeCell q) d

/-- Links cells `c` to `np - 1` into a free list. -/
def poolLinks (d : Strand) : Nat → Nat → Strand
  | 0, _ => d
  | n + 1, c => poolLinks (d.setLink 0 c (c + 1) false 1) n (c + 1)

/-- The pool of a POOL region as a commit makes it: cells 0 to NP - 1 free, in ascending order (R218). -/
def poolInit (d : Strand) (base np : Nat) : Strand :=
  let d := { d with q := { d.q with pool := { base := base, np := np } } }
  let d := ((poolLinks d np 0).put 0x6820 0x01 np).put 0x6820 0x03 np
  d.setFree 0 0 np

/-- Cells that reserves of other queues of the same plan hold back. -/
def heldBack (d : Strand) (q : Nat) : Nat :=
  let m := if q < 65536 then d.plan.active else d.plan.former
  let k := q / 65536 * 65536
  (List.range (imgQCount m)).foldl (fun a i =>
    if k + i = q then a else a + (qReserve (imgQueue m i) - (d.queue (k + i)).cells)) 0

/-- Whether a queue may take a cell: of its RESERVE, or one that no reserve holds back (R228). -/
def mayAllocate (d : Strand) (q : Nat) : Bool :=
  decide (0 < (d.poolOf q).cnt) &&
    (decide ((d.queue q).cells < qReserve (d.qEntry q)) || decide (heldBack d q < (d.poolOf q).cnt))

/-- Cells from `c` on, up to one with END or the cell `stop`; `fuel` bounds the walk. -/
def chainOf (d : Strand) (q stop : Nat) : Nat → Nat → List Nat
  | 0, _ => []
  | n + 1, c => if c = stop ∨ bit (d.link q c) 20 then [c] else c :: chainOf d q stop n (bits (d.link q c) 0 20)

/-! ### A bad link word (R228) -/

/-- Whether the link word of one of some cells is uncorrectable. -/
def linkBad (d : Strand) (q : Nat) (l : List Nat) : Bool := l.any fun c => d.storeBad (d.linkOff q c) 4

/-- Cells that closed packets of a queue hold. -/
def closedCells (d : Strand) (q : Nat) : Nat → Nat → List Nat
  | 0, _ => []
  | n + 1, c =>
    let l := chainOf d q (2 ^ 20) ((d.poolOf q).np + 1) c
    match l.getLast? with
    | none => []
    | some e => l ++ closedCells d q n (bits (d.link q e) 0 20)

/-- Cells of the open packet. -/
def openCells (d : Strand) (q : Nat) : List Nat :=
  let x := d.queue q
  if x.isOpen then chainOf d q x.openTail ((d.poolOf q).np + 1) x.openHead else []

/-- Two queue keys share a pool. -/
def samePool (d : Strand) (a b : Nat) : Bool := d.q.oldPool.isNone || decide (a / 65536 = b / 65536)

/-- Cells in use in a queue's pool: those of its queues' packets and of the packets that outputs are sending. -/
def cellsInUse (d : Strand) (q : Nat) : List Nat :=
  ((d.q.qd.filter fun p => samePool d q p.1).flatMap fun p =>
    closedCells d p.1 p.2.pkts p.2.head ++ openCells d p.1) ++
    d.q.outs.flatMap fun o => match o.2.tx with
      | none => []
      | some t => if samePool d q t.queue then t.cells else []

/-- Rebuilds the free list from all the link words: every cell that nothing uses, in ascending order. -/
def rebuildFree (d : Strand) (q : Nat) : Strand :=
  let used := cellsInUse d q
  let free := (List.range (d.poolOf q).np).filter fun c => !(used.contains c)
  let d := (List.zipWith (fun a b => (a, b)) free (free.drop 1 ++ [0])).foldl (fun d c => d.setLink q c.1 c.2 false 1) d
  d.setFree q (free.headD 0) free.length

/-- An uncorrectable link word: every packet of the queue is dropped, its cells not freed one by one, and the free
list is rebuilt. -/
def flushLink (d : Strand) (q : Nat) : Strand :=
  let x := d.queue q
  let d := d.setQueue q { x with pkts := 0, head := 0, tail := 0, cells := 0, waited := 0, flowOld := [],
                                 isOpen := false,
                                 openUsed := 0, len := 0, dropping := x.isOpen || x.dropping }
  let d := if d.get 0x6821 0x01 = q % 65536 then { d with q := { d.q with readPos := 0 } } else d
  (rebuildFree d q).raise 0x59 (q % 65536)

/-- A bad word among link words that the queue engine is about to read flushes the queue. -/
def guardLinks (d : Strand) (q : Nat) (l : List Nat) : Strand :=
  if d.store.ecc.isEmpty then d else if linkBad d q l then flushLink d q else d

/-- Takes the head of the free list. -/
def allocate (d : Strand) (q : Nat) : Nat × Strand :=
  let c := (d.poolOf q).head
  (c, d.setFree q (bits (d.link q c) 0 20) ((d.poolOf q).cnt - 1))

/-! ### A packet under assembly (R221) -/

/-- Abandons the packet under assembly: its cells are released, further words of it are discarded (R228). -/
def abandon (d : Strand) (q : Nat) : Strand :=
  let d := guardLinks d q (openCells d q)
  let x := d.queue q
  let l := openCells d q
  let d := freeCells d q l
  let d := d.setQueue q { x with isOpen := false, openUsed := 0, len := 0, cells := x.cells - l.length, dropping := true }
  (d.bump 0x6820 0x04 1).raise 0x58 (q % 65536)

/-- Opens a packet: the first cell, with the header slot left free. -/
def openPacket (d : Strand) (q : Nat) : Strand :=
  if (d.queue q).isOpen ∨ (d.queue q).dropping then d
  else
    let d := guardLinks d q [(d.poolOf q).head]
    if mayAllocate d q then
      let cd := allocate d q
      let x := d.queue q
      cd.2.setQueue q { x with isOpen := true, openHead := cd.1, openTail := cd.1, openUsed := 16, len := 16,
                               cells := x.cells + 1, hdr := [], recs := 0, flags := [], first := none, invalid := false }
    else abandon d q

/-- Links a further cell to the open packet. -/
def growPacket (d : Strand) (q : Nat) : Strand :=
  let d := guardLinks d q [(d.poolOf q).head]
  let x := d.queue q
  if !x.isOpen then d
  else if mayAllocate d q then
    let cd := allocate d q
    let d := cd.2.setLink q x.openTail cd.1 false 256
    d.setQueue q { x with openTail := cd.1, openUsed := 0, cells := x.cells + 1 }
  else abandon d q

/-- Writes bytes into the open packet; `fuel` bounds the cells they fill. -/
def appendBytes (d : Strand) (q : Nat) : Nat → List Byte → Strand
  | 0, _ => d
  | n + 1, b =>
    let x := d.queue q
    match b with
    | [] => d
    | _ :: _ =>
      if x.isOpen then
        if x.openUsed = 256 then appendBytes (growPacket d q) q n b
        else
          let k := min b.length (256 - x.openUsed)
          let d := d.storeWrite (d.poolOff q x.openTail + x.openUsed) (b.take k)
          appendBytes (d.setQueue q { x with openUsed := x.openUsed + k, len := x.len + k }) q n (b.drop k)
      else d

/-- Appends bytes. -/
def append (d : Strand) (q : Nat) (b : List Byte) : Strand := appendBytes d q (b.length / 64 + 4) b

/-- Rewrites bytes of the open packet from a place on. -/
def patchOpen (d : Strand) (q at_ : Nat) (b : List Byte) : Strand :=
  let l := openCells d q
  b.zipIdx.foldl (fun d x =>
    match l[(at_ + x.2) / 256]? with
    | some c => d.storeWrite (d.poolOff q c + (at_ + x.2) % 256) [x.1]
    | none => d) d

/-- The header slot (R220). -/
def headerSlot (len kind : Nat) (invalid : Bool) (q seq frac : Nat) : List Byte :=
  natToBytes 2 len ++ natToBytes 1 (kind + 32 * b2n invalid) ++ zeros 1 ++ natToBytes 2 q ++ zeros 2 ++
    natToBytes 4 seq ++ natToBytes 4 frac

/-- The idle item (R222). -/
def idleItem (q : Nat) : List Byte := zeros 2 ++ [16#8] ++ zeros 1 ++ natToBytes 2 q ++ zeros 10

/-- The BEAM header's closing fields: NBLK, WCHANGE and BLK_FLAGS; the VIS header's: NREC. -/
def closeHeader (kind : Nat) (x : QDesc) : List Byte :=
  if kind = 1 then x.hdr.take 1 ++ natToBytes 1 x.recs ++ x.hdr.drop 2
  else if kind = 2 then
    let fl := x.flags ++ List.replicate (8 - x.flags.length) 0
    x.hdr.take 1 ++ natToBytes 1 x.recs ++ (x.hdr.drop 2).take 38 ++ fl.map (BitVec.ofNat 8)
  else x.hdr

/-- What the queue engine keeps of a packet ends with it. -/
def QDesc.between (x : QDesc) : QDesc :=
  { x with isOpen := false, dropping := false, openUsed := 0, len := 0, hdr := [], recs := 0, flags := [], first := none,
           invalid := false }

/-- SEQ of a queue, which its former entry shares. -/
def Strand.seqOf (d : Strand) (q : Nat) : Nat := (d.queue (q % 65536)).seq

/-- SEQ of a queue rises; it wraps. -/
def bumpSeq (d : Strand) (q : Nat) : Strand :=
  let x := d.queue (q % 65536)
  d.setQueue (q % 65536) { x with seq := (x.seq + 1) % 2 ^ 32 }

/-- Closes the open packet (R221): header slot and format header, END and USED_M1, appended after TAIL. In SAFE the
packet carries INVALID (R400). A packet under discard ends. -/
def closePacket (d : Strand) (q : Nat) : Strand :=
  let d := if (d.queue q).isOpen ∧ (d.queue q).pkts ≠ 0 then guardLinks d q [(d.queue q).tail] else d
  let x := d.queue q
  if x.isOpen then
    let kind := qKind (d.qEntry q)
    let h := headerSlot x.len kind (x.invalid || d.inSafe) (q % 65536) (d.seqOf q) (fracOf d.now) ++ closeHeader kind x
    let d := (d.storeWrite (d.poolOff q x.openHead) h).setLink q x.openTail 0 true x.openUsed
    let d := if x.pkts = 0 then d
      else let w := d.link q x.tail
           d.setLink q x.tail x.openHead (bit w 20) (bits w 21 8 + 1)
    bumpSeq (d.setQueue q { x.between with
      head := if x.pkts = 0 then x.openHead else x.head, tail := x.openTail, pkts := x.pkts + 1,
      waited := if x.stalled then x.pkts + 1 else x.waited }) q
  else d.setQueue q x.between

/-! ### Formats -/

/-- EPOCH_ID and OFFSET of a nominal time in 2^-42 s, 12 bytes. -/
def timeFields (tU : Nat) : List Byte := natToBytes 8 (tU / 2 ^ 32) ++ natToBytes 4 (tU % 2 ^ 32)

/-- Nominal time of what a unit holds, in 2^-42 s; a value the spec does not state where no stream tells it. -/
def unitTime (d : Strand) (q : Nat) (p : Option Prov) : Nat × Strand :=
  let m := if q < 65536 then d.plan.active else d.plan.former
  match p.bind (provTime m) with
  | some t => (t, d)
  | none => d.freeNat

/-- Bytes 0 to 31 of the VIS header (R143), NREC still 0, for an integration that begins at `tU`. -/
def visHeader (g : Pkg) (d : Strand) (q : Nat) (v : VisTag) (tU : Nat) : List Byte :=
  natToBytes 1 (1 + 16 * b2n v.wide) ++ zeros 1 ++ natToBytes 2 g.deviceId ++
    natToBytes 1 (d.id.num + 4 * v.fmt) ++ natToBytes 1 v.pshift ++ natToBytes 1 v.vshift ++ zeros 1 ++
    timeFields tU ++ natToBytes 4 v.intLen ++ natToBytes 4 v.gen ++ natToBytes 2 (q % 65536) ++ zeros 2

/-- The first sample of the integration that a sample belongs to (R141). -/
def intStart (v : VisTag) (p : Prov) : Prov := { p with samp := p.samp / (max v.intLen 1 : Nat) * v.intLen }

/-- A VIS record begins: packets close as R146 states, a new one takes its header. Records whose time no stream tells
keep the time of the packet. -/
def visBegin (g : Pkg) (d : Strand) (q : Nat) (v : VisTag) (p : Option Prov) : Strand :=
  let t := unitTime d q (p.map (intStart v))
  let d := t.2
  let x := d.queue q
  let h := visHeader g d q v t.1
  let known := p.any fun a => decide (a.stream < 4096)
  let h := if known ∨ x.recs = 0 then h else h.take 8 ++ (x.hdr.drop 8).take 12 ++ h.drop 20
  let d := if x.recs = 0 ∨ x.hdr.take 28 = h.take 28 then d else closePacket d q
  if (d.queue q).recs = 0 then
    let d := append (openPacket d q) q h
    d.setQueue q { d.queue q with hdr := h }
  else d

/-- A VIS record is complete: counters, and the packet closes as R146 states. -/
def visEnd (d : Strand) (q : Nat) (v : VisTag) (md : Nat) : Strand :=
  let x := d.queue q
  let lost := bits md 0 3 ≠ 0
  let d := d.setQueue q { x with recs := x.recs + 1, invalid := x.invalid || bit md 2 }
  let d := if x.isOpen then d.bump 0x5700 0x01 1 else d
  let d := if x.isOpen ∧ lost then d.bump 0x5700 0x02 1 else d
  if v.nrec ≤ (d.queue q).recs ∨ v.last then closePacket d q else d

/-- Bytes 0 to 47 of the BEAM header (R150) with its first block. -/
def beamHeader (g : Pkg) (d : Strand) (p : Prov) (tU : Nat) : List Byte :=
  natToBytes 1 1 ++ zeros 1 ++ natToBytes 2 g.deviceId ++ natToBytes 1 d.id.num ++ zeros 1 ++
    natToBytes 2 p.ctx ++ natToBytes 2 p.chan ++ natToBytes 2 p.wgen ++
    timeFields tU ++ natToBytes 8 (ofSigned 64 p.samp) ++ natToBytes 4 p.gen ++ zeros 12

/-- BLK_FLAGS of a block (R150): the BF record's FLAGS and the block's metadata. -/
def blkFlags (recFlags md : Nat) : Nat :=
  setBit (bits recFlags 0 4) 2 (bit recFlags 2 || bit md 2) + 16 * b2n (bit md 0) + 32 * b2n (bit md 1) +
    64 * b2n (bit md 3)

/-- Blocks of a packet of a context. -/
def beamBlocks (d : Strand) (q : Nat) (p : Prov) : Nat :=
  bits (imgContext (if q < 65536 then d.plan.active else d.plan.former) p.ctx) 184 3 + 1

/-- What a BF record is; one that no context names is a value the spec does not state. -/
def beamUnit (d : Strand) (p : Option Prov) : Prov × Strand :=
  match p with
  | some p => (p, d)
  | none =>
    let f := d.freeI
    (⟨4096, 1, f.1, 0, 0, 0, false, imgGen d.plan.active⟩, f.2)

/-- A beam block begins (R151): a packet holds consecutive blocks of one context and channel, and begins at a block
whose number is a multiple of its length. -/
def beamBegin (g : Pkg) (d : Strand) (q : Nat) (p : Prov) : Strand :=
  let n := beamBlocks d q p
  let blk := p.samp / 64
  let x := d.queue q
  let other := match x.first with
    | some a => decide (a.ctx ≠ p.ctx) || decide (a.chan ≠ p.chan) || decide (a.gen ≠ p.gen) || decide (x.lastBlk + 1 ≠ blk)
    | none => false
  let d := if x.recs ≠ 0 ∧ (blk % n = 0 ∨ other = true) then closePacket d q else d
  if (d.queue q).recs = 0 then
    let t := unitTime d q (some p)
    let h := beamHeader g t.2 p t.1
    let d := append (openPacket t.2 q) q h
    d.setQueue q { d.queue q with hdr := h, first := some p }
  else d

/-- A beam block is complete. -/
def beamEnd (d : Strand) (q : Nat) (p : Prov) (recFlags md : Nat) : Strand :=
  let n := beamBlocks d q p
  let x := d.queue q
  let change := p.wchg || (match x.first with | some a => decide (a.wgen ≠ p.wgen) | none => false)
  let hdr := if change then x.hdr.take 5 ++ [x.hdr.getD 5 0#8 ||| 1#8] ++ x.hdr.drop 6 else x.hdr
  let d := d.setQueue q { x with recs := x.recs + 1, flags := x.flags ++ [blkFlags recFlags md], hdr := hdr,
                                 lastBlk := p.samp / 64, invalid := x.invalid || bit md 2 }
  let d := if x.isOpen then d.bump 0x5700 0x03 1 else d
  if (n : Int) ≤ p.samp / 64 % n + 1 then closePacket d q else d

/-- Payload bytes of 256 samples of a format coded as IN_FMT (R98). -/
def blockBytes (fmt : Nat) : Nat :=
  if fmt = 0 then 256 else if fmt = 1 then 512 else if fmt = 2 then 1024 else if fmt = 3 then 384
  else if fmt = 4 then 256 else 512

/-- Nominal start time of block `k` in 2^-42 s (R100). -/
def blockTime (origin num den k : Nat) : Nat := origin * 2 ^ 32 + k * 256 * den * 2 ^ 42 / num

/-- A block header (R98) with a valid HCRC. -/
def blockHeader (stream fmt flags tU k reason : Nat) : List Byte :=
  let b := natToBytes 2 (stream % 4096 + 0x1000) ++ natToBytes 1 fmt ++ natToBytes 1 flags ++ timeFields tU ++
    natToBytes 4 k ++ natToBytes 1 reason ++ zeros 7
  b ++ natToBytes 4 (crc32 b)

/-- Blocks of a CT packet (R230). -/
def ctBlocks (e : Nat) : Nat := (qMaxPkt e - 16) / (32 + blockBytes (bits e 108 4))

/-- Header of the block of a CT queue that begins at sample `n` of its stream. -/
def ctHeader (e md n : Nat) : List Byte :=
  let t := blockTime (bits e 128 58) (bits e 202 32) (bits e 186 16) (n / 256)
  blockHeader (bits e 96 12) (bits e 108 4) md t (n / 256) 0

/-- A block of a CT queue begins: its header takes its place, to be completed at the block's end. -/
def ctBegin (d : Strand) (q : Nat) : Strand :=
  let d := openPacket d q
  let x := d.queue q
  append (d.setQueue q { x with uat := x.len }) q (zeros 32)

/-- A block of a CT queue is complete: its header, and the packet's close at NB blocks. -/
def ctEnd (d : Strand) (q md : Nat) : Strand :=
  let e := d.qEntry q
  let x := d.queue q
  let n := x.ctN.getD 0
  let d := if x.isOpen then patchOpen d q x.uat (ctHeader e md (n - 256)) else d
  let d := d.setQueue q { d.queue q with recs := x.recs + 1, invalid := x.invalid || bit md 2 }
  if ctBlocks e ≤ (d.queue q).recs then closePacket d q else d

/-- The number of the sample with which a piece of a CT stream begins (R230): channel sample n div CT_NC tells it
where it changes, and the count of samples goes on from there. -/
def ctCount (d : Strand) (q : Nat) (p : Option Prov) : Strand :=
  let x := d.queue q
  match p with
  | some a =>
    if x.ctSamp = some a.samp then d
    else d.setQueue q { x with ctSamp := some a.samp, ctN := some (a.samp.toNat * bits (d.qEntry q) 112 16) }
  | none =>
    if x.ctN.isSome then d
    else
      let f := d.freeNat
      f.2.setQueue q { x with ctN := some (256 * f.1) }

/-- A unit begins in a queue of its format. -/
def unitBegin (g : Pkg) (d : Strand) (q : Nat) (w : Part) : Strand :=
  let k := qKind (d.qEntry q)
  let start := fun (d : Strand) (p : Option Prov) (n : Nat) =>
    d.setQueue q { d.queue q with ulen := n, upos := 0, umd := w.md, uprov := p, uflags := 0, vis := w.vis }
  if k = 1 then
    match w.vis, w.head with
    | some v, some n => start (visBegin g d q v w.prov) w.prov n
    | _, _ => d
  else if k = 2 then
    let p := beamUnit d w.prov
    start (beamBegin g p.2 q p.1) (some p.1) 132
  else start (ctBegin d q) w.prov (blockBytes (bits (d.qEntry q) 108 4))

/-- A unit is complete. -/
def unitEnd (d : Strand) (q : Nat) : Strand :=
  let x := d.queue q
  let k := qKind (d.qEntry q)
  let d := d.setQueue q { x with ulen := 0, upos := 0 }
  if k = 1 then
    match x.vis with
    | some v => visEnd d q v x.umd
    | none => d
  else if k = 2 then beamEnd d q (x.uprov.getD ⟨4096, 1, 0, 0, 0, 0, false, 0⟩) x.uflags x.umd
  else ctEnd d q x.umd

/-- Bytes of the unit in progress go into the packet: a BF record leaves out its bytes 1 to 3 (R151). -/
def unitBytes (d : Strand) (q : Nat) (b : List Byte) (md : Nat) : Strand :=
  let x := d.queue q
  let k := qKind (d.qEntry q)
  let es := max (blockBytes (bits (d.qEntry q) 108 4) / 256) 1
  let kept := if k = 2 then (b.zipIdx.filter fun y => decide (x.upos + y.2 = 0) ||
      decide (4 ≤ x.upos + y.2)).map (·.1) else b
  let fl := (b.zipIdx.find? fun y => decide (x.upos + y.2 = 1)).map fun y => y.1.toNat
  let d := append d q kept
  let y := d.queue q
  let d := d.setQueue q { y with upos := x.upos + b.length, umd := mdJoin x.umd md, uflags := fl.getD x.uflags,
                                 ctN := if k = 5 then y.ctN.map (· + b.length / es) else y.ctN }
  if x.ulen ≤ x.upos + b.length then unitEnd d q else d

/-- Takes the bytes of one piece into units; `fuel` bounds the units. -/
def takeBytes (g : Pkg) (q : Nat) : Nat → Strand → Part → List Byte → Strand
  | 0, d, _, _ => d
  | n + 1, d, w, b =>
    if b.isEmpty then d
    else
      let d := if (d.queue q).ulen = 0 then unitBegin g d q w else d
      let x := d.queue q
      if x.ulen = 0 then d
      else
        let k := min b.length (x.ulen - x.upos)
        takeBytes g q n (unitBytes d q (b.take k) w.md) { w with head := none } (b.drop k)

/-- A piece of a word for the queue engine. Where a unit begins that the queue takes whole, one that was cut short
before it ends. -/
def partIn (g : Pkg) (q : Nat) (x : Strand × List Byte) (w : Part) : Strand × List Byte :=
  let d := x.1
  let k := qKind (d.qEntry q)
  let d := if k = 5 then ctCount d q w.prov
    else if w.head.isSome ∧ (d.queue q).ulen ≠ 0 then d.setQueue q { d.queue q with ulen := 0, upos := 0 } else d
  (takeBytes g q 260 d w (x.2.take w.len), x.2.drop w.len)

/-- A word for the queue engine. -/
def wordIn (g : Pkg) (q : Nat) (d : Strand) (w : Word32) : Strand := (w.parts.foldl (partIn g q) (d, w.bytes)).1

/-- The words of one slot transfer into a queue. -/
def enqueue (g : Pkg) (d : Strand) (q : Nat) (ws : List Word32) : Strand :=
  let k := qKind (d.qEntry q)
  if k = 1 ∨ k = 2 ∨ k = 5 then ws.foldl (wordIn g q) d else d

/-- The packets of VIS queues whose last record came from a run of a cell that has ended close (R146). -/
def closeRunPackets (d : Strand) (p : Nat) : Strand :=
  (d.q.qd.map (·.1)).foldl (fun d q =>
    let x := d.queue q
    if qKind (d.qEntry q) = 1 ∧ x.recs ≠ 0 ∧ x.ulen = 0 ∧ (x.vis.map (·.cell)) = some p then closePacket d q else d) d

/-- A packet that the part itself builds (SNAP, TRIG): body after the header slot, opened and closed whole, INVALID
where what it says is. -/
def packetIn (d : Strand) (q : Nat) (body : List Byte) (bad : Bool := false) : Strand :=
  let d := append (openPacket d q) q body
  let x := d.queue q
  closePacket (d.setQueue q { x with invalid := x.invalid || bad }) q

/-! ### Queue reads (R222) -/

/-- Used bytes of a cell by its link word. -/
def cellUsed (w : Nat) : Nat := bits w 21 8 + 1

/-- A packet as it stands in the pool: its cells, its bytes, and whether packet data met a bad word. -/
def packetAt (d : Strand) (q c : Nat) : List Nat × List Byte × Bool :=
  let l := chainOf d q (2 ^ 20) ((d.poolOf q).np + 1) c
  let b := l.flatMap fun c => d.storeRead (d.poolOff q c) (cellUsed (d.link q c))
  (l, b, l.any fun c => d.storeBad (d.poolOff q c) (cellUsed (d.link q c)))

/-- RAISED and INVALID as the packet leaves, and PRIORITY of a BEAM header (R150, R220). -/
def leaveHeader (kind : Nat) (raised invalid : Bool) (b : List Byte) : List Byte :=
  let f := (b.getD 2 0#8).toNat
  let f := setBit (setBit f 6 raised) 5 (bit f 5 || invalid)
  let b := b.take 2 ++ natToBytes 1 f ++ b.drop 3
  if kind = 2 then b.take 21 ++ natToBytes 1 (setBit (b.getD 21 0#8).toNat 1 raised) ++ b.drop 22 else b

/-! ### The flow of a packet (R291) -/

/-- What is left of the former values once a packet is taken. -/
def flowTaken : List (Nat × Nat) → List (Nat × Nat)
  | [] => []
  | x :: l => if x.1 ≤ 1 then l else (x.1 - 1, x.2) :: l

/-- Value of the Ethernet flow under which the first packet of a queue closed. -/
def flowOf (d : Strand) (q : Nat) : Nat :=
  match (d.queue q).flowOld with
  | x :: _ => x.2
  | [] => d.get (0x3500 + (qOut (d.qEntry q)).id) 1

/-- A flow is about to change: packets that have closed keep its value. -/
def keepFlow (f : Nat) (d : Strand) (q : Nat) : Strand :=
  let x := d.queue q
  let o := qOut (d.qEntry q)
  let n := x.flowOld.foldl (fun a y => a + y.1) 0
  if qKind (d.qEntry q) ≠ 0 ∧ o.kind = 1 ∧ o.id = f ∧ n < x.pkts then
    d.setQueue q { x with flowOld := x.flowOld ++ [(x.pkts - n, d.get (0x3500 + f) 1)] }
  else d

/-- A flow takes a new value at a boundary, from the first packet that closes after it. -/
def flowApply (d : Strand) (f v : Nat) : Strand :=
  ((d.q.qd.map (·.1)).foldl (keepFlow f) d).put (0x3500 + f) 1 v

/-- Takes the oldest closed packet of a queue: its cells and its bytes as it leaves, or none where a link word
is bad. -/
def takePacket (d : Strand) (q : Nat) : Option (List Nat × List Byte) × Strand :=
  if (d.queue q).pkts = 0 then (none, d)
  else
    let d := guardLinks d q (packetAt d q (d.queue q).head).1
    let x := d.queue q
    if x.pkts = 0 then (none, d)
    else
      let p := packetAt d q x.head
      let d := if p.2.2 then d.raise 0x53 (q % 65536) else d
      let b := leaveHeader (qKind (d.qEntry q)) x.raised (p.2.2 || decide (0 < x.waited)) p.2.1
      let next := bits (d.link q (p.1.getLast?.getD 0)) 0 20
      (some (p.1, b), d.setQueue q { x with head := next, pkts := x.pkts - 1, waited := x.waited - 1,
                                             flowOld := flowTaken x.flowOld })

/-- Releases the cells of a packet of a queue (R218). -/
def releaseCells (d : Strand) (q : Nat) (l : List Nat) : Strand :=
  let d := freeCells d q l
  let x := d.queue q
  d.setQueue q { x with cells := x.cells - l.length }

/-- Flush of a queue key: closed packets dropped and cells released. -/
def flushKey (d : Strand) (q : Nat) : Strand :=
  let x := d.queue q
  let d := guardLinks d q (closedCells d q x.pkts x.head)
  let x := d.queue q
  let l := closedCells d q x.pkts x.head
  releaseCells (d.setQueue q { x with pkts := 0, head := 0, tail := 0, waited := 0, flowOld := [] }) q l

/-- Flush of a queue (R393). -/
def flushQueue (d : Strand) (q : Nat) : Strand :=
  let d := if d.get 0x6821 0x01 = q then { d with q := { d.q with readPos := 0 } } else d
  let d := flushKey d q
  if (d.queue (q + 65536)).pkts = 0 then d else flushKey d (q + 65536)

/-! ### Outputs (R224, R227) -/

/-- Key of an output. -/
def outKey (o : OutId) : Nat := o.id * 4 + o.kind % 4

/-- State of an output. -/
def Strand.output (d : Strand) (o : OutId) : OutSt := smGet (fun _ => ({} : OutSt)) d.q.outs (outKey o)

/-- The strand with an output's state replaced. -/
def Strand.setOutput (d : Strand) (o : OutId) (x : OutSt) : Strand :=
  { d with q := { d.q with outs := smSet (fun _ => ({} : OutSt)) d.q.outs (outKey o) x } }

/-- A queue has a closed packet that an output may send: its descriptor row is good (R229). -/
def Strand.ready (d : Strand) (q : Nat) : Bool := decide (0 < (d.queue q).pkts) && !((d.queue q).bad)

/-- Queues bound to an output, in the order in which a passed turn looks at them (R224). -/
def passOrder (d : Strand) (o : OutId) : List Nat :=
  let m := d.plan.active
  let l := (List.range (imgQCount m)).filter fun q =>
    decide (qKind (imgQueue m q) ≠ 0) && decide (qOut (imgQueue m q) = o) && d.ready q
  let key := fun q => (if (d.queue q).raised then 0 else 16) + qPrio (imgQueue m q)
  (List.range 32).flatMap fun k => l.filter fun q => decide (key q = k)

/-- Queues that go on under their former entry and are bound to an output, with a closed packet. -/
def formerReady (d : Strand) (o : OutId) : Option Nat :=
  (d.q.qd.map (·.1)).find? fun q => decide (65536 ≤ q) && decide (qOut (d.qEntry q) = o) && d.ready q

/-- The queue that a turn serves: its own, or the one to which it passes. -/
def turnQueue (d : Strand) (o : OutId) : Option Nat :=
  match imgCalendar d.plan.active o with
  | none => none
  | some c =>
    let q := c.turns.getD ((d.output o).turn % max c.turns.length 1) 0
    if d.ready q then some q else (passOrder d o).head?

/-- The packet of a queue begins to leave an output. -/
def sendFrom (d : Strand) (o : OutId) (q : Nat) : Option (Nat × List Byte) × Strand :=
  let f := flowOf d q
  match takePacket d q with
  | (none, d) => (none, d)
  | (some p, d) => (some (q % 65536, p.2), d.setOutput o { d.output o with tx := some ⟨q, p.1, p.2, f⟩, idle := false })

/-- The next turn of an output. -/
def nextTurn (d : Strand) (o : OutId) : Nat :=
  ((d.output o).turn + 1) % max (((imgCalendar d.plan.active o).map (·.turns.length)).getD 1) 1

/-- One turn (R224): a packet of the plan before the last commit first, else the packet of the turn's queue; an idle
turn ends when a packet closes. Answers the queue and the bytes that the output sends. -/
def outputTurn (d : Strand) (o : OutId) : Option (Nat × List Byte) × Strand :=
  let x := d.output o
  if x.tx.isSome then (none, d)
  else match d.q.old.find? fun p => decide (p.out = outKey o) with
    | some p =>
      let d := { d with q := { d.q with old := d.q.old.erase p } }
      (some (p.queue, p.bytes), d.setOutput o { x with tx := some ⟨p.queue, [], p.bytes, p.flow⟩ })
    | none => match formerReady d o with
      | some q => sendFrom d o q
      | none => match turnQueue d o with
        | some q =>
          let y := sendFrom d o q
          if y.1.isSome then (y.1, y.2.setOutput o { y.2.output o with turn := nextTurn d o }) else y
        | none => if x.idle then (none, d) else (none, d.setOutput o { x with turn := nextTurn d o, idle := true })

/-- The last byte of a packet has left: its cells are released (R218). -/
def txDoneOp (d : Strand) (o : OutId) : Strand :=
  let x := d.output o
  match x.tx with
  | none => d
  | some t => releaseCells (d.setOutput o { x with tx := none }) t.queue t.cells

/-- Queues of an output, those that go on under a former entry too. -/
def queuesOf (d : Strand) (o : OutId) : List Nat :=
  ((List.range (imgQCount d.plan.active)) ++ (d.q.qd.map (·.1)).filter fun q => decide (65536 ≤ q)).filter fun q =>
    decide (qKind (d.qEntry q) ≠ 0) && decide (qOut (d.qEntry q) = o)

/-- A queue stalls: its closed packets wait (R227). -/
def stallQueue (d : Strand) (q : Nat) : Strand :=
  d.setQueue q { d.queue q with stalled := true, waited := (d.queue q).pkts }

/-- An output stalls: its queues set STALLED and QUEUE_STALL is raised; packets that wait are marked (R227). -/
def stallOutput (d : Strand) (o : OutId) : Strand :=
  let x := d.output o
  if x.stalled then d
  else
    let qs := queuesOf d o
    let d := qs.foldl stallQueue (d.setOutput o { x with stalled := true })
    d.raiseIf (!qs.isEmpty) 0x57 (qs.headD 0 % 65536)

/-- The stall is over; a queue whose descriptor row is bad stays stalled. -/
def unstallOutput (d : Strand) (o : OutId) : Strand :=
  let x := d.output o
  if x.stalled then
    (queuesOf d o).foldl (fun d q => d.setQueue q { d.queue q with stalled := (d.queue q).bad })
      (d.setOutput o { x with stalled := false })
  else d

/-- A descriptor row turns out uncorrectable: the queue is handled as one of a stalled output until a spare row
replaces it (R229). -/
def rowBad (d : Strand) (q : Nat) : Strand :=
  if (d.queue q).stalled then d.setQueue q { d.queue q with bad := true }
  else ((stallQueue d q).setQueue q { (stallQueue d q).queue q with bad := true }).raise 0x57 q

/-! ### QUEUE_READ (R233) -/

/-- The queue that a number names is a HOST_READ queue. -/
def hostReadQueue (d : Strand) (q : Nat) : Bool :=
  decide (qKind (imgQueue d.plan.active q) ≠ 0) && decide (bits (imgQueue d.plan.active q) 8 2 = 3)

/-- The queue key that QUEUE_READ reads: the queue under its former entry first, while that holds a packet. -/
def readKey (d : Strand) (q : Nat) : Nat :=
  if 0 < (d.queue (q + 65536)).pkts ∧ bits (d.qEntry (q + 65536)) 8 2 = 3 then q + 65536 else q

/-- A piece of a packet, and whether more of it is to come. -/
def readPiece (d : Strand) (b : List Byte) (more : Bool) : Strand :=
  ({ d with q := { d.q with readPos := if more then d.q.readPos + 1 else 0 } }).answerData
    ((b.drop (256 * d.q.readPos)).take 256)

/-- A read of QUEUE_READ: the next cell of the oldest packet, the idle item, or an access error. -/
def queueReadOp (d : Strand) : Strand :=
  let q := d.get 0x6821 0x01
  if hostReadQueue d q = false then d.answer 0x01
  else match d.q.old.find? fun p => decide (p.queue = q) && decide (p.out % 4 = 3) with
  | some p =>
    if 256 * (d.q.readPos + 1) < p.bytes.length then readPiece d p.bytes true
    else { readPiece d p.bytes false with q := { (readPiece d p.bytes false).q with old := d.q.old.erase p } }
  | none =>
    let k := readKey d q
    if d.ready k = false then d.answerData (idleItem q)
    else
      let d := guardLinks d k (packetAt d k (d.queue k).head).1
      let x := d.queue k
      if x.pkts = 0 then d.answerData (idleItem q)
      else
        let p := packetAt d k x.head
        let d := if p.2.2 && d.q.readPos = 0 then d.raise 0x53 q else d
        let b := leaveHeader (qKind (d.qEntry k)) x.raised (p.2.2 || decide (0 < x.waited)) p.2.1
        if d.q.readPos + 1 < p.1.length then readPiece d b true
        else
          let r := readPiece d b false
          releaseCells (takePacket r k).2 k p.1

end Sys2Proof.Machine
end

