-- ==== Sys2Proof/Machine/IngestOps.lean ====
section
/-! DEFINITION. Ingest (R95 to R108, R452): the stream and window tables, the admission gate, staging, window
closings, and the snap rings that accepted and gap blocks are written to (R231). -/

namespace Sys2Proof.Machine

/-! ### Streams and windows (R95, R101) -/

/-- Nominal start time T_k of a stream's block, in 2^-42 s (R100). -/
def stTime (e k : Nat) : Nat := blockTime (stOrigin e) (stNum e) (stDen e) k

/-- GATE_PIPE in ns (R101). -/
def gatePipe : Nat := 48

/-- A signed value in ns in units of 2^-32 s, to nearest, ties away from zero (R100). -/
def ns32 (n : Int) : Int := divNearest (n * 4294967296) 1000000000

/-- TIME80 of a value in u: units of 2^-32 s, truncated (R100). -/
def u80 (t : Nat) : Nat := t / 2 ^ 10

/-! ### Window values in force (R102) -/

/-- PEN in ns that applies to block `k` of stream `s` with table entry `e` (R102, R452). -/
def Strand.penOf (d : Strand) (s e k : Nat) : Nat :=
  if smGet zeroAt d.ing.penFrom s ≤ k + 1 then smGet zeroAt d.ing.pen (stWin e) else 0

/-- HOLD_UNC in ns as taken at the last boundary. -/
def Strand.holdUnc (d : Strand) : Nat := d.get 0x4003 0x02

/-- W_LATE_EFF in ns of a window with a PEN: closing edge after T_end(k). -/
def Strand.lateNs (d : Strand) (w pen : Nat) : Int :=
  (winLag w : Int) - pen - gatePipe - d.holdUnc

/-- C(k) of a block in TIME80. -/
def Strand.closing (d : Strand) (m : SMap Byte) (s k : Nat) : Int :=
  let e := imgStream m s
  (u80 (stTime e (k + 1)) : Int) + ns32 (d.lateNs (imgWindow m (stWin e)) (d.penOf s e k))

/-- I(k) of a block in TIME80. -/
def Strand.slotTime (d : Strand) (m : SMap Byte) (s k : Nat) : Int :=
  let e := imgStream m s
  (u80 (stTime e (k + 1)) : Int) + ns32 ((winLag (imgWindow m (stWin e)) : Int) - d.penOf s e k)

/-! ### The gate (R103 to R106) -/

/-- Lane-map number of a lane record: an external logical lane or its bond for a physical pair, the number
itself for an internal lane or a JESD link (R263, R264, R280). -/
def Strand.endpointOf (d : Strand) (n : Nat) : Nat :=
  if 0x20 ≤ n ∧ n < 0x40 then
    (((List.range 32).map (0x20 + ·)).find? fun l => decide (smGet selfAt d.lanes.imap l = n)).getD 0x7F
  else if 26 ≤ n then n
  else match (List.range 24).find? fun l => decide (d.get 0x3001 l = n) with
    | none => 0x7F
    | some l => match (List.range 16).find? fun b => d.getBit 0x3003 b 0 && d.getBit 0x3003 b (l + 1) with
      | some b => 0x40 + b
      | none => l

/-- Physical pair of a lane record that ING_LANE_REFUSE_CNT counts (R299): a JESD link's first pair. -/
def Strand.refusePair (d : Strand) (n : Nat) : Nat :=
  if 0x60 ≤ n then d.get 0x3001 (bits (d.get 0x3600 (n - 0x60)) 4 5) else n

/-- Counts a NO_ROOM or HEADER refusal against the lane (R124, R299). -/
def countLaneRefuse (d : Strand) (n : Nat) : Strand :=
  if 0x20 ≤ n ∧ n < 0x40 then d.bump (0x3100 + n) 0x0F 1 else d.bump 0x4002 (d.refusePair n) 1

/-- The block number that a header's BLOCK_NO names (R103): congruent, and nearest to the arrival. -/
def nearestBlock (e aU bno : Nat) : Nat :=
  let den : Int := (256 * stDen e * 2 ^ 42 : Nat)
  let x : Int := ((aU : Int) - (stOrigin e * 2 ^ 32 : Nat)) * (stNum e : Int)
  if den = 0 then bno
  else
    let m := (2 * (x - bno * den) + 2 ^ 32 * den) / (2 * 2 ^ 32 * den)
    bno + m.toNat * 2 ^ 32

/-- Header checks of R103 for HEADER: VER, reserved fields, length against FMT, HCRC. -/
def headerOk (b : List Byte) : Bool :=
  decide (32 ≤ b.length) && decide (fieldAt b 0 2 / 4096 = 1) && decide (fieldAt b 2 1 ≤ 5) &&
    decide (fieldAt b 4 8 < 2 ^ 58) && decide (fieldAt b 21 7 = 0) &&
    decide (b.length = 32 + blockBytes (fieldAt b 2 1)) && decide (crc32 (b.take 28) = fieldAt b 28 4)

/-- Absolute difference. -/
def absDiff (a b : Nat) : Nat := (a - b) + (b - a)

/-- The ACTIVE and the former plan number a stream's blocks alike. -/
def Strand.sameNumbers (d : Strand) (s : Nat) : Bool :=
  let a := imgStream d.plan.former s
  let b := imgStream d.plan.active s
  decide (stNum a = stNum b) && decide (stDen a = stDen b) && decide (stOrigin a = stOrigin b)

/-- Block `k` of a stream, as the ACTIVE plan numbers it, has been accepted. -/
def Strand.accepted (d : Strand) (s k : Nat) : Bool :=
  (d.ing.staged.any fun x => decide (x.stream = s) && decide (x.blk = k) && (!x.oldPlan || d.sameNumbers s)) ||
    (smGet (fun _ => []) d.ing.taken s).contains k

/-- The gate's decision (R103): refusal code, or 0, and the block number. -/
def gateDecide (d : Strand) (n : Nat) (full : Bool) (b : List Byte) : Nat × Nat :=
  let s := fieldAt b 0 2 % 4096
  let m := d.plan.active
  let e := imgStream m s
  let k := nearestBlock e (toU d.now) (fieldAt b 16 4)
  let w := imgWindow m (stWin e)
  let a : Int := time80 d.now
  let tEnd : Int := u80 (stTime e (k + 1))
  let empty := decide (d.lateNs w (d.penOf s e k) < -(winEarly w : Int))
  let code :=
    if d.inSafe then 0x01
    else if full then 0x02
    else if !(headerOk b) then 0x03
    else if !(d.hasPlan && stValid e) then 0x04
    else if stLane e ≠ d.endpointOf n then 0x05
    else if fieldAt b 2 1 ≠ stInFmt e then 0x06
    else if winTol w < absDiff (fieldAt b 4 8 * 2 ^ 32 + fieldAt b 12 4) (stTime e k) then 0x07
    else if d.get 0x4003 0x01 < winShed w then 0x08
    else if !empty && decide (a < tEnd - ns32 (winEarly w)) then 0x09
    else if empty || decide (d.closing m s k < a) then 0x0A
    else if d.accepted s k then 0x0B
    else 0
  (code, k)

/-- Source of a refusal reason (R125). -/
def refuseSource (code : Nat) : Option Nat :=
  if code = 0x02 then some 0x30
  else if code = 0x03 ∨ code = 0x05 ∨ code = 0x06 ∨ code = 0x07 then some 0x31
  else if code = 0x09 ∨ code = 0x0A ∨ code = 0x0C then some 0x32
  else none

/-- Counts a refusal under its reason, and against its stream. -/
def countRefuse (d : Strand) (code s : Nat) : Strand :=
  (d.bump 0x4001 code 1).put (0x4320 + s / 256) (s % 256) code

/-- A refused block that is no duplicate leaves its block open with the reason (R105). -/
def leaveOpen (d : Strand) (s k code : Nat) : Strand :=
  let l := d.ing.opens.filter fun o => !(decide (o.stream = s) && decide (o.blk = k))
  { d with ing := { d.ing with opens := ⟨s, k, code⟩ :: l } }

/-- A refusal (R103). -/
def refuse (d : Strand) (n code s k : Nat) : Strand :=
  let d := if code = 0x02 ∨ code = 0x03 then countLaneRefuse (d.bump 0x4001 code 1) n
    else
      let d := countRefuse d code s
      if code = 0x0B ∨ code = 0x04 then d else leaveOpen d s k code
  match refuseSource code with
  | none => d
  | some src =>
    d.raiseOnce src (if code = 0x02 ∨ code = 0x03 then 0x8000 + (if 0x20 ≤ n then n else d.refusePair n) else s)

/-! ### Snap rings (R231) -/

/-- Bytes of a stream's ring slot: header and payload, rounded up to 64. -/
def snapSlotBytes (m : SMap Byte) (s : Nat) : Nat := ceilDiv (32 + blockBytes (stInFmt (imgStream m s))) 64 * 64

/-- Offset in the store of the slot of block `k` of stream `s` in a group. -/
def snapSlotOff (m : SMap Byte) (g : SnapGroup) (s k : Nat) : Nat :=
  let base := ((imgRegion m 4 g.region).map (·.base)).getD 0
  let before := (List.range (s - g.first)).foldl (fun a i => a + g.depth * snapSlotBytes m (g.first + i)) 0
  base + before + (k % max g.depth 1) * snapSlotBytes m s

/-- Writes a block, received or the gap block of R107, into the rings of the groups that take its stream. -/
def snapWrite (d : Strand) (s k : Nat) (gap : Bool) (b : List Byte) : Strand :=
  let m := d.plan.active
  (List.range (snapCount m)).foldl (fun d i =>
    let g := imgSnap m i
    if g.first ≤ s ∧ s < g.first + g.count then
      let o := snapSlotOff m g s k
      let d := d.storeWrite o b
      { d with ing := { d.ing with gapAt := smSet zeroAt d.ing.gapAt o (b2n gap) } }
    else d) d

/-! ### Commands -/

/-- A block arrives at an endpoint (R103). -/
def blockArrivalOp (d : Strand) (n : Nat) (full : Bool) (b : List Byte) : Strand :=
  if d.domain 3 ≠ 2 then d
  else
    let c := gateDecide d n full b
    let s := fieldAt b 0 2 % 4096
    if c.1 = 0 then
      let opens := d.ing.opens.filter fun o => !(decide (o.stream = s) && decide (o.blk = c.2))
      let x : Staged := ⟨s, c.2, b, d.tm.partition, false, d.slotTime d.plan.active s c.2⟩
      let d := { d with ing := { d.ing with staged := d.ing.staged ++ [x], opens := opens } }
      let d := (d.bump 0x4000 0x01 1).bump (0x4300 + s / 256) (s % 256) 1
      snapWrite d s c.2 false b
    else refuse d n c.1 s c.2

/-- The window of block `k` closes, at C(k) (R103): MISSING is counted, once, where no block for k was accepted. -/
def windowCloseOp (d : Strand) (s k : Nat) : Strand :=
  let e := imgStream d.plan.active s
  if d.domain 3 ≠ 2 ∨ !(d.hasPlan && stValid e) ∨ k + 1 < smGet zeroAt d.ing.next s ∨
      smGet zeroAt d.ing.next s = 0 ∨ k < smGet zeroAt d.ing.closed s ∨
          (time80 d.now : Int) < d.closing d.plan.active s k then d
  else
    let ok := d.accepted s k
    let d := { d with ing := { d.ing with closed := smSet zeroAt d.ing.closed s (k + 1) } }
    if ok then d else (countRefuse d 0x0C s).raiseOnce 0x32 s

/-- Whether LANE, window or format of the stream make it valid at a commit: first expected block (R104). -/
def firstBlock (e epoch : Nat) : Nat :=
  if epoch ≤ stOrigin e then 0
  else ceilDiv ((epoch - stOrigin e) * stNum e) (1024 * 256 * max (stDen e) 1)

/-- The gap block of R107. -/
def gapBlock (d : Strand) (e s k reason : Nat) : List Byte :=
  let fmt := stInFmt e
  blockHeader s fmt (1 + 4 * b2n d.inSafe) (stTime e k) (k % 2 ^ 32) reason ++ zeros (blockBytes fmt)

/-- A write of 1 to ING_CNT_CLEAR (R124). -/
def ingCntClearOp (d : Strand) : Strand :=
  let d := d.clearSubs 0x4000 [1, 2, 3, 4, 5, 6, 7, 8]
  let d := d.clearSubs 0x4001 [1, 2, 3, 4, 5, 6, 7, 8, 9, 10, 11, 12]
  let d := d.clearSubs 0x4002 (List.range 26)
  let keep := fun key => !(decide (0x4300 ≤ key / 256) && decide (key / 256 ≤ 0x431F))
  { d with regs := d.regs.filter fun p => keep p.1 }

end Sys2Proof.Machine
end

