-- ==== Sys2Proof/Machine/ChainOps.lean ====
section
/-! DEFINITION. The filter chain and the delay lines (R109 to R123): unpack, rank filter, FIR, rate control,
conversion, the delay-line write, flags, and the ingest slot. -/

namespace Sys2Proof.Machine

/-! ### Parameters from the plan (R95, R163) -/

/-- A FIR set (R113). -/
structure FirSet where
  taps    : Nat
  complex : Bool
  shift   : Nat
  coef    : List Int
  deriving DecidableEq, Repr

/-- A resampler bank (R115). -/
structure RsBank where
  tpp   : Nat
  shift : Nat
  coef  : List Int
  deriving DecidableEq, Repr

/-- `n` S16 values at an offset. -/
def s16At (m : SMap Byte) (o n : Nat) : List Int := (List.range n).map fun i => toSigned 16 (readNat m (o + 2 * i) 2)

/-- The FIR set `j` among the records from offset `o` to `stop`. -/
def firFind (m : SMap Byte) (j stop : Nat) : Nat → Nat → Option FirSet
  | 0, _ => none
  | n + 1, o =>
    if stop ≤ o then none
    else
      let h := readNat m o 8
      let taps := bits h 0 9
      let k := if bit h 9 then 2 * taps else taps
      if bits h 16 4 = j then some ⟨taps, bit h 9, bits h 10 5, s16At m (o + 8) k⟩
      else firFind m j stop n (o + 8 + ceilDiv (2 * k) 8 * 8)

/-- FIR set `j` of an image. -/
def imgFir (m : SMap Byte) (j : Nat) : FirSet :=
  match secFind m 7 0 with
  | none => ⟨0, false, 0, []⟩
  | some s => (firFind m j (s.off + s.len) 16 s.off).getD ⟨0, false, 0, []⟩

/-- The resampler bank `b` among the records from offset `o` to `stop`. -/
def rsFind (m : SMap Byte) (b stop : Nat) : Nat → Nat → Option RsBank
  | 0, _ => none
  | n + 1, o =>
    if stop ≤ o then none
    else
      let h := readNat m o 8
      let tpp := 8 * (bits h 4 2 + 1)
      if bits h 0 4 = b then some ⟨tpp, bits h 6 5, s16At m (o + 8) (64 * tpp)⟩
      else rsFind m b stop n (o + 8 + 128 * tpp)

/-- Resampler bank `b` of an image. -/
def imgRs (m : SMap Byte) (b : Nat) : RsBank :=
  match secFind m 8 0 with
  | none => ⟨8, 0, []⟩
  | some s => (rsFind m b (s.off + s.len) 16 s.off).getD ⟨8, 0, []⟩

/-- A complex IN_FMT or OUT_FMT: CX4, CX8, CX16. -/
def fmtComplex (f : Nat) : Bool := decide (f ≤ 2)

/-- Bytes of an OUT_FMT sample. -/
def outBytes (f : Nat) : Nat := sampleBytes f

/-! ### Unpack (R110) -/

/-- Sample `i` of a payload in IN_FMT. -/
def unpackAt (fmt : Nat) (b : List Byte) (i : Nat) : Cx :=
  if fmt = 3 then
    let w := fieldAt b (3 * (i / 2)) 3
    (toSigned 12 (bits w (12 * (i % 2)) 12), 0)
  else sampleOf fmt (fieldAt b (i * sampleBytes fmt) (sampleBytes fmt))

/-- A pure pass-through (R110). -/
def purePass (e : Nat) : Bool :=
  decide (stInFmt e = 0) && decide (stOutFmt e = 0) && decide (bits e 10 2 = 0) && decide (stRate e = 0) &&
    decide (bits e 80 4 = 0) && decide (bits e 84 4 = 0)

/-! ### Stages -/

/-- A sample before the start of a stage's history: zero and non-data (R99, R109). -/
def zeroSmp : Smp := ⟨0, 0, true, true, 0⟩

/-- Clamps to the working range (R109). -/
def satW (v : Int) : Int := clampI (-131072) 131071 v

/-- A stage output from its window: components before rounding; a clamp sets CONV_SAT. -/
def stageOut (win : List Smp) (re im : Int) (sh : Nat) : Smp × Nat :=
  let r := rnd re sh
  let i := rnd im sh
  let n := b2n (decide (satW r ≠ r)) + b2n (decide (satW i ≠ i))
  let fl := win.foldl (fun a x => a ||| x.fl) 0
  (⟨satW r, satW i, win.all (·.all), win.any (·.any), if n = 0 then fl else fl ||| 16⟩, n)

/-- `x[n - t]` of a history kept newest first. -/
def histAt (h : List Smp) (t : Nat) : Smp := h.getD t zeroSmp

/-- Inserts into an ascending list. -/
def insertI (v : Int) : List Int → List Int
  | [] => [v]
  | x :: r => if v ≤ x then v :: x :: r else x :: insertI v r

/-- The value of rank `k + 1` in ascending order. -/
def rankOf (k : Nat) (l : List Int) : Int := (l.foldr insertI []).getD k 0

/-- The rank filter's output (R112); answers the sample and the components it replaced. -/
def rankOut (e : Nat) (h : List Smp) : Smp × Nat :=
  let half := bits e 88 3
  let win := (List.range (2 * half + 1)).map (histAt h)
  let c := histAt h half
  let pick := fun (x : Int) (l : List Int) =>
    let m := rankOf half l
    if bit e 91 ∧ (x - m).natAbs ≤ bits e 96 16 then x else m
  let re := pick c.re (win.map (·.re))
  let im := if fmtComplex (stInFmt e) then pick c.im (win.map (·.im)) else 0
  let n := b2n (decide (re ≠ c.re)) + b2n (decide (im ≠ c.im))
  let fl := win.foldl (fun a x => a ||| x.fl) 0
  (⟨re, im, win.all (·.all), win.any (·.any), if n = 0 then fl else fl ||| 32⟩, n)

/-- The FIR's output (R113); answers the sample and the clamps. -/
def firOut (f : FirSet) (h : List Smp) : Smp × Nat :=
  let win := (List.range f.taps).map (histAt h)
  if f.complex then
    let t := (List.range f.taps).map fun t =>
      cxMul (f.coef.getD (2 * t) 0, f.coef.getD (2 * t + 1) 0) ((histAt h t).re, (histAt h t).im)
    stageOut win (sumI (t.map (·.1))) (sumI (t.map (·.2))) f.shift
  else
    stageOut win (sumI (List.zipWith (fun c x => c * x.re) f.coef win))
      (sumI (List.zipWith (fun c x => c * x.im) f.coef win)) f.shift

/-- Coefficients of a ÷2 stage (R114). -/
def halfCoef (minPhase : Bool) : List Int :=
  if minPhase then [22000, 38000, 36000, 22000, 9000, 2500, 1572]
  else [498, 0, -1520, 0, 4181, 0, -10578, 0, 40187, 65536, 40187, 0, -10578, 0, 4181, 0, -1520, 0, 498]

/-- A ÷2 stage's output. -/
def halfOut (minPhase : Bool) (h : List Smp) : Smp × Nat :=
  let g := halfCoef minPhase
  let win := (List.range g.length).map (histAt h)
  stageOut win (sumI (List.zipWith (fun c x => c * x.re) g win)) (sumI (List.zipWith (fun c x => c * x.im) g win)) 17

/-- Input position and phase of resampler output `j` (R115). -/
def rsPos (step j : Nat) : Nat × Nat :=
  let p := j * step
  let phi := (p % 2 ^ 24 + 2 ^ 17) / 2 ^ 18
  if phi = 64 then (p / 2 ^ 24 + 1, 0) else (p / 2 ^ 24, phi)

/-- A resampler output whose newest input is `back` samples before the newest of the history. -/
def rsOut (b : RsBank) (phi back : Nat) (h : List Smp) : Smp × Nat :=
  let win := (List.range b.tpp).map fun t => histAt h (back + t)
  let c := (b.coef.drop (phi * b.tpp)).take b.tpp
  stageOut win (sumI (List.zipWith (fun c x => c * x.re) c win)) (sumI (List.zipWith (fun c x => c * x.im) c win)) b.shift

/-! ### One sample through the stages -/

/-- What a sample's way through the chain counts: rank replacements and clamps. -/
structure ChainCnt where
  rf   : Nat := 0
  conv : Nat := 0
  deriving DecidableEq, Repr

/-- Filter stage: RANK, FIR or none; `x` is the new input. -/
def filterStage (m : SMap Byte) (e : Nat) (c : Chain) (x : Smp) : Smp × Chain × ChainCnt :=
  match bits e 10 2 with
  | 1 =>
    let h := (x :: c.filt).take (2 * bits e 88 3 + 1)
    let y := rankOut e h
    (y.1, { c with filt := h }, { rf := y.2 })
  | 2 =>
    let f := imgFir m (bits e 92 4)
    let h := (x :: c.filt).take 384
    let y := firOut f h
    (y.1, { c with filt := h }, { conv := y.2 })
  | _ => (x, c, {})

/-- First ÷2 stage; answers an output for every second input. -/
def halfStage1 (mp : Bool) (c : Chain) (x : Smp) : Option Smp × Chain × Nat :=
  let h := (x :: c.st1).take 19
  let c' := { c with st1 := h, nSt1 := c.nSt1 + 1 }
  if c.nSt1 % 2 = 0 then let y := halfOut mp h; (some y.1, c', y.2) else (none, c', 0)

/-- Second ÷2 stage. -/
def halfStage2 (mp : Bool) (c : Chain) (x : Smp) : Option Smp × Chain × Nat :=
  let h := (x :: c.st2).take 19
  let c' := { c with st2 := h, nSt2 := c.nSt2 + 1 }
  if c.nSt2 % 2 = 0 then let y := halfOut mp h; (some y.1, c', y.2) else (none, c', 0)

/-- Third ÷2 stage. -/
def halfStage3 (mp : Bool) (c : Chain) (x : Smp) : Option Smp × Chain × Nat :=
  let h := (x :: c.st3).take 19
  let c' := { c with st3 := h, nSt3 := c.nSt3 + 1 }
  if c.nSt3 % 2 = 0 then let y := halfOut mp h; (some y.1, c', y.2) else (none, c', 0)

/-- Resampler outputs that the newest input `i` completes; `fuel` bounds them. -/
def rsDrain (b : RsBank) (step a i : Nat) : Nat → Chain → List Smp → Nat → List Smp × Chain × Nat
  | 0, c, acc, n => (acc, c, n)
  | fuel + 1, c, acc, n =>
    let p := rsPos step c.rsOut
    if i < p.1 + a then (acc, c, n)
    else
      let y := rsOut b p.2 (i - (p.1 + a)) c.rs
      rsDrain b step a i fuel { c with rsOut := c.rsOut + 1 } (acc ++ [y.1]) (n + y.2)

/-- Rate control: the outputs of one filtered sample, the chain and the clamps. -/
def rateStage (m : SMap Byte) (e : Nat) (c : Chain) (x : Smp) : List Smp × Chain × Nat :=
  let mp := bit e 15
  match stRate e with
  | 1 =>
    let r := halfStage1 mp c x
    (r.1.toList, r.2.1, r.2.2)
  | 2 =>
    let r := halfStage1 mp c x
    match r.1 with
    | none => ([], r.2.1, r.2.2)
    | some y => let s := halfStage2 mp r.2.1 y; (s.1.toList, s.2.1, r.2.2 + s.2.2)
  | 3 =>
    let r := halfStage1 mp c x
    match r.1 with
    | none => ([], r.2.1, r.2.2)
    | some y =>
      let s := halfStage2 mp r.2.1 y
      match s.1 with
      | none => ([], s.2.1, r.2.2 + s.2.2)
      | some z => let t := halfStage3 mp s.2.1 z; (t.1.toList, t.2.1, r.2.2 + s.2.2 + t.2.2)
  | 4 =>
    if stRsStep e = 2 ^ 24 then ([x], c, 0)
    else
      let b := imgRs m (bits e 245 4)
      let a := if mp then 0 else b.tpp / 2
      let c := { c with rs := (x :: c.rs).take 64, rsIn := c.rsIn + 1 }
      rsDrain b (stRsStep e) a (c.rsIn - 1) 4 c [] 0
  | _ => ([x], c, 0)

/-- Output conversion (R111): components and whether each was clamped. -/
def convertOut (e : Nat) (x : Smp) : Cx × Nat :=
  if purePass e then ((x.re, x.im), 0)
  else
    let f := stOutFmt e
    let one := fun (v : Int) => rnd (v * 2 ^ bits e 80 4) (bits e 84 4)
    let re := one x.re
    let im := if fmtComplex f then one x.im else 0
    ((satFmt f re, satFmt f im), b2n (decide (satFmt f re ≠ re)) + b2n (decide (satFmt f im ≠ im)))

/-! ### Delay line (R118) -/

/-- Samples that a delay line holds. -/
def dlLen (e : Nat) : Nat := stDelayMax e + 512

/-- Store offset of chain output sample `i`. -/
def dlOffset (e i : Nat) : Nat := stDlBase e + (i % dlLen e) * outBytes (stOutFmt e)

/-- Key of a delay-line block's metadata. -/
def dlKey (s b : Nat) : Nat := s * 2 ^ 40 + b

/-- FLAGS of an output block (R99, R108): `any` of its `n` samples depend on non-data, `all` depend only on it. A
block whose samples all depend on non-data, none of them only on it, is neither GAP nor EDGE. -/
def blockFlags (d : Strand) (s e : Nat) (any all n fl : Nat) : Nat :=
  let fl := fl ||| (if bits e 10 2 = 2 then 64 else 0)
  let fl := if d.inSafe || d.ing.memBad.contains s then fl ||| 4 else fl
  if 0 < n ∧ all = n then fl ||| 1 else if 0 < all ∨ (0 < any ∧ any < n) then fl ||| 2 else fl

/-- Drops metadata of blocks that the delay line no longer holds. -/
def pruneMeta (d : Strand) (s e b : Nat) : Strand :=
  let keep := dlLen e / 256 + 4
  if b < keep then d
  else { d with ing := { d.ing with dlMeta := smSet zeroAt d.ing.dlMeta (dlKey s (b - keep)) 0 } }

/-- One output sample: conversion, delay-line write, flags of its block. `ck` is the key of the chain. -/
def chainWrite (s ck e : Nat) (d : Strand) (x : Smp) : Strand :=
  let c := smGet (fun _ => ({} : Chain)) d.ing.chains ck
  let y := convertOut e x
  let i := c.nOut.getD 0
  let d := d.storeWrite (dlOffset e i) (sampleEnc (stOutFmt e) y.1)
  let d := if y.2 = 0 then d else (d.bump 0x4000 0x06 y.2).raiseOnce 0x34 s
  let fl := (x.fl ||| c.accFl) ||| (if y.2 = 0 then 0 else 16)
  let any := c.accAny + b2n x.any
  let all := c.accAll + b2n x.all
  let bf := blockFlags d s e any all (i % 256 + 1) fl
  let d := { d with ing := { d.ing with dlMeta := smSet zeroAt d.ing.dlMeta (dlKey ck (i / 256)) (bf % 256 + 256) } }
  let c := { c with nOut := some (i + 1), accAny := any, accAll := all, accFl := fl }
  if i % 256 = 255 then
    let d := { d with ing := { d.ing with chains := smSet (fun _ => ({} : Chain)) d.ing.chains ck
                                            { c with accAny := 0, accAll := 0, accFl := 0 } } }
    let d := if bit bf 0 then d.bump 0x4000 0x02 1 else d
    let d := if bit bf 1 then d.bump 0x4000 0x03 1 else d
    pruneMeta d ck e (i / 256)
  else { d with ing := { d.ing with chains := smSet (fun _ => ({} : Chain)) d.ing.chains ck c } }

/-- Index of the first output sample where a stage's first input is `n`. -/
def firstOut (m : SMap Byte) (e n : Nat) : Nat :=
  match stRate e with
  | 1 => n / 2 | 2 => n / 4 | 3 => n / 8
  | 4 =>
    if stRsStep e = 2 ^ 24 then n
    else
      let b := imgRs m (bits e 245 4)
      let a := if bit e 15 then 0 else b.tpp / 2
      let j := (n - a) * 2 ^ 24 / max (stRsStep e) 1 - 2
      ((List.range 6).map (j + ·)).find? (fun j => decide (n ≤ (rsPos (stRsStep e) j).1 + a)) |>.getD j
  | _ => n

/-- The chain at its first block: zero history, indexes of the stages. -/
def chainStart (m : SMap Byte) (e k : Nat) : Chain :=
  let n := 256 * k
  let j := firstOut m e n
  { live := true, nIn := n, nSt1 := n, nSt2 := n / 2, nSt3 := n / 4, rsIn := n, rsOut := j, nOut := some j,
    accAny := j % 256, accAll := j % 256 }

/-- One input sample through the whole chain. DESIGN CHOICE (assumption log 77): a clamp in the FIR or in rate control
counts in ING_CONV_SAT_CNT as one in conversion does, which is the only place where R111 states the count. -/
def chainSample (m : SMap Byte) (s ck e : Nat) (d : Strand) (x : Smp) : Strand :=
  let c := smGet (fun _ => ({} : Chain)) d.ing.chains ck
  let f := filterStage m e c x
  let r := rateStage m e f.2.1 f.1
  let c := { r.2.1 with nIn := c.nIn + 1 }
  let d := { d with ing := { d.ing with chains := smSet (fun _ => ({} : Chain)) d.ing.chains ck c } }
  let d := if f.2.2.rf = 0 then d else d.bump 0x4000 0x04 f.2.2.rf
  let n := f.2.2.conv + r.2.2
  let d := if n = 0 then d else (d.bump 0x4000 0x06 n).raiseOnce 0x34 s
  r.1.foldl (chainWrite s ck e) d

/-- The samples of a block as the chain takes them (R107, R110), and the invalid samples it zeroes. -/
def blockSamples (e : Nat) (gap : Bool) (fl : Nat) (payload : List Byte) : List Smp × Nat :=
  if gap then (List.replicate 256 ⟨0, 0, true, true, fl⟩, 0)
  else
    let xs := (List.range 256).map (unpackAt (stInFmt e) payload)
    let zap := fun x => invalidCx4 (stInFmt e) x && !(purePass e)
    (xs.map fun x => if zap x then ⟨0, 0, false, false, fl⟩ else ⟨x.1, x.2, false, false, fl⟩,
      (xs.filter zap).length)

/-- The chain takes a block (R109): `m` is the plan it was accepted under, `fl` its FLAGS. -/
def chainTake (d : Strand) (m : SMap Byte) (s ck k : Nat) (gap : Bool) (fl : Nat) (payload : List Byte) : Strand :=
  let e := imgStream m s
  let c := smGet (fun _ => ({} : Chain)) d.ing.chains ck
  let c := if c.live ∧ c.nIn = 256 * k then c else chainStart m e k
  let d := { d with ing := { d.ing with chains := smSet (fun _ => ({} : Chain)) d.ing.chains ck c } }
  let b := blockSamples e gap fl payload
  let d := if b.2 = 0 then d else d.bump 0x4000 0x05 b.2
  b.1.foldl (chainSample m s ck e) d

/-! ### The ingest slot (R107) -/

/-- A block that its slot has taken is remembered while a window of the largest ING_LAG_NS could be open for it
(R105). -/
def noteTaken (d : Strand) (m : SMap Byte) (x : Staged) : Strand :=
  if x.oldPlan && !(d.sameNumbers x.stream) then d
  else
    let e := imgStream m x.stream
    let open_ := (smGet (fun _ => []) d.ing.taken x.stream).filter fun k =>
      decide ((time80 d.now : Int) ≤ u80 (stTime e (k + 1)) + ns32 (2 ^ 32))
    { d with ing := { d.ing with taken := smSet (fun _ => []) d.ing.taken x.stream (x.blk :: open_) } }

/-- The slot of an accepted block: it leaves staging and passes through the chain of its plan (R20). -/
def slotAccepted (d : Strand) (x : Staged) : Strand :=
  let m := if x.oldPlan then d.plan.former else d.plan.active
  let ck := if x.oldPlan ∧ d.ing.oldSet.contains x.stream then x.stream + 4096 else x.stream
  let d := noteTaken { d with ing := { d.ing with staged := d.ing.staged.erase x } } m x
  chainTake d m x.stream ck x.blk false (fieldAt x.bytes 3 1 ||| (if x.part then 8 else 0)) (x.bytes.drop 32)

/-- The slot of a block position without an accepted block: the gap block, and its snap ring slot (R231). DESIGN
CHOICE (assumption 75): STREAM_GAP_CNT counts the gap blocks that the chain takes; R124 does not say whether it counts
those or output blocks, as it does of ING_GAP_CNT. -/
def slotGap (d : Strand) (s k : Nat) : Strand :=
  let e := imgStream d.plan.active s
  let reason := match d.ing.opens.find? fun o => decide (o.stream = s) && decide (o.blk = k) with
    | some o => o.reason
    | none => 0x0C
  let b := gapBlock d e s k reason
  let d := snapWrite (d.bump (0x4310 + s / 256) (s % 256) 1) s k true b
  let fl := 4 * b2n d.inSafe + 8 * b2n d.tm.partition
  chainTake d d.plan.active s s k true fl []

/-- The accepted block that the slot of block `k` of a stream takes: `own` says that the ACTIVE plan expects `k` next.
A block of the former plan's numbering comes after the ones before it (R452). -/
def slotBlock (d : Strand) (own : Bool) (s k : Nat) : Option Staged :=
  d.ing.staged.find? fun x => decide (x.stream = s) && decide (x.blk = k) &&
    (if x.oldPlan && (!own || !(d.sameNumbers s)) then
        d.ing.staged.all fun y => !(decide (y.stream = s) && y.oldPlan && decide (y.blk < k))
      else own)

/-- The ingest slot of block `k` of a stream comes at I(k), and not before (R102, R107). -/
def ingestSlotOp (d : Strand) (s k : Nat) (memBad : Bool) : Strand :=
  let d := if memBad ∧ !(d.ing.memBad.contains s) then
      { d with ing := { d.ing with memBad := s :: d.ing.memBad } } else d
  let d := if memBad then d.raiseOnce 0x36 s else d
  let m := d.plan.active
  let own := decide (smGet zeroAt d.ing.next s = k + 1) && stValid (imgStream m s) && d.hasPlan
  let found := slotBlock d own s k
  let at_ := match found with
    | some x => x.slot
    | none => d.slotTime m s k
  if d.domain 3 ≠ 2 ∨ (time80 d.now : Int) < at_ then d
  else
    let d' := match found with
      | some x => slotAccepted d x
      | none => if own then slotGap d s k else d
    let mine := match found with
      | some x => own && (!x.oldPlan || d.sameNumbers s)
      | none => own
    if mine then
      let opens := d'.ing.opens.filter fun o => !(decide (o.stream = s) && decide (o.blk ≤ k))
      { d' with ing := { d'.ing with next := smSet zeroAt d'.ing.next s (k + 2), opens := opens } }
    else d'

/-! ### Integer delay (R119) and delay-line reads (R118, R121, R213) -/

/-- First delayed block whose nominal start is at or after a boundary. -/
def firstDelayed (e epoch : Nat) : Nat :=
  if epoch ≤ stOrigin e then 0
  else
    let num := if stRate e = 4 then stNum e * 2 ^ 24 else stNum e
    let den := stDen e * (if stRate e = 4 then max (stRsStep e) 1 else 2 ^ (stRate e))
    ceilDiv ((epoch - stOrigin e) * num) (1024 * 256 * max den 1)

/-- A new D takes effect at a boundary. DESIGN CHOICE (assumption log 76): ING_DLY_STEP_CNT counts here, and not when the
block that carries DLY_STEP is read; R119 and R124 do not say. -/
def delayApply (d : Strand) (s v epoch : Nat) : Strand :=
  let e := imgStream d.plan.active s
  if v = d.get (0x4200 + s / 256) (s % 256) then d
  else
    let b := if stValid e then firstDelayed e epoch else 0
    let l := (smGet (fun _ => []) d.ing.dly s).filter fun x => decide (x.1 < b + 1)
    let d := { d with ing := { d.ing with dly := smSet (fun _ => []) d.ing.dly s ((b + 1, v) :: l) } }
    (d.put (0x4200 + s / 256) (s % 256) v).bump 0x4000 0x07 1

/-- D of a delayed block: before every change that State holds, the default 0. -/
def delayOf (d : Strand) (s b : Nat) : Nat :=
  (((smGet (fun _ => []) d.ing.dly s).find? fun x => decide (x.1 ≤ b + 1)).map (·.2)).getD 0

/-- Delays in force from the first block on, without the changes that led to them: where a stream is numbered anew. -/
def keptDelays (t : SMap (List (Nat × Nat))) : SMap (List (Nat × Nat)) :=
  t.map fun x => (x.1, (x.2.head?.map fun y => [(0, y.2)]).getD [])

/-- A delayed block is the first one of a new D (R119). -/
def delaySteps (d : Strand) (s b : Nat) : Bool :=
  (smGet (fun _ => []) d.ing.dly s).any fun x => decide (x.1 = b + 1)

/-- Key of the chain whose delay line a read of stream `s` meets: under the former plan, that of its former chain. -/
def dlChain (d : Strand) (s : Nat) : Nat :=
  if imgGen d.plan.active ≠ d.get 0x6000 0x06 ∧ d.ing.oldSet.contains s then s + 4096 else s

/-- Metadata of a delay-line block; a block that the chain never wrote is non-data. -/
def dlFlags (d : Strand) (s b : Nat) : Nat :=
  let v := smGet zeroAt d.ing.dlMeta (dlKey (dlChain d s) b)
  if v = 0 then 1 else v % 256

/-- A delayed sample: its bytes, and its store offset where it is stored. -/
def delayedSample (d : Strand) (s e : Nat) (n : Int) : List Byte × Option Nat :=
  let w := outBytes (stOutFmt e)
  let i := n - delayOf d s (n / 256).toNat
  if n < 0 ∨ i < 0 then (zeros w, none)
  else
    let o := dlOffset e i.toNat
    (d.storeRead o w, some o)

/-- Metadata of block `b` of a delayed stream (R29, R119, R121): of the blocks of the chain's output that its samples
come from, with DLY_STEP in the first block of a new D, and INVALID where a sample stands in an uncorrectable word. -/
def delayedMd (d : Strand) (s e : Nat) (b : Int) : Nat :=
  if b < 0 then 1
  else
    let at_ := fun (i : Nat) => 256 * b + (i : Int) - delayOf d s b.toNat
    let flags := fun (i : Int) => if i < 0 then 1 else dlFlags d s (i / 256).toNat
    let ends := if at_ 0 < 0 ∧ 0 ≤ at_ 255 then [at_ 0, 0, at_ 255] else [at_ 0, at_ 255]
    let md := (mdAll (ends.map flags)).getD 0
    let bad := !d.store.ecc.isEmpty && (List.range 256).any fun i =>
      decide (0 ≤ at_ i) && d.storeBad (dlOffset e (at_ i).toNat) (outBytes (stOutFmt e))
    md ||| (if bad then 4 else 0) ||| (if delaySteps d s b.toNat then 128 else 0)

/-- Counts and raises an uncorrectable delay-line word at an offset (R121). -/
def dlBad (d : Strand) (s off n : Nat) : Strand := ((storeFound d off n).bump 0x4000 0x08 1).raiseOnce 0x35 s

/-- `count` delayed samples from `n`, in pieces by operand block of 256: of each piece its samples, its metadata and
its first sample; and the strand after findings. -/
def readDelayed (d : Strand) (s : Nat) (n : Int) (count : Nat) : List (List (List Byte) × Nat × Int) × Strand :=
  let e := imgStream d.plan.active s
  let l := (List.range count).map fun (i : Nat) => (n + (i : Int), delayedSample d s e (n + (i : Int)))
  let blocks := (l.map fun x => x.1 / 256).dedup
  let parts := blocks.map fun b =>
    let mine := l.filter fun x => decide (x.1 / 256 = b)
    (mine.map fun x => x.2.1, delayedMd d s e b, (mine.map (·.1)).headD n)
  let w := outBytes (stOutFmt e)
  match (l.filterMap fun x => x.2.2).find? fun o => d.storeBad o w with
  | some o => (parts, dlBad d s o w)
  | none => (parts, d)

end Sys2Proof.Machine
end

