-- ==== Sys2Proof/Machine/SnapOps.lean ====
section
/-! DEFINITION. Snap captures (R231, R232): starting one, and queuing its blocks. -/

namespace Sys2Proof.Machine

/-- The block of a stream whose nominal interval contains a time in u (R100, R231). -/
def blockAt (e tU : Nat) : Nat :=
  let x := (tU - stOrigin e * 2 ^ 32) * stNum e / (256 * max (stDen e) 1 * 2 ^ 42)
  if stTime e (x + 1) ≤ tU then x + 1 else x

/-- Block range of a stream in a capture: first and one past the last. -/
def captureRange (g : SnapGroup) (e tU : Nat) : Nat × Nat :=
  let k := blockAt e tU
  (k - g.pre, k + g.post + 1)

/-- Blocks of one stream that a new capture queues, after the captures in progress; and whether it overlaps. -/
def captureStream (m : SMap Byte) (g : SnapGroup) (prev : List Nat) (tU s : Nat) : List (Nat × Nat) × Bool :=
  let e := imgStream m s
  let r := captureRange g e tU
  let lap := prev.filter fun t =>
    let q := captureRange g e t
    decide (q.1 < r.2) && decide (r.1 < q.2)
  let from_ := lap.foldl (fun a t => max a (captureRange g e t).2) r.1
  ((List.range (r.2 - from_)).map fun i => (s, from_ + i), !lap.isEmpty)

/-- A capture with trigger time T_c of a group, of the ACTIVE or the former plan, starts, or is dropped behind four in
progress (R231). -/
def captureStart (d : Strand) (former : Bool) (group tU : Nat) : Strand :=
  let m := if former then d.plan.former else d.plan.active
  let g := imgSnap m group
  let mine := d.q.caps.filter fun c => decide (c.group = group) && decide (c.former = former)
  if 4 ≤ mine.length then (d.bump 0x6822 0x03 1).raise 0x5B g.queue
  else
    let parts := ((List.range g.count).map (g.first + ·)).map (captureStream m g (mine.map (·.tcU)) tU)
    let todo := parts.flatMap (·.1)
    let id := smGet zeroAt d.q.capCnt group
    let cap : Capture := { group, id, tcU := tU, continues := parts.any (·.2), todo, former }
    let caps := if todo.isEmpty then d.q.caps else d.q.caps ++ [cap]
    let d := { d with q := { d.q with caps := caps, capCnt := smSet zeroAt d.q.capCnt group ((id + 1) % 2 ^ 32) } }
    d.bump 0x6822 0x02 1

/-- A write of SNAP_CAPTURE: T_c is the time at which the write completes. -/
def snapCaptureOp (d : Strand) (v : Nat) : Strand :=
  if d.hasPlan ∧ v < snapCount d.plan.active then (captureStart d false v (toU d.now)).answer 0x00 else d.answer 0x02

/-- The SNAP header (R232). -/
def snapHeader (g : Pkg) (d : Strand) (grp : SnapGroup) (c : Capture) (gap bad : Bool) (pos : Int) : List Byte :=
  natToBytes 1 1 ++ natToBytes 1 (c.group % 16 + 16 * b2n gap + 32 * b2n bad + 64 * b2n c.continues) ++
    natToBytes 2 g.deviceId ++ natToBytes 1 d.id.num ++ zeros 3 ++ natToBytes 4 c.id ++ timeFields c.tcU ++
    natToBytes 2 (ofSigned 16 pos) ++ natToBytes 2 (grp.pre + grp.post + 1) ++ zeros 4

/-- A capture queues the next of its blocks, stream by stream, once the block's ingest slot has passed; a shed queue
takes nothing (R173). -/
def snapBlockOp (g : Pkg) (d : Strand) (group s k : Nat) : Strand :=
  if smGet zeroAt d.ing.next s ≤ k + 1 then d
  else match d.q.caps.find? fun c => decide (c.group = group) && decide (c.todo.head? = some (s, k)) with
  | none => d
  | some c =>
    let m := if c.former then d.plan.former else d.plan.active
    let grp := imgSnap m group
    let e := imgStream m s
    let n := 32 + blockBytes (stInFmt e)
    let o := snapSlotOff m grp s k
    let bad := d.storeBad o n
    let b := d.storeRead o n
    let gap := decide (smGet zeroAt d.ing.gapAt o ≠ 0)
    let c' := { c with todo := c.todo.erase (s, k) }
    let caps := (d.q.caps.map fun x => if x = c then c' else x).filter fun x => !x.todo.isEmpty
    let h := snapHeader g d grp c gap bad ((k : Int) - blockAt e c.tcU)
    let d := { d with q := { d.q with caps := caps } }
    let d := if bad then (storeFound d o n).raise 0x54 grp.queue else d
    let q := if c.former ∧ (d.q.qd.any fun x => decide (x.1 = grp.queue + 65536)) then grp.queue + 65536 else grp.queue
    if d.plan.shed.contains q then d else packetIn d q (h ++ b)

/-- A write of 1 to BSQ_CNT_CLEAR (R233): every counter of the braid, the store and the queues. -/
def bsqCntClearOp (d : Strand) : Strand :=
  let d := d.clearSubs 0x6800 [1, 2]
  let d := d.clearSubs 0x6810 [1, 2, 4, 5]
  (d.clearSubs 0x6820 [4]).clearSubs 0x6822 [2, 3]

end Sys2Proof.Machine
end

