-- ==== Sys2Proof/Machine/AgushTx.lean ====
section
/-! DEFINITION. Sending on lanes: the lane map, lane records, the Agush frame (R273), the order in which frames leave
(R278), bonds (R280) and the SUM frames of a braid transfer (R276). -/

namespace Sys2Proof.Machine

/-! ### Lane records -/

/-- Record of an external logical lane (its physical pair, R264) or an internal lane (R299). -/
def Strand.recOf (d : Strand) (l : Nat) : Nat := if l < 24 then d.get 0x3001 l else smGet selfAt d.lanes.imap l

/-- The dynamic state of a lane record. -/
def Strand.lane (d : Strand) (n : Nat) : LaneDyn := smGet (fun _ => ({} : LaneDyn)) d.lanes.lane n

/-- The strand with a lane record replaced. -/
def Strand.setLane (d : Strand) (n : Nat) (x : LaneDyn) : Strand :=
  { d with lanes := { d.lanes with lane := smSet (fun _ => ({} : LaneDyn)) d.lanes.lane n x } }

/-- LANE_STATE of a record: 0 OFF, 1 TRAINING, 2 UP, 3 IDLE, 4 TEST, 5 DOWN, 6 RETIRED (R269). -/
def Strand.laneState (d : Strand) (n : Nat) : Nat := d.get (0x3100 + n) 0x01

/-- Sets LANE_STATE. -/
def Strand.setLaneState (d : Strand) (n v : Nat) : Strand := d.put (0x3100 + n) 0x01 v

/-- A record that carries traffic: UP or IDLE. -/
def Strand.laneUp (d : Strand) (n : Nat) : Bool := decide (d.laneState n = 2) || decide (d.laneState n = 3)

/-- A bond is enabled. -/
def Strand.bondOn (d : Strand) (b : Nat) : Bool := d.getBit 0x3003 b 0

/-- Members of a bond. -/
def Strand.bondMembers (d : Strand) (b : Nat) : List Nat := (List.range 24).filter fun l => d.getBit 0x3003 b (l + 1)

/-- Members that carry traffic. -/
def Strand.bondUp (d : Strand) (b : Nat) : List Nat := (d.bondMembers b).filter fun l => d.laneUp (d.recOf l)

/-- Lane-map number of a lane record; 0x7F for a pair that carries no logical lane. -/
def Strand.laneNo (d : Strand) (n : Nat) : Nat :=
  if n < 26 then ((List.range 24).find? fun l => decide (d.get 0x3001 l = n)).getD 0x7F else d.endpointOf n

/-- Rate in units of 10 kb/s of a rate code; internal lanes run at 106.25 Gb/s (R299). -/
def rateOf (code : Nat) : Nat :=
  if code = 1 then 10625000 else if code = 2 then 5312500 else if code = 3 then 2578125
  else if code = 4 then 1031250 else 0

/-- RATE of an external logical lane. -/
def Strand.laneRate (d : Strand) (l : Nat) : Nat := d.getF 0x3000 l 0 3

/-- Rate code of a record's lane. -/
def recRate (d : Strand) (n : Nat) : Nat := if n < 26 then d.laneRate (d.laneNo n) else 1

/-- Codewords per second of a record's lane in fixed-latency mode (R281); 0 in the other mode. -/
def cwRate (d : Strand) (n : Nat) : Nat :=
  let l := d.laneNo n
  if n < 26 then
    (if d.getBit 0x3000 l 5 then (if d.laneRate l = 1 then 19531250 else 9765625) else 0)
  else 19531250

/-- Device and strand of PEER. -/
def peerOf (d : Strand) (n : Nat) : Nat := d.get (0x3100 + n) 0x0E % 2 ^ 18

/-- The swap of a lane. -/
def Strand.swapFor (d : Strand) (l : Nat) : Option SwapSt := d.lanes.swaps.find? fun x => decide (x.lane = l)

/-- A record that a swap may take: it is not RETIRED, has passed its last test and serves no other swap. -/
def spareFree (d : Strand) (n : Nat) : Bool :=
  decide (d.laneState n ≠ 6) && (d.lane n).testOk &&
    !(d.lanes.swaps.any fun x => decide (x.spare = n) || decide (x.old = n))

/-- Pairs that the map leaves, the lower first: what an external lane could take (R285). -/
def extSpares (d : Strand) : List Nat := (List.range 26).filter fun n => decide (d.laneNo n = 0x7F) && spareFree d n

/-- A spare is up, carries IDLE frames with SPARE = 1 and has the PEER of the lane (R285). -/
def spareSuits (d : Strand) (l n : Nat) : Bool :=
  decide (d.laneState n = 2) && (d.lane n).spareIdle && decide (peerOf d n = peerOf d (d.recOf l))

/-- A member is DOWN, under no swap, and no spare could take it over: the bond has lost it (R280). -/
def Strand.memberLost (d : Strand) (l : Nat) : Bool :=
  decide (d.laneState (d.recOf l) = 5) && (d.swapFor l).isNone && !((extSpares d).any (spareSuits d l))

/-- The bond has lost a member (R280). -/
def Strand.bondDegraded (d : Strand) (b : Nat) : Bool := d.bondOn b && (d.bondMembers b).any d.memberLost

/-- A lane, bond or internal lane can carry frames now. -/
def Strand.endUp (d : Strand) (n : Nat) : Bool :=
  if 0x40 ≤ n ∧ n < 0x50 then d.bondOn (n - 0x40) && !(d.bondUp (n - 0x40)).isEmpty
  else if n < 24 ∨ (0x20 ≤ n ∧ n < 0x40) then d.laneUp (d.recOf n)
  else false

/-- An internal lane or a lane in fixed-latency mode (R281, R299). -/
def Strand.fixedLat (d : Strand) (l : Nat) : Bool := decide (0x20 ≤ l) || d.getBit 0x3000 l 5

/-! ### Frames (R273) -/

/-- An Agush frame. -/
def agushFrame (type : Nat) (bonded fixed : Bool) (bseq : Nat) (body : List Byte) : List Byte :=
  let len := ceilDiv (12 + body.length) 4 * 4
  let h := natToBytes 1 (type + 16) ++ natToBytes 1 (b2n bonded + 2 * b2n fixed) ++ natToBytes 2 len ++
    natToBytes 2 bseq
  h ++ natToBytes 2 (crc16 h) ++ body ++ natToBytes 4 (crc32 body) ++ zeros (len - 12 - body.length)

/-- Leaves electrical idle with a training burst (R268). -/
def leaveIdle (d : Strand) (n : Nat) : Strand :=
  let x := d.lane n
  if x.txIdle then (d.setLane n { x with txIdle := false }).emit .laneSig (n + 256) [] else d

/-- The body as it leaves on a degraded bond: the INVALID flag of its format is set (R280). -/
def markInvalid (type : Nat) (body : List Byte) : List Byte :=
  if type = 5 then body.take 2 ++ [(body.getD 2 0#8) ||| 32#8] ++ body.drop 3
  else if type = 2 then body.take 6 ++ [(body.getD 6 0#8) ||| 4#8] ++ body.drop 7
  else if type = 1 then
    let h := body.take 3 ++ [(body.getD 3 0#8) ||| 4#8] ++ (body.take 28).drop 4
    h ++ natToBytes 4 (crc32 h) ++ body.drop 32
  else body

/-! ### Waiting and leaving (R278, R280)

A frame leaves at once where its lane is free, and waits behind the frame that is leaving where it is not. What has waited
leaves with the next thing that the lane is given: each lane sends a forced IDLE frame at least once in 1,024 codewords. -/

/-- Time that `len` bytes take on a record's lane, with the overhead of the codewords. -/
def serTime (d : Strand) (n len : Nat) : Nat :=
  let r := rateOf (recRate d n)
  if r = 0 then 0 else len * 8 * 17 * 2 ^ 48 / (160000 * r)

/-- Bytes of a frame with a body of `len` bytes. -/
def frameLen (len : Nat) : Nat := ceilDiv (12 + len) 4 * 4

/-- The codeword boundary at or after a time, where the time fixes the codewords (R281). -/
def cwBoundary (d : Strand) (n t : Nat) : Nat :=
  let c := cwRate d n
  if c = 0 then t else ceilDiv (t * c) (2 ^ 48) * 2 ^ 48 / c

/-- Address of a record's lane in what leaves. -/
def laneAddr (d : Strand) (n : Nat) : Nat := if d.laneNo n = 0x7F then 0x80 + n else d.laneNo n

/-- Fill words up to a codeword boundary (R273). -/
def fillTo (d : Strand) (n t b : Nat) : Strand :=
  let words := (b - t) * (160000 * rateOf (recRate d n)) / (8 * 17 * 2 ^ 48) / 4
  if words = 0 then d else d.emit .agush (laneAddr d n) (zeros (4 * words))

/-- A frame leaves at a time. A TIME frame leaves at a codeword boundary; SEQ and T_DEP are written as it leaves
(R278, R282), and its departure is kept for the peer's echo. -/
def departAt (d : Strand) (n : Nat) (x : TxWait) (t : Nat) : Strand :=
  let y := d.lane n
  let at_ := if x.type = 4 then cwBoundary d n t else t
  let body := if x.type = 4 then natToBytes 2 y.txSeq ++ natToBytes 10 (time80 at_) ++ x.body.drop 12 else x.body
  let done := at_ + serTime d n (frameLen body.length)
  let y := { y with busy := done, lastTx := if x.type = 0 then y.lastTx else done }
  let y := if x.type = 4 then
    { y with txSeq := (y.txSeq + 1) % 65536,
             txDeps := (y.txSeq, at_) :: y.txDeps.filter fun p => decide (at_ ≤ p.2 + msTime 64) } else y
  let d := if x.type = 4 then fillTo d n t at_ else d
  (d.setLane n y).emit .agush (laneAddr d n) (agushFrame x.type x.bonded (decide (cwRate d n ≠ 0)) x.bseq body)

/-- The frame of the first class that waits, the one that has waited longest. -/
def nextWait (l : List TxWait) : Option TxWait :=
  l.find? fun x => l.all fun y => decide (x.cls ≤ y.cls)

/-- Frames that waited leave one after the other, as far as the time has come. -/
def drainLane (n : Nat) : Nat → Strand → Strand
  | 0, d => d
  | fuel + 1, d =>
    let y := d.lane n
    match nextWait y.wait with
    | none => d
    | some x =>
      if y.busy ≤ d.now then drainLane n fuel (departAt (d.setLane n { y with wait := y.wait.erase x }) n x y.busy) else d

/-- A frame is handed to a record: it leaves at once, or waits in its class. -/
def transmit (d : Strand) (n : Nat) (x : TxWait) : Strand :=
  let d := drainLane n (d.lane n).wait.length d
  let y := d.lane n
  if y.wait.isEmpty && decide (y.busy ≤ d.now) then departAt d n x d.now
  else d.setLane n { y with wait := y.wait ++ [x] }

/-- The time at which a record's lane is free for one more frame. -/
def freeAt (d : Strand) (n : Nat) : Nat :=
  (d.lane n).wait.foldl (fun t x => t + serTime d n (frameLen x.body.length)) (max d.now (d.lane n).busy)

/-- The member of a bond whose next free position comes first, the lowest on a tie (R280). -/
def bondPick (d : Strand) (b : Nat) : Option Nat :=
  (d.bondUp b).find? fun l => (d.bondUp b).all fun k => decide (freeAt d (d.recOf l) ≤ freeAt d (d.recOf k))

/-- Class of a TYPE. -/
def txClass (type : Nat) : Nat :=
  if type = 3 then 1 else if type = 4 then 2 else if type = 2 then 3 else if type = 0 then 0 else 4

/-- Sends a frame on a lane-map number; a lane that does not carry traffic sends nothing. -/
def sendFrame (d : Strand) (n type : Nat) (body : List Byte) : Strand :=
  if 0x40 ≤ n ∧ n < 0x50 then
    let b := n - 0x40
    match bondPick d b with
    | none => d
    | some l =>
      if !(d.bondOn b) then d
      else
        let s := smGet (fun _ => ({} : BondSt)) d.lanes.bonds b
        let bonded := decide (type = 1) || decide (type = 2) || decide (type = 5)
        let body := if d.bondDegraded b then markInvalid type body else body
        let s' := if bonded then { s with nextTx := (s.nextTx + 1) % 65536 } else s
        let d := { d with lanes := { d.lanes with bonds := smSet (fun _ => ({} : BondSt)) d.lanes.bonds b s' } }
        transmit (leaveIdle d (d.recOf l)) (d.recOf l) ⟨txClass type, type, bonded, if bonded then s.nextTx else 0, body⟩
  else if d.endUp n then transmit (leaveIdle d (d.recOf n)) (d.recOf n) ⟨txClass type, type, false, 0, body⟩
  else d

/-- The SUM header (R276). -/
def sumHeader (ctx nbeam count chan md samp : Nat) : List Byte :=
  natToBytes 2 ctx ++ natToBytes 1 nbeam ++ natToBytes 1 count ++ natToBytes 2 chan ++ natToBytes 1 md ++ zeros 1 ++
    natToBytes 8 samp

/-- A running-value record on its way to a lane: metadata, channel, channel sample, and its 16 bytes. -/
structure SumOut where
  md    : Nat
  chan  : Nat
  samp  : Int
  bytes : List Byte
  deriving DecidableEq, Repr

/-- The records of a word: 16 bytes each, with the metadata and the identity of the piece they stand in. -/
def wordRecords (w : Word32) : List (Nat × Option Prov × List Byte) :=
  (w.parts.foldl (fun (x : List (Nat × Option Prov × List Byte) × List Byte) p =>
    (x.1 ++ (chunksOf 16 3 (x.2.take p.len)).map fun b => (p.md, p.prov, b), x.2.drop p.len)) ([], w.bytes)).1

/-- The records of a transfer; one that nothing names goes on from the records before it. -/
def namedRecords (nbeam : Nat) (p0 : Prov) (i0 : Nat) (l : List (Nat × Option Prov × List Byte)) : List SumOut :=
  l.zipIdx.map fun r =>
    let p := r.1.2.1.getD { p0 with samp := p0.samp + (r.2 / max nbeam 1 : Nat) - (i0 / max nbeam 1 : Nat) }
    ⟨r.1.1, p.chan, p.samp, r.1.2.2⟩

/-- Words of a BP step leave on a lane port in SUM frames (R276): a frame ends where COUNT reaches 64, where META or
CHANNEL changes, and with the slot entry. -/
def sendRecords (d : Strand) (n l : Nat) (ws : List Word32) : Strand :=
  let m := d.planOf l
  let recs := ws.flatMap wordRecords
  match recs.zipIdx.findSome? fun r => r.1.2.1.map fun p => (p, r.2) with
  | none => d
  | some (p0, i0) =>
    let step := bits (imgContext m p0.ctx) 24 5
    let nbeam := bits ((d.cell (d.physOf l)).pmNat (64 * ((d.cell (d.physOf l)).stepAt step).pbUnit) 64) 32 8
    let ctx := ((beamContext m l step 0).map fun c => bits (imgContext m c) 136 12).getD 0
    let same := fun (a b : SumOut) => decide (a.md = b.md) && decide (a.chan = b.chan)
    (((namedRecords nbeam p0 i0 recs).splitBy same).flatMap fun g => chunksOf 64 (g.length + 1) g).foldl (fun d g =>
      match g with
      | [] => d
      | r :: _ => sendFrame d n 2 (sumHeader ctx nbeam g.length r.chan r.md (ofSigned 64 r.samp) ++ g.flatMap (·.bytes))) d

end Sys2Proof.Machine
end

