-- ==== Sys2Proof/Machine/TriggerOps.lean ====
section
/-! DEFINITION. The trigger fabric (R235 to R260): detectors, the external inputs, coincidence units, actions,
TRIG messages and remote events, the hitch. -/

namespace Sys2Proof.Machine

/-! ### Ticks (R235) -/

/-- The tick of a time in 2^-42 s. -/
def tickOfU (u : Nat) : Nat := u * 500000000 / 2 ^ 42

/-- The present tick. -/
def Strand.tick (d : Strand) : Nat := tickOfU (toU d.now)

/-- Start of a tick in 2^-42 s, rounded up (R255). -/
def tickStartU (t : Nat) : Nat := ceilDiv (t * 2 ^ 42) 500000000

/-- Start of a tick as TIME80. -/
def tickTime80 (t : Nat) : Nat := t * 2 ^ 32 / 500000000 % 2 ^ 80

/-- Start of a tick in 2^-48 s, rounded up. -/
def tickStart (t : Nat) : Nat := ceilDiv (t * 2 ^ 48) 500000000

/-! ### Units (R250) -/

/-- The units of a plan: none of the ACTIVE one, else its place among the plans before it. -/
def Strand.unit (d : Strand) (o : Option Nat) (u : Nat) : UnitSt :=
  smGet (fun _ => ({} : UnitSt)) (match o with
    | none => d.trig.units
    | some i => (d.trig.olds.getD i ⟨[], [], 0⟩).units) u

/-- The strand with a unit replaced. -/
def Strand.setUnit (d : Strand) (o : Option Nat) (u : Nat) (x : UnitSt) : Strand :=
  let put := fun (m : SMap UnitSt) => smSet (fun _ => ({} : UnitSt)) m u x
  match o with
  | none => { d with trig := { d.trig with units := put d.trig.units } }
  | some i => { d with trig := { d.trig with olds := d.trig.olds.modify i fun y => { y with units := put y.units } } }

/-- Image of the plan that holds the units. -/
def Strand.unitImg (d : Strand) (o : Option Nat) : SMap Byte :=
  match o with
  | none => d.plan.active
  | some i => (d.trig.olds.getD i ⟨[], [], 0⟩).img

/-- The units that decide an event tick. -/
def Strand.unitsAt (d : Strand) (t : Int) : Option Nat := d.trig.olds.findIdx? fun y => decide (t < (y.till : Int))

/-- Every plan whose units may still decide. -/
def Strand.unitSides (d : Strand) : List (Option Nat) := none :: (List.range d.trig.olds.length).map some

/-- An event reaches a unit at tick `now`: late, or waiting for the horizon (R247). -/
def unitTake (d : Strand) (o : Option Nat) (m : SMap Byte) (u now : Nat) (ev : UnitEv) : Strand :=
  let x := d.unit o u
  if ev.tick + unitSettle (imgUnit m u) < (now : Int) then
    ((d.setUnit o u { x with late := true }).bump 0x7800 0x04 1).raise 0x63 u
  else d.setUnit o u { x with evs := x.evs ++ [ev] }

/-- Source-list entries of a unit that name a source: list index and OFFSET. -/
def unitListed (m : SMap Byte) (w type idx : Nat) : List (Nat × Int) :=
  (List.range (unitN w)).filterMap fun j =>
    let s := imgSource m (unitSrcFirst w + j)
    if bits s 0 2 = type ∧ bits s 2 10 = idx then some (j, toSigned 16 (bits s 16 16)) else none

/-- A source event goes, at tick `now`, to every enabled unit of a plan that lists the source and decides its tick. -/
def feedUnits (o : Option Nat) (type idx tick now : Nat) (part : Bool) (d : Strand) : Strand :=
  let m := d.unitImg o
  (List.range 64).foldl (fun d u =>
    let w := imgUnit m u
    if bit w 0 then
      (unitListed m w type idx).foldl (fun d p =>
        let t : Int := (tick : Int) + p.2
        if d.unitsAt t = o then unitTake d o m u now ⟨t, p.1, part⟩ else d) d
    else d) d

/-- An event comes to the event queue, which hands on 16 in a tick: the tick at which it reaches the units, or none
where the 2,048 entries are full (R249). DESIGN CHOICE: an event that finds the queue full is lost, which no checked
plan lets happen (assumption log 84). -/
def eventIn (d : Strand) : Option Nat × Strand :=
  let n := max d.trig.evFree (16 * d.tick)
  if 16 * d.tick + 2048 ≤ n then (none, d)
  else (some (n / 16), { d with trig := { d.trig with evFree := n + 1 } })

/-- A source event (R236): counted and fed to the units of every plan; `src` gives its number in a plan's tables. -/
def sourceEvent (d : Strand) (type tick : Nat) (src : SMap Byte → Option Nat) (part : Bool) : Strand :=
  let x := eventIn d
  match x.1 with
  | none => d
  | some now => d.unitSides.foldl (fun d o =>
      match src (d.unitImg o) with
      | some i => feedUnits o type i tick now part d
      | none => d) (x.2.bump 0x7800 0x01 1)

/-! ### Detectors (R237) -/

/-- The trigger domain is on. -/
def Strand.trigOn (d : Strand) : Bool := decide (d.domain 0x0E = 2)

/-- A crossing reaches its detector, under the plan whose units decide its tick. -/
def detectorOp (d : Strand) (det tick md bf : Nat) : Strand :=
  let e := imgDetector (d.unitImg (d.unitsAt tick)) det
  let last := smGet zeroAt d.trig.detLast det
  if !d.trigOn || !(bit e 0) then d
  else if bit md 2 || bit bf 2 || bit bf 3 then d.bump 0x7800 0x06 1
  else if last = tick + 1 then d
  else if last ≠ 0 ∧ tick + 1 < last + bits e 16 16 then
    { d with trig := { d.trig with detDrops := smSet zeroAt d.trig.detDrops det (smGet zeroAt d.trig.detDrops det + 1) } }
  else
    let d := { d with trig := { d.trig with detLast := smSet zeroAt d.trig.detLast det (tick + 1) } }
    sourceEvent d 0 tick (fun _ => some det) (bit md 3)

/-- Crossing `n` of those that a beam block of a cell's DT step has found and that have still to leave. -/
def Cell.crossing (c : Cell) (rep blk n : Nat) : Option Crossing :=
  (c.events.filter fun x => decide (x.rep = rep) && decide (x.blk = blk))[n]?

/-- DETECTOR_EVENT: a crossing of a beam block leaves for its detector (R451), with the tick of its sample's nominal
time. DEDUCED: where the spec's data does not tell that time, it is the strand's (assumption log 84). -/
def crossingOp (d : Strand) (p rep blk n : Nat) : Strand :=
  let c := d.cell p
  match c.crossing rep blk n with
  | none => d
  | some x =>
    let u := (x.prov.bind (provTime (d.planOf (d.logicalOf p)))).getD (toU d.now)
    detectorOp (d.setCell p { c with events := c.events.erase x }) x.det (tickOfU u) x.md x.flags

/-! ### Inputs (R242 to R245) -/

/-- An input's state. -/
def Strand.tin (d : Strand) (n : Nat) : PinSt := smGet (fun _ => ({} : PinSt)) d.trig.pins n

/-- The strand with an input replaced. -/
def Strand.setTin (d : Strand) (n : Nat) (x : PinSt) : Strand :=
  { d with trig := { d.trig with pins := smSet (fun _ => ({} : PinSt)) d.trig.pins n x } }

/-- MIN_WIDTH_TICKS of a TIN_CFG value. -/
def tinWidth (cfg : Nat) : Nat := bits cfg 8 8
/-- MIN_INTERVAL_TICKS. -/
def tinInterval (cfg : Nat) : Nat := bits cfg 16 16

/-- The input is masked. -/
def Strand.tinMasked (d : Strand) (n : Nat) : Bool := d.getBit 0x7804 n 0

/-- Whether a level is active on an input: TRIG_IN with P above N, or with POL the other way; VETO_N low. -/
def tinActive (d : Strand) (n : Nat) (high : Bool) : Bool :=
  if n = 4 then !high else high != d.getBit 0x7802 n 1

/-- An active sample begins a pulse; one that begins while the input is masked gives nothing. -/
def trigInEdgeOp (d : Strand) (n : Nat) (high : Bool) : Strand :=
  let x := d.tin n
  if 5 ≤ n ∨ !d.trigOn ∨ !(d.getBit 0x7802 n 0) ∨ x.start.isSome ∨ !(tinActive d n high) then d
  else d.setTin n { x with start := some d.tick, cfg := d.get 0x7802 n, stuck := d.get 0x7803 n, done := d.tinMasked n }

/-- The veto interval of a pulse that ends before a tick. -/
def pulseVeto (s cfg tick : Nat) : Veto := ⟨s, s + tinWidth cfg + 3, tick - 1⟩

/-- A pulse ends with an inactive sample: a glitch, a veto interval, or an event still to deliver. A masked VETO_N has
none (R243). -/
def trigInEndOp (d : Strand) (n : Nat) (high : Bool) : Strand :=
  let x := d.tin n
  match x.start with
  | none => d
  | some s =>
    let x' := { x with start := none, lastEnd := d.tick }
    if tinActive d n high then d
    else if d.tick < s + tinWidth x.cfg then
      if n = 4 ∧ x.done then d.setTin n x' else ((d.setTin n x').bump 0x7808 n 1).raiseOnce 0x60 (0x100 + n)
    else if x.done then d.setTin n x'
    else if n = 4 then (d.setTin n { x' with vetos := pulseVeto s x.cfg d.tick :: x.vetos }).bump 0x7806 n 1
    else d.setTin n { x' with deliver := x.deliver ++ [(s, x.cfg)] }

/-- A qualified TRIG_IN pulse with edge `s` is an event or is merged; a masked input delivers none. -/
def tinEvent (d : Strand) (n s cfg : Nat) : Strand :=
  let x := d.tin n
  if d.tinMasked n then d
  else
    let near := match x.lastEv with | some e => decide (s < e + tinInterval cfg) | none => false
    if near then (d.bump 0x7807 n 1).raiseOnce 0x61 (0x100 + n)
    else sourceEvent ((d.setTin n { x with lastEv := some s }).bump 0x7806 n 1) 1 s (fun _ => some n) false

/-- Delivery of the oldest qualified pulse, MIN_WIDTH_TICKS plus 3 ticks after its leading edge. -/
def trigInDeliverOp (d : Strand) (n : Nat) : Strand :=
  let x := d.tin n
  if 4 ≤ n then d
  else match x.deliver with
    | (s, cfg) :: r =>
      if s + tinWidth cfg + 3 ≤ d.tick then tinEvent (d.setTin n { x with deliver := r }) n s cfg else d
    | [] => match x.start with
      | none => d
      | some s =>
        if !x.done ∧ s + tinWidth x.cfg + 3 ≤ d.tick then tinEvent (d.setTin n { x with done := true }) n s x.cfg
        else d

/-- An input stays active for STUCK_TIME_US: masked (R243). -/
def trigInStuckOp (d : Strand) (n : Nat) : Strand :=
  let x := d.tin n
  match x.start with
  | none => d
  | some s =>
    if d.tinMasked n ∨ d.tick * 2 < s * 2 + x.stuck * 1000 then d
    else
      let x := { x with done := true, maskAt := some d.tick, unmask := false,
                        vetos := if n = 4 then pulseVeto s x.cfg d.tick :: x.vetos else x.vetos }
      ((d.setTin n x).putBit 0x7804 n 0 true).raiseOnce 0x62 (0x100 + n)

/-- Whether a masked VETO_N counts as active. -/
def stuckVeto (d : Strand) (n : Nat) : Bool := decide (n = 4) && d.getBit 0x7802 4 3

/-- The veto intervals of an input, with that of a mask which has counted as active until now. -/
def maskVetos (d : Strand) (n : Nat) : List Veto :=
  let x := d.tin n
  match x.maskAt with
  | some m => if stuckVeto d n ∧ m < d.tick then ⟨m, m, d.tick - 1⟩ :: x.vetos else x.vetos
  | none => x.vetos

/-- Clears a mask; a masked veto that counted as active ends its interval. -/
def clearMask (d : Strand) (n : Nat) : Strand :=
  (d.setTin n { d.tin n with maskAt := none, unmask := false, lastEv := none,
                             vetos := maskVetos d n }).putBit 0x7804 n 0 false

/-- A write of 1 to TIN_UNMASK (R244). -/
def tinUnmaskOp (d : Strand) (n : Nat) : Strand :=
  if d.tinMasked n then d.setTin n { d.tin n with unmask := true } else d

/-- The input has been inactive for MIN_INTERVAL_TICKS samples, the present one among them. -/
def inputUnmaskOp (d : Strand) (n : Nat) : Strand :=
  let x := d.tin n
  if d.tinMasked n ∧ (x.unmask ∨ d.getBit 0x7802 n 2) ∧ x.start.isNone ∧
      x.lastEnd + tinInterval (d.get 0x7802 n) ≤ d.tick + 1 then clearMask d n
  else d

/-- Disabling an input at a boundary ends its pulse and any veto interval, and clears its mask (R245). DEDUCED: a
pulse that is qualified by then still gives its event (assumption log 84). -/
def tinDisable (d : Strand) (n : Nat) : Strand :=
  let x := d.tin n
  let x := match x.start with
    | some s =>
      let x' := { x with start := none, lastEnd := d.tick }
      if d.tick < s + tinWidth x.cfg ∨ x.done then x'
      else if n = 4 then { x' with vetos := pulseVeto s x.cfg d.tick :: x.vetos }
      else { x' with deliver := x.deliver ++ [(s, x.cfg)] }
    | none => x
  clearMask (d.setTin n x) n

/-- A new TIN_CFG at a boundary (R245): a masked veto counts under the new STUCK_VETO from now on. -/
def tinCfgApply (d : Strand) (n v : Nat) : Strand :=
  let d := if bit v 0 then
      d.setTin n { d.tin n with vetos := maskVetos d n, maskAt := (d.tin n).maskAt.map fun _ => d.tick }
    else tinDisable d n
  d.put 0x7802 n v

/-- A veto interval covers a tick of [lo, hi] (R243, R246). -/
def vetoCovers (d : Strand) (lo hi : Int) : Bool :=
  let x := d.tin 4
  let past := x.vetos.any fun v => decide ((v.lo : Int) ≤ hi) && decide (lo ≤ (v.hi : Int))
  let now := match x.start with
    | some s => !x.done && decide (s + tinWidth x.cfg ≤ d.tick) && decide ((s : Int) ≤ hi)
    | none => false
  let masked := d.tinMasked 4 && stuckVeto d 4 &&
    (match x.maskAt with | some m => decide ((m : Int) ≤ hi) | none => false)
  past || now || masked

/-- At a tick a veto interval was open and had been qualified (R251). -/
def vetoOpen (d : Strand) (t : Nat) : Bool :=
  let x := d.tin 4
  let past := x.vetos.any fun v => decide (v.from_ ≤ t) && decide (t ≤ v.hi)
  let now := match x.start with
    | some s => !x.done && decide (s + tinWidth x.cfg + 3 ≤ t)
    | none => false
  past || now || (d.tinMasked 4 && stuckVeto d 4 && (match x.maskAt with | some m => decide (m ≤ t) | none => false))

/-! ### TRIG_OUT (R239, R251) -/

/-- State of an output. -/
def Strand.tout (d : Strand) (n : Nat) : ToutSt := smGet (fun _ => ({} : ToutSt)) d.trig.touts n

/-- The strand with an output replaced. -/
def Strand.setTout (d : Strand) (n : Nat) (x : ToutSt) : Strand :=
  { d with trig := { d.trig with touts := smSet (fun _ => ({} : ToutSt)) d.trig.touts n x } }

/-- The pin takes the level of an output: P above N while asserted, or with POL the other way. -/
def toutPin (d : Strand) (n : Nat) : Strand := d.pin n ((d.tout n).high != d.getBit 0x7801 n 3)

/-- Ends the pulse of an output. -/
def toutEnd (d : Strand) (n : Nat) : Strand :=
  if (d.tout n).high then toutPin (d.setTout n { d.tout n with high := false, fin := 0 }) n else d

/-- An assertion at a time: a leading edge, or the pulse's length restarts; none in SAFE. -/
def assertOut (d : Strand) (n t : Nat) : Strand :=
  if d.inSafe ∨ !d.trigOn then d
  else
    let fin := t + nsTime (d.getF 0x7801 n 16 16)
    let d := if (d.tout n).fin ≤ t then toutEnd d n else d
    let x := d.tout n
    let d' := d.setTout n { x with high := true, fin := fin }
    if x.high then d' else toutPin (d'.bump 0x7809 n 1) n

/-- A hitch assertion at a time, gated by SOURCE and HITCH_VETO (R251). -/
def hitchAssert (n : Nat) (d : Strand) (t : Nat) : Strand :=
  let c := d.get 0x7801 n
  if bit c 0 ∧ !(bit c 2 && vetoOpen d (tickOfU (toU t))) then assertOut d n t else d

/-- The hitch assertions of an output whose time has come take effect, in turn. -/
def toutSettle (d : Strand) (n : Nat) : Strand :=
  let due := (d.tout n).due.filter fun t => decide (t ≤ d.now)
  if due.isEmpty then d
  else
    let d := d.setTout n { d.tout n with due := (d.tout n).due.filter fun t => decide (d.now < t) }
    due.foldl (hitchAssert n) d

/-- The same for every output. -/
def toutsSettle (d : Strand) : Strand := (List.range 4).foldl toutSettle d

/-- The end of a pulse. -/
def pulseEndOp (d : Strand) (n : Nat) : Strand :=
  if 4 ≤ n then d
  else
    let d := toutSettle d n
    if (d.tout n).fin ≤ d.now then toutEnd d n else d

/-- Puts a time in order. -/
def insertNat (t : Nat) : List Nat → List Nat
  | [] => [t]
  | x :: r => if t ≤ x then t :: x :: r else x :: insertNat t r

/-- THR bits that a step asserts `cycle` CCLK cycles after its start reach the hitch (R239, R451). -/
def hitchPulse (d : Strand) (cycle thr : Nat) : Strand :=
  let t := d.now + ceilDiv (cycle * 2 ^ 48) (max d.cclkMhz 1 * 1000000)
  (List.range 4).foldl (fun d n =>
    if bit thr n then d.setTout n { d.tout n with due := insertNat t (d.tout n).due } else d) d

/-- A new TOUT_CFG at a boundary; the pin follows POL. -/
def toutCfgApply (d : Strand) (n v : Nat) : Strand :=
  let d := toutSettle d n
  let same := decide (bit v 3 = d.getBit 0x7801 n 3)
  let d := d.put 0x7801 n v
  if same then d else toutPin d n

/-- Deasserts every output (R250), with the hitch assertions to come. -/
def outputsOff (d : Strand) : Strand :=
  (List.range 4).foldl (fun d n => toutEnd (d.setTout n { d.tout n with due := [] }) n) (toutsSettle d)

/-- HITCH_TRIM (R241): `measured` is the hitch delay of the replica under the present trim, in ps. A sage in reset
trims nothing (R353). -/
def hitchTrimOp (d : Strand) (measured : Nat) : Strand :=
  if d.sageUp = false then d else
  let d := toutsSettle d
  let trim := d.get 0x780A 0x01
  let step := clampI (-10) 10 (3800 - (measured : Int))
  let new := clampI 800 2400 ((trim : Int) + step)
  let busy := (List.range 4).any fun n => (d.tout n).high
  let total := if busy then (measured : Int) else (measured : Int) + (new - trim)
  let d := if busy then d else d.put 0x780A 0x01 new.toNat
  if decide (total < 3600) || decide (4000 < total) then d.raiseAny 0x65 else d

/-! ### Coincidence (R246 to R255) -/

/-- Smallest and largest tick of events. -/
def tickRange (l : List UnitEv) : Int × Int :=
  match l with
  | [] => (0, 0)
  | e :: r => r.foldl (fun a x => (min a.1 x.tick, max a.2 x.tick)) (e.tick, e.tick)

/-- The earliest event, the lowest source index among equals. -/
def earliest (l : List UnitEv) : Nat :=
  match l with
  | [] => 0
  | e :: r => (r.foldl (fun (a : UnitEv) x =>
      if x.tick < a.tick ∨ (x.tick = a.tick ∧ x.src < a.src) then x else a) e).src

/-- A TRIG message (R255). -/
def trigMessage (g : Pkg) (d : Strand) (u : Nat) (tauF : Nat) (got : List UnitEv) (late : Bool) (seq gen : Nat) :
    List Byte :=
  let r := tickRange got
  let part := (got.any (·.part)) || d.tm.partition
  let hold := decide (d.get 0x2000 0x01 = 3)
  natToBytes 1 1 ++ natToBytes 1 (b2n part + 2 * b2n hold + 4 * b2n late) ++ natToBytes 2 g.deviceId ++
    natToBytes 1 (d.id.num + 4 * u) ++ natToBytes 1 (got.length - 1) ++ natToBytes 1 (earliest got) ++ zeros 1 ++
    timeFields (tickStartU tauF) ++ natToBytes 4 seq ++ natToBytes 2 (r.2 - r.1).toNat ++ zeros 2 ++ natToBytes 4 gen

/-- The queue of a plan's units: a queue that a commit has changed goes on under its former entry (R177). None under a
plan whose queues are gone. -/
def unitQueue (d : Strand) (o : Option Nat) (q : Nat) : Option Nat :=
  match o with
  | none => some q
  | some i =>
    if i + 1 < d.trig.olds.length then none
    else some (if d.q.qd.any fun x => decide (x.1 = 65536 + q) then 65536 + q else q)

/-- Sends a message (R254); where the unit has read a bad table word, its packet is INVALID (R261). -/
def sendMessage (d : Strand) (o : Option Nat) (u w : Nat) (msg : List Byte) : Strand :=
  let d := if bits w 200 7 = 0x7F then d else sendFrame d (bits w 200 7) 3 msg
  let d := if bits w 208 7 = 0x7F then d else sendFrame d (bits w 208 7) 3 msg
  match unitQueue d o (bits w 184 14) with
  | some q => packetIn d q msg (d.trig.bad.contains u)
  | none => d

/-- One more than the tick at which RAISED clears: that of the last firing, the later of two in one tick (R253). -/
def raiseUntil (old : Nat × Nat) (firing fin : Nat) : Nat × Nat :=
  if firing < old.1 then old else if firing = old.1 then (firing, max old.2 fin) else (firing, fin)

/-- Sets RAISED on a unit's queues until RAISE_TICKS after this firing (R253). -/
def raiseQueues (d : Strand) (o : Option Nat) (m : SMap Byte) (w : Nat) (firing : Nat) : Strand :=
  let zero := fun _ => (0, 0)
  (List.range (bits w 226 6)).foldl (fun d i =>
    match unitQueue d o (imgRaise m (bits w 216 10 + i)) with
    | none => d
    | some q =>
      let d := d.setQueue q { d.queue q with raised := true }
      { d with trig := { d.trig with raised := smSet zero d.trig.raised q
                                                 (raiseUntil (smGet zero d.trig.raised q) firing (firing + bits w 232 24 + 1)) } }) d

/-- Captures of a unit's snap groups; a plan whose queues are gone has none (R252). -/
def unitSnaps (d : Strand) (o : Option Nat) (w tauF : Nat) : Strand :=
  match o with
  | some i => if i + 1 < d.trig.olds.length then d else
      (List.range 16).foldl (fun d k => if bit (bits w 164 16) k then captureStart d true k (tickStartU tauF) else d) d
  | none => (List.range 16).foldl (fun d k => if bit (bits w 164 16) k then captureStart d false k (tickStartU tauF)
      else d) d

/-- A firing at tick `tauF` (R248). -/
def fire (g : Pkg) (d : Strand) (o : Option Nat) (m : SMap Byte) (u tauF : Nat) (got : List UnitEv) : Strand :=
  let w := imgUnit m u
  let firing := tauF + unitSettle w
  let x := d.unit o u
  let seq := (x.fireSeq + 1) % 2 ^ 32
  let d := ((d.bump 0x7800 0x02 1).bump (0x7840 + u) 0x01 1).put (0x7840 + u) 0x02 (tickTime80 tauF)
  let mask := bits w 160 4
  let asserts := if mask = 0 then x.asserts else x.asserts ++ [(tickStart firing + nsTime 12, mask)]
  let d := d.setUnit o u { x with fireSeq := seq, asserts := asserts, late := if bit w 180 then false else x.late }
  let d := raiseQueues (unitSnaps d o w tauF) o m w firing
  if bit w 180 then sendMessage d o u w (trigMessage g d u tauF got x.late seq (d.get 0x6000 0x06)) else d

/-- One event taken by a unit (R246). -/
def unitEvent (g : Pkg) (o : Option Nat) (m : SMap Byte) (u : Nat) (d : Strand) (ev : UnitEv) : Strand :=
  let w := imgUnit m u
  let x := d.unit o u
  let dead := match x.dead with | some t => decide (ev.tick ≤ t) | none => false
  if dead then d.bump 0x7800 0x05 1
  else
    let last := ev :: x.last.filter fun l => decide (l.src ≠ ev.src)
    let got := last.filter fun l => decide (ev.tick - unitWin w ≤ l.tick)
    if got.length < unitK w then d.setUnit o u { x with last := last }
    else
      let d := d.setUnit o u { x with last := [], dead := some (ev.tick + unitDead w) }
      if d.inSafe then d
      else if bit w 1 && vetoCovers d (ev.tick - bits w 80 16) (ev.tick + bits w 96 16) then
        (d.bump 0x7800 0x03 1).bump (0x7840 + u) 0x03 1
      else fire g d o m u ev.tick.toNat got

/-- Inserts an event in the order in which a unit takes events: by tick, then by source index. -/
def insertEv (e : UnitEv) : List UnitEv → List UnitEv
  | [] => [e]
  | x :: r => if e.tick < x.tick ∨ (e.tick = x.tick ∧ e.src < x.src) then e :: x :: r else x :: insertEv e r

/-- Takes every event up to a horizon. -/
def takeUpTo (g : Pkg) (d : Strand) (o : Option Nat) (m : SMap Byte) (u : Nat) (h : Int) : Strand :=
  let x := d.unit o u
  let due := (x.evs.filter fun e => decide (e.tick ≤ h)).foldl (fun l e => insertEv e l) []
  let d := d.setUnit o u { x with evs := x.evs.filter fun e => decide (h < e.tick) }
  due.foldl (unitEvent g o m u) d

/-- The horizon of a unit advances to the present tick less SETTLE_TICKS, under each plan; its events all lie below
the tick at which the unit leaves that plan (R250). -/
def horizonOp (g : Pkg) (d : Strand) (u : Nat) : Strand :=
  if !d.trigOn ∨ 64 ≤ u then d
  else (d.unitSides.drop 1 ++ [none]).foldl (fun d o =>
    let m := d.unitImg o
    takeUpTo g d o m u ((d.tick : Int) - unitSettle (imgUnit m u))) d

/-- Pins of a mask that take action assertions: SOURCE ACTION or BOTH. -/
def assertMask (d : Strand) (mask t : Nat) : Strand :=
  (List.range 4).foldl (fun d n => if bit mask n ∧ bit (d.get 0x7801 n) 1 then assertOut d n t else d) d

/-- The assertion 12 ns after a firing tick (R251), of the plan that the firing belongs to. -/
def actionAssertOp (d : Strand) (u : Nat) : Strand :=
  (d.unitSides.drop 1 ++ [none]).foldl (fun d o =>
    let x := d.unit o u
    match x.asserts with
    | (t, mask) :: r => if t ≤ d.now then assertMask (d.setUnit o u { x with asserts := r }) mask t else d
    | [] => d) (toutsSettle d)

/-- RAISED of one descriptor clears RAISE_TICKS after the last firing that raised it. -/
def raiseExpire (d : Strand) (q : Nat) : Strand :=
  let zero := fun _ => (0, 0)
  let t := (smGet zero d.trig.raised q).2
  if t ≠ 0 ∧ t ≤ d.tick + 1 then
    let d := { d with trig := { d.trig with raised := smSet zero d.trig.raised q (0, 0) } }
    d.setQueue q { d.queue q with raised := false }
  else d

/-- RAISED of a queue, and of its former entry, clears. -/
def raiseExpireOp (d : Strand) (q : Nat) : Strand := raiseExpire (raiseExpire d q) (65536 + q)

/-! ### Remote events (R256, R257, R279) -/

/-- The remote entry that a message matches. -/
def remoteMatch (m : SMap Byte) (msg : List Byte) : Option Nat :=
  (List.range (imgRemoteCount m)).find? fun i =>
    let e := imgRemote m i
    bit e 24 && decide (bits e 0 16 = fieldAt msg 2 2) && decide (bits e 16 2 = fieldAt msg 4 1 % 4) &&
      decide (bits e 18 6 = fieldAt msg 4 1 / 4)

/-- A message that no earlier copy has brought (R256, R257); its entry is one of the plan that decides its tick. -/
def remoteMessage (d : Strand) (msg : List Byte) : Strand :=
  let tick := tickOfU (fieldAt msg 8 8 % 2 ^ 58 * 2 ^ 32 + fieldAt msg 16 4)
  let m := d.unitImg (d.unitsAt tick)
  match remoteMatch m msg with
  | none => d.bump 0x7800 0x09 1
  | some i =>
    let key := bits (imgRemote m i) 0 24
    let last := smGet zeroAt d.trig.remLast key
    let near := decide (last ≠ 0) && decide (d.tick + 1 < last + bits (imgRemote m i) 64 16)
    let d := { d with trig := { d.trig with remLast := smSet zeroAt d.trig.remLast key (d.tick + 1) } }
    if near then (d.bump 0x7800 0x08 1).raise 0x64 i
    else if bit (fieldAt msg 1 1) 0 ≠ d.tm.partition then d.bump 0x7800 0x07 1
    else sourceEvent d 2 tick (fun m => remoteMatch m msg) (bit (fieldAt msg 1 1) 0)

/-- A received TRIG frame (R279): a duplicate within 1 ms is discarded. -/
def trigFrameOp (g : Pkg) (d : Strand) (msg : List Byte) : Strand :=
  let key := fieldAt msg 2 3
  let seq := fieldAt msg 20 4
  let recent := d.lanes.trigs.filter fun x => decide (d.now < x.1 + msTime 1)
  if recent.any fun x => decide (x.2.1 = key) && decide (x.2.2 = seq) then
    { d with lanes := { d.lanes with trigs := recent } }.bump 0x3004 0x03 1
  else
    let d := { d with lanes := { d.lanes with trigs := (d.now, key, seq) :: recent } }
    if !d.trigOn ∨ (fieldAt msg 2 2 = g.deviceId ∧ fieldAt msg 4 1 % 4 = d.id.num) then d
    else remoteMessage d msg

/-- Units that still have something to do: an enabled unit whose horizon has not reached their last tick, or an
assertion to come. -/
def OldUnits.busy (x : OldUnits) (now : Nat) : Bool :=
  (x.units.any fun u => !u.2.evs.isEmpty || !u.2.asserts.isEmpty) ||
    (List.range 64).any fun u => bit (imgUnit x.img u) 0 && decide (now < x.till + unitSettle (imgUnit x.img u))

/-- A commit at an epoch: new units from its tick on, every `last[]` and `dead_until` cleared, bad table words gone
(R250, R261); `old` is the image of the plan before it. -/
def unitsChange (d : Strand) (old : SMap Byte) (epoch : Nat) : Strand :=
  let t := tickOfU (epoch * 2 ^ 32)
  let olds := (d.trig.olds.filter fun x => x.busy d.tick) ++ [⟨old, d.trig.units, t⟩]
  { d with trig := { d.trig with olds := olds, units := [], bad := [], reload := false } }

/-- An uncorrectable word of the trigger tables met by a unit (R261). -/
def tableBad (d : Strand) (u : Nat) : Strand :=
  { d.raise 0x66 u with trig := { d.trig with bad := (u :: d.trig.bad).dedup } }

/-- Reload of the trigger tables (R393, R403). -/
def tablesReload (d : Strand) : Strand := { d with trig := { d.trig with bad := [], reload := false } }

/-- A write of 1 to TRIG_CNT_CLEAR (R260). -/
def trigCntClearOp (d : Strand) : Strand :=
  let d := toutsSettle { d with trig := { d.trig with detDrops := [] } }
  let d := d.clearSubs 0x7800 [1, 2, 3, 4, 5, 6, 7, 8, 9]
  let d := [0x7806, 0x7807, 0x7808].foldl (fun d i => d.clearSubs i [0, 1, 2, 3, 4]) d
  let d := d.clearSubs 0x7809 [0, 1, 2, 3]
  (List.range 64).foldl (fun d u => d.clearSubs (0x7840 + u) [1, 3]) d

/-- TIN_STATUS as it reads (R260): MASKED and the present qualified level. -/
def tinStatus (d : Strand) (n : Nat) : Nat :=
  let x := d.tin n
  let level := match x.start with | some s => decide (s + tinWidth x.cfg ≤ d.tick) | none => false
  b2n (d.tinMasked n) + 2 * b2n level

end Sys2Proof.Machine
end

