-- ==== Sys2Proof/Machine/BraidOps.lean ====
section
/-! DEFINITION. The braid (R189 to R203, R211 to R215): beat instances, spare routes, and the transfer of one slot
entry from its source port to its destination. -/

namespace Sys2Proof.Machine

/-! ### Beats of the strand (R194) -/

/-- Plan of a beat key: beats 0 to 15 are those of the ACTIVE plan in the present profile, 16 to 31 those of the plan
and profile before the last change (R171, R177). -/
def Strand.beatPlan (d : Strand) (b : Nat) : SMap Byte := if b < 16 then d.plan.active else d.plan.beatFormer

/-- Profile of a beat key. -/
def Strand.beatProf (d : Strand) (b : Nat) : Nat := if b < 16 then d.plan.profile else d.plan.profFormer

/-- Descriptor of a beat key. -/
def Strand.beatOf (d : Strand) (b : Nat) : Nat := imgBeat (d.beatPlan b) (d.beatProf b) (b % 16)

/-- The instance of a beat. -/
def Strand.beat (d : Strand) (b : Nat) : BeatInst := smGet (fun _ => (⟨0, 0, 0, 0⟩ : BeatInst)) d.beats b

/-- The strand with a beat's instance replaced. -/
def Strand.setBeat (d : Strand) (b : Nat) (x : BeatInst) : Strand :=
  { d with beats := smSet (fun _ => (⟨0, 0, 0, 0⟩ : BeatInst)) d.beats b x }

/-! ### Splices and spare routes at a transfer (R181, R195, R202, R203, R452) -/

/-- The running instance of a beat carries data accepted from a splice's boundary on: for a paced beat, its pacer
block is one that the spare handles; for another, the instance started from the boundary on. -/
def Strand.freshFor (d : Strand) (b : Nat) (x : Splice) : Bool :=
  let w := d.beatOf b
  let i := d.beat b
  decide (b < 16) &&
    (if bits w 0 2 = 0 then
        let v := smGet zeroAt x.from_ (bits w 2 12)
        decide (v ≠ 0) && decide (v ≤ beatPhase w + i.j * beatDiv w + 1)
      else decide (x.epoch ≤ epochOf (i.start - 1)))

/-- The splice of a logical cell that drains. -/
def Strand.drains (d : Strand) (l : Nat) : Option Splice :=
  d.work.splices.find? fun x => decide (x.logical = l) && decide (x.phase = 1)

/-- Physical cell that serves a logical one in the running instance of a beat: while a splice drains, the retiring
cell for data accepted before its boundary, and the spare for other data. -/
def Strand.side (d : Strand) (b l : Nat) : Nat :=
  match d.drains l with
  | some x => if d.freshFor b x then x.spare else x.old
  | none => d.physOf l

/-- The same for a source port: words of a retiring cell that no slot has taken come before those of the spare. -/
def Strand.sourceSide (d : Strand) (b l : Nat) : Nat :=
  match d.drains l with
  | some x => if (d.cell x.old).outQ.isEmpty then d.side b l else x.old
  | none => d.physOf l

/-- Route records that apply in the running instance of a beat: those of cells with their run start in the beat that a
spare serves which the base map of the beat's plan does not give them. -/
def Strand.routesOf (d : Strand) (b : Nat) : List Nat :=
  let m := d.beatPlan b
  let p := d.beatProf b
  let base := if b < 16 then d.plan.baseMap else d.plan.baseFormer
  if (routeOffs m p).isEmpty then []
  else (List.range 256).filterMap fun l =>
    let q := d.side b l
    if q < 272 ∧ 32 ≤ q % 34 ∧ q ≠ base.getD l 0xFFFF ∧ imgRole m l ∧ bits (imgRunStart m p l) 0 4 = b % 16 then
      routeOf m p l (q % 34 - 32)
    else none

/-- Base entry `i` of a beat. -/
def Strand.baseSlot (d : Strand) (b i : Nat) : Nat :=
  imgSlot (d.beatPlan b) (d.beatProf b) (bits (d.beatOf b) 208 32 + i)

/-- Entry `i` of a beat as its running instance uses it: that of a route that applies, or the base entry. -/
def Strand.slotOf (d : Strand) (b i : Nat) : Nat :=
  ((d.routesOf b).findSome? fun o => routeEntry (d.beatPlan b) o i).getD (d.baseSlot b i)

/-- A cell that a slot may name: powered, and not withheld by RUN_GATE. -/
def Strand.cellServes (d : Strand) (p : Nat) : Bool :=
  decide (p < 272) && decide (d.domain (4 + cellDomain p) = 2) && (d.cell p).gateOpen

/-- Key of the queue that a beat's entry feeds: a beat of the former plan feeds the queue under its former entry where
the commit changed that (R177). -/
def Strand.sinkQueue (d : Strand) (b q : Nat) : Nat :=
  if 16 ≤ b ∧ (d.q.qd.any fun x => decide (x.1 = q + 65536)) then q + 65536 else q

/-! ### Sources -/

/-- A zero word with INVALID in the sideband (R197). -/
def missingWord : Word32 := ⟨zeros 32, [{ len := 32, md := mdInvalid }]⟩

/-- `n` words, the missing ones as zero words; whether any was missing. -/
def padWords (n : Nat) (ws : List Word32) : List Word32 × Bool :=
  (ws ++ List.replicate (n - ws.length) missingWord, decide (ws.length < n))

/-- Words of a cell's output port; the dump buffer is free when its last has left (R84). A cell that met an invalid
step gives zero words with INVALID (R38). -/
def cellSource (d : Strand) (p n : Nat) : List Word32 × Strand :=
  let c := d.cell p
  let dump := c.dump.bind fun b => if b.left ≤ n then none else some { b with left := b.left - n }
  if c.stopped then (List.replicate n missingWord, d)
  else (c.outQ.take n, d.setCell p { c with outQ := c.outQ.drop n, dump := dump })

/-- Key of a context and channel in `sumDone`. -/
def sumKey (ctx chan : Nat) : Nat := ctx * 65536 + chan

/-- A missing record (R81). -/
def breakRecord : List Byte := runValEnc ⟨0, 0, 2, 0⟩

/-- The record that a lane source's slot expects, or a break. DEDUCED: of the records of the slot's context and
channel that wait, the slot takes the one with its sample number and discards those with an earlier one; a later one
waits for its own slot (R81, R149; assumption log 83). `p` is the receiving physical cell. -/
def laneRecord (lane p : Nat) (x : Strand × List (List Byte × Nat)) (u : UnitRef) : Strand × List (List Byte × Nat) :=
  let d := x.1
  let mine := fun (r : SumRec) => decide (r.lane = lane) && decide (r.ctx = u.ctx) && decide (r.chan = u.chan)
  let hit := d.lanes.sums.find? fun r => mine r && decide (r.samp = u.samp)
  let d := { d with lanes := { d.lanes with
    sums := d.lanes.sums.filter fun r => !(mine r && decide (r.samp ≤ u.samp)),
    sumDone := smSet zeroAt d.lanes.sumDone (sumKey u.ctx u.chan) (u.samp + 1) } }
  match hit with
  | some r => (d, x.2 ++ [(r.bytes, r.md)])
  | none => ((d.bump 0x5800 0x06 1).raise 0x20 p, x.2 ++ [(breakRecord, 0)])

/-- Words of a lane source: up to two records each, for the records that the slot expects (R77, R81). -/
def laneSource (d : Strand) (us : List UnitRef) (lane p n : Nat) : List Word32 × Strand :=
  let r := (us.take (2 * n)).foldl (laneRecord lane p) (d, [])
  let ws := (chunksOf 2 n r.2).map fun l =>
    (⟨l.flatMap (·.1) ++ zeros (32 - 16 * l.length), l.map fun x => { len := 16, md := x.2 }⟩ : Word32)
  (ws ++ List.replicate (n - ws.length) ⟨zeros 32, []⟩, r.1)

/-- Key of a store access descriptor in the present instance. -/
def descKey (b n : Nat) : Nat := (if b < 16 then 0 else 256) + n % 256

/-- Half a complex sample: the component that a SPLIT stream sends to a cell (R95, R118). -/
def splitComponent (es : Nat) (imag : Bool) (x : List Byte) : List Byte :=
  if imag then x.drop (es / 2) else x.take (es / 2)

/-- Whether a logical cell is the single or role-0 cell of a channeliser (R163). -/
def channeliser0 (m : SMap Byte) (l : Nat) : Bool :=
  (List.range (secCount m 16 0 8)).any fun i => decide (bits (secEntry m 16 0 8 i) 0 8 = l)

/-- The pieces of a word of delayed samples: for each operand block, pieces of up to 4 bytes, so that every sample's
number stands beside it. -/
def delayParts (s : Nat) (x : List (List Byte) × Nat × Int) : List Part :=
  let es := max (x.1.headD []).length 1
  let per := max (4 / es) 1
  (List.range (ceilDiv x.1.length per)).map fun g =>
    { len := es * min per (x.1.length - g * per), md := x.2.1, prov := some ⟨s, 1, x.2.2 + (g * per : Nat), 0, 0, 0, false, 0⟩ }

/-- Words of a DELAY descriptor (R213); `l` is the cell that takes a component of a SPLIT stream. -/
def delaySource (d : Strand) (m : SMap Byte) (desc j w0 n : Nat) (l : Option Nat) : List Word32 × Strand :=
  let s := bits desc 16 12
  let e := imgStream m s
  let es := outBytes (stOutFmt e)
  let split := bit e 9 && l.isSome
  let per := if split then 64 / max es 1 else 32 / max es 1
  let n0 : Int := toSigned 64 (bits desc 32 64) + (j : Int) * bits desc 96 32
  let act := d.plan.active
  let d := { d with plan := { d.plan with active := m } }
  let half := fun (x : List Byte) => if split then splitComponent es (!(channeliser0 m (l.getD 0))) x else x
  let r := (List.range n).foldl (fun (x : Strand × List Word32) (i : Nat) =>
    let y := readDelayed x.1 s (n0 + ((w0 + i) * per : Nat)) per
    let ps := y.1.map fun z => (z.1.map half, z.2)
    (y.2, x.2 ++ [⟨ps.flatMap fun z => z.1.flatten, ps.flatMap (delayParts s)⟩])) (d, [])
  (r.2, { r.1 with plan := { r.1.plan with active := act } })

/-- What the braid keeps of a region: a CT region by its INDEX, a WORK region by 256 + INDEX. -/
def Strand.region (d : Strand) (n : Nat) : CtRegion := smGet (fun _ => ({} : CtRegion)) d.ct n

/-- The strand with that replaced. -/
def Strand.setRegion (d : Strand) (n : Nat) (x : CtRegion) : Strand :=
  { d with ct := smSet (fun _ => ({} : CtRegion)) d.ct n x }

/-- REGION of a CT or RING descriptor. -/
def descRegion (x : Nat) : Nat := bits x 16 8
/-- ENGINE of a CT descriptor. -/
def ctEng (x : Nat) : Nat := bits x 24 2
/-- NI. -/
def ctNi (x : Nat) : Nat := bits x 32 16
/-- NC. -/
def ctNc (x : Nat) : Nat := bits x 48 16
/-- NT. -/
def ctNt (x : Nat) : Nat := bits x 64 16
/-- E. -/
def ctE (x : Nat) : Nat := bits x 80 4
/-- W = 32 / E. -/
def ctW (x : Nat) : Nat := 32 / max (ctE x) 1
/-- H: bytes of a half. -/
def ctHalf (x : Nat) : Nat := ctNi x * ctNc x * ctNt x * ctE x
/-- Offset of a region in the store. -/
def regionBase (m : SMap Byte) (kind x : Nat) : Nat := ((imgRegion m kind (descRegion x)).map (·.base)).getD 0

/-- Metadata of the W inputs from `i0` in a half. -/
def ctWordMd (c : CtRegion) (h i0 w : Nat) : Nat :=
  (mdAll ((List.range w).filterMap fun i =>
    let v := smGet zeroAt c.md (65536 * h + i0 + i)
    if v = 0 then none else some (v % 256))).getD 0

/-- What the word at a place in a half is: a channel and a channel sample, of inputs in order (R215). -/
def ctWordProv (c : CtRegion) (x h idx : Nat) : Option Prov :=
  (if h = 0 then c.prov0 else c.prov1).map fun p =>
    { p with samp := p.samp + (idx / max (ctNi x) 1 % max (ctNt x) 1 : Nat), chan := idx / max (ctNi x * ctNt x) 1 }

/-- One word of a CT_READ descriptor, by its key (R215). A descriptor reads a half to its end, and then the one
finished since. -/
def ctReadWord (m : SMap Byte) (x key : Nat) (a : Strand × List Word32) (_ : Nat) : Strand × List Word32 :=
  let d := a.1
  let c := d.region (descRegion x)
  let was := smGet (fun _ => (0, 0)) d.ctPos key
  let mid := decide (was.2 ≠ 0) && decide (32 * was.2 < ctHalf x)
  match c.ready with
  | none => a
  | some last =>
    if mid = false ∧ c.count ≤ was.1 then a
    else
      let cur := if mid then was else (c.count, 0)
      let h := if cur.1 = c.count then last else 1 - last
      let off := regionBase m 2 x + ctHalf x * h + 32 * cur.2
      let idx := 32 * cur.2 / max (ctE x) 1
      let bad := d.storeBad off 32
      let md := mdBad bad (ctWordMd c h (idx % max (ctNi x) 1) (ctW x))
      let w : Word32 := ⟨d.storeRead off 32, [{ len := 32, md := md, prov := ctWordProv c x h idx }]⟩
      let d := { d with ctPos := smSet (fun _ => (0, 0)) d.ctPos key (cur.1, cur.2 + 1) }
      (if bad then (storeFound d off 32).raise 0x52 (0x8000 + off / 2 ^ 24) else d, a.2 ++ [w])

/-- Store offset of word `w` of a RING descriptor in instance `j` (R212), within its WORK region. -/
def ringWord (m : SMap Byte) (x j w : Nat) : Nat :=
  let len := ((imgRegion m 5 (descRegion x)).map (·.len)).getD 0
  (bits x 32 32 + j * bits x 64 32 + 32 * w) % max len 1

/-- One word of a RING descriptor, with what stands beside it. -/
def ringRead (m : SMap Byte) (x j w0 : Nat) (a : Strand × List Word32) (i : Nat) : Strand × List Word32 :=
  let d := a.1
  let o := ringWord m x j (w0 + i)
  let off := regionBase m 5 x + o
  let ps := smGet (fun _ => []) (d.region (256 + descRegion x)).parts (o / 32)
  let bad := d.storeBad off 32
  let ps := if ps.isEmpty then [{ len := 32 }] else ps
  (if bad then storeFound d off 32 else d,
    a.2 ++ [⟨d.storeRead off 32, ps.map fun p => { p with md := mdBad bad p.md }⟩])

/-- Words of a store access descriptor: 1 DELAY, 3 CT_READ, 4 RING. -/
def descSource (d : Strand) (b n count : Nat) (l : Option Nat) : List Word32 × Strand :=
  let m := d.beatPlan b
  let x := imgDesc m (d.beatProf b) n
  let j := (d.beat b).j
  let w0 := smGet zeroAt d.descJ (descKey b n)
  let r := match bits x 0 4 with
    | 1 => delaySource d m x j w0 count l
    | 3 => let r := (List.range count).foldl (ctReadWord m x (descKey b n)) (d, [])
           (r.2, r.1)
    | 4 => let r := (List.range count).foldl (ringRead m x j w0) (d, [])
           (r.2, r.1)
    | _ => ([], d)
  (r.1, { r.2 with descJ := smSet zeroAt r.2.descJ (descKey b n) (w0 + count) })

/-! ### Destinations -/

/-- Pieces of a landed word take their places beside its bytes. -/
def landParts (m a : Nat) (x : Cell × Nat) (p : Part) : Cell × Nat :=
  (x.1.setMarks m ((a + x.2) % memSize m) p.len (some ⟨p.md, p.prov⟩), x.2 + p.len)

/-- Words land in a cell's staging memory (R126, R189); the control port alone writes the others (R30). -/
def landWords (m a : Nat) (ws : List Word32) (c : Cell) : Cell :=
  if 2 ≤ m then c
  else (ws.zipIdx.foldl (fun c w => (w.1.parts.foldl (landParts m (a + 32 * w.2)) (c, 0)).1)
    (c.storeBytes m a (ws.flatMap (·.bytes))))

/-- Delivery to a logical cell. -/
def cellSink (b l : Nat) (land : Landing) (ws : List Word32) (d : Strand) : Strand :=
  let p := d.side b l
  if d.cellServes p then d.onCell p (landWords (memCode land.mem) land.addr ws) else d

/-- The transposed words of a full gather, each with its offset in the half: channel `c0 + i` (R214). -/
def ctTranspose (x : Nat) (ws : List CtWord) (c0 t i0 : Nat) : List (Nat × List Byte) :=
  let e := ctE x
  (List.range (ctW x)).map fun i =>
    (((c0 + i) * ctNt x + t) * ctNi x * e + i0 * e,
      (List.range (ctW x)).flatMap fun k =>
        match ws.find? fun w => decide (w.inp = i0 + k) with
        | some w => (w.bytes.drop (i * e)).take e
        | none => zeros e)

/-- Writes a full gather into its half of the region, and makes the half ready when it is full. -/
def ctStore (m : SMap Byte) (x h : Nat) (d : Strand) (l : List (Nat × List Byte)) : Strand :=
  let base := regionBase m 2 x + ctHalf x * h
  let d := l.foldl (fun d w => d.storeWrite (base + w.1) w.2) d
  let c := d.region (descRegion x)
  let n := (if h = 0 then c.fill0 else c.fill1) + l.length
  let full := decide (ctHalf x ≤ 32 * n)
  let n := if full then 0 else n
  let c := if h = 0 then { c with fill0 := n } else { c with fill1 := n }
  d.setRegion (descRegion x) (if full then { c with ready := some h, count := c.count + 1 } else c)

/-- Words that an engine has gathered. -/
def Strand.gathered (d : Strand) (n : Nat) : List CtWord := smGet (fun _ => []) d.ctWords n

/-- Nothing of a half of a region has come yet, in the region or in an engine. -/
def halfNew (d : Strand) (x h : Nat) : Bool :=
  let c := d.region (descRegion x)
  decide ((if h = 0 then c.fill0 else c.fill1) = 0) &&
    !(d.ctWords.any fun w => w.2.any fun y => decide (y.region = descRegion x) && decide (y.samp / max (ctNt x) 1 % 2 = h))

/-- The metadata of a block goes to its input in a half; a half that begins drops what stood beside the one before it. -/
def ctMark (x inp h : Nat) (samp : Int) (p : Option Prov) (md : Nat) (fresh : Bool) (c : CtRegion) : CtRegion :=
  let old := if fresh then c.md.filter fun y => decide (y.1 / 65536 ≠ h) else c.md
  let key := 65536 * h + inp
  let v := smGet zeroAt old key
  let prov := p.map fun p =>
    { p with div := max (ctNc x) 1, samp := samp / max (ctNt x) 1 * max (ctNt x) 1, chan := 0 }
  let c := { c with md := smSet zeroAt old key ((if v = 0 then md else mdJoin (v % 256) md) % 256 + 256) }
  if h = 0 then { c with prov0 := if fresh then prov else c.prov0.orElse fun _ => prov }
  else { c with prov1 := if fresh then prov else c.prov1.orElse fun _ => prov }

/-- A word of a CT_WRITE descriptor: input `inp`, sample `n` of its stream (R214, R230). -/
def ctWriteWord (m : SMap Byte) (x inp : Nat) (n : Int) (w : Word32) (d : Strand) : Strand :=
  let nc := max (ctNc x) 1
  let samp := n / nc
  let chan := (n % nc).toNat
  let h := (samp / max (ctNt x) 1 % 2).toNat
  let i0 := inp / max (ctW x) 1 * ctW x
  let md := (mdAll (w.parts.map (·.md))).getD 0
  let c := ctMark x inp h samp (w.parts.findSome? (·.prov)) md (halfNew d x h) (d.region (descRegion x))
  let mine := fun (y : CtWord) => decide (y.region = descRegion x) && decide (y.chan = chan) && decide (y.samp = samp) &&
    decide (i0 ≤ y.inp) && decide (y.inp < i0 + ctW x)
  let words := d.gathered (ctEng x) ++ [⟨descRegion x, inp, chan, samp, w.bytes⟩]
  let got := words.filter mine
  let d := d.setRegion (descRegion x) c
  let keep := if got.length < ctW x then words else words.filter fun y => !(mine y)
  let d := { d with ctWords := smSet (fun _ => []) d.ctWords (ctEng x) keep }
  if got.length < ctW x then d
  else ctStore m x h d (ctTranspose x got chan (samp % max (ctNt x) 1).toNat i0)

/-- Number of the first sample of a transfer's source, a DELAY descriptor, in instance `j` (R213). -/
def delayFirst (src j w0 per : Nat) : Int := toSigned 64 (bits src 32 64) + (j : Int) * bits src 96 32 + (w0 * per : Nat)

/-- Delivery to a store access descriptor: 2 CT_WRITE, 4 RING. `src` is the source descriptor of a CT_WRITE and
`w0` its words before this transfer. -/
def descSink (b n : Nat) (src w0 inp : Nat) (ws : List Word32) (d : Strand) : Strand :=
  let m := d.beatPlan b
  let x := imgDesc m (d.beatProf b) n
  let j := (d.beat b).j
  match bits x 0 4 with
  | 2 => ws.zipIdx.foldl (fun d w => ctWriteWord m x inp (delayFirst src j (w0 + w.2) (ctW x)) w.1 d) d
  | 4 =>
    let v0 := smGet zeroAt d.descJ (descKey b n)
    let k := 256 + descRegion x
    let d := ws.zipIdx.foldl (fun d w =>
      let o := ringWord m x j (v0 + w.2)
      let d := d.storeWrite (regionBase m 5 x + o) w.1.bytes
      let c := d.region k
      d.setRegion k { c with parts := smSet (fun _ => []) c.parts (o / 32) w.1.parts }) d
    { d with descJ := smSet zeroAt d.descJ (descKey b n) (v0 + ws.length) }
  | _ => d

/-! ### One slot entry (R197, R200) -/

/-- INSTANCE of a braid source: the entry's queue, a value the spec does not state where it has none (R393). -/
def braidInst (d : Strand) (e : Nat) : Nat × Strand :=
  if slotDst e = 0x300 ∧ slotMcast e = false then (slotQueue e, d) else d.freeNat

/-- BRAID_MISSING for an entry. -/
def braidMissing (d : Strand) (e : Nat) : Strand :=
  let i := braidInst (d.bump 0x6800 0x02 1) e
  i.2.raise 0x51 i.1

/-- Logical cells that an entry delivers to. -/
def slotSinks (m : SMap Byte) (p e : Nat) : List Nat :=
  if slotMcast e then (List.range 256).filter fun l => bit (imgGroup m p (slotDst e)) l
  else if slotDst e < 256 then [slotDst e] else []

/-- Words of an entry's source, and whether the source is withheld. -/
def slotSource (d : Strand) (b e : Nat) (us : List UnitRef) : Option (List Word32 × Strand) :=
  let l := (slotSinks (d.beatPlan b) (d.beatProf b) e).head?
  let src := slotSrc e
  let n := slotWords e
  if src < 256 then
    let p := d.sourceSide b src
    if p < 272 ∧ (d.cell p).gateOpen = false then none else some (cellSource d p n)
  else if src < 0x17F then some (laneSource d us (src - 0x100) (match l with | some l => d.side b l | none => 0xFFFF) n)
  else if 0x200 ≤ src ∧ src < 0x300 then some (descSource d b (src - 0x200) n l)
  else some ([], d)

/-- Delivery of an entry's words. A shed queue takes none (R173). -/
def slotSink (g : Pkg) (b e : Nat) (land : Landing) (src w0 : Nat) (ws : List Word32) (d : Strand) : Strand :=
  let m := d.beatPlan b
  let dst := slotDst e
  if slotMcast e ∨ dst < 256 then (slotSinks m (d.beatProf b) e).foldl (fun d l => cellSink b l land ws d) d
  else if dst < 0x17F then sendRecords d (dst - 0x100) (slotSrc e) ws
  else if 0x200 ≤ dst ∧ dst < 0x300 then descSink b (dst - 0x200) src w0 land.input ws d
  else if dst = 0x300 then
    let q := d.sinkQueue b (slotQueue e)
    if d.plan.shed.contains q then d else enqueue g d q ws
  else d

/-- The braid runs: the strand domain is on and the strand is not in reset. -/
def Strand.braidOn (d : Strand) : Bool := !d.inReset && d.hasPlan

/-- CT queues that a beat's entries feed close their packet, or end its discard, when the instance ends (R230). -/
def closeCtPackets (d : Strand) (b : Nat) : Strand :=
  let qs := ((List.range (beatEntries (d.beatOf b))).filterMap fun i =>
    let e := d.baseSlot b i
    let q := d.sinkQueue b (slotQueue e)
    if slotDst e = 0x300 ∧ slotMcast e = false ∧ qKind (d.qEntry q) = 5 then some q else none).dedup
  qs.foldl (fun d q =>
    let x := d.queue q
    if (x.isOpen ∧ x.recs ≠ 0) ∨ x.dropping then closePacket d q else d) d

/-- The end of an instance: its last entry has run. -/
def beatEnd (d : Strand) (b : Nat) : Strand := closeCtPackets (d.setBeat b { d.beat b with start := 0, done := 0 }) b

/-- A slot transfer. -/
def slotTransferOp (g : Pkg) (d : Strand) (b i : Nat) (land : Landing) : Strand :=
  let x := d.beat b
  let n := beatEntries (d.beatOf b)
  if !d.braidOn || decide (x.start = 0) || decide (n ≤ i) || decide (i < x.done) then d
  else
    let e := d.slotOf b i
    let d := d.setBeat b { x with done := i + 1 }
    let sn := slotSrc e - 0x200
    let w0 := smGet zeroAt d.descJ (descKey b sn)
    let srcDesc := if 0x200 ≤ slotSrc e then imgDesc (d.beatPlan b) (d.beatProf b) sn else 0
    let d := match slotSource d b e land.units with
      | none => d
      | some (ws, d) =>
        let p := padWords (slotWords e) ws
        let d := if p.2 then braidMissing d e else d
        slotSink g b e land srcDesc w0 p.1 d
    if n ≤ i + 1 then beatEnd d b else d

/-! ### Beat instances (R194, R196) -/

/-- Length of a CCLK cycle in 2^-48 s, rounded up. -/
def Strand.cclkTime (d : Strand) : Nat := ceilDiv (2 ^ 48) (max d.cclkMhz 1 * 1000000)

/-- Whether the first CCLK cycle that begins at or after an anchor time begins now: within a cycle from it. -/
def Strand.atAnchor (d : Strand) (t : Int) : Bool := decide (t ≤ d.now) && decide ((d.now : Int) ≤ t + d.cclkTime)

/-- Number of the instance whose anchor is at the present time, but for its order. -/
def beatAnchored (d : Strand) (b : Nat) : Option Nat :=
  let m := d.beatPlan b
  let x := d.beatOf b
  let a := nsTime (beatAnchor x)
  if beatDiv x = 0 then none
  else if bits x 0 2 = 0 then
    let s := bits x 2 12
    let e := imgStream m s
    let w := imgWindow m (stWin e)
    let back := a + nsTime (winLag w)
    let k := blockAt e (toU (d.now - back)) - 1
    let slot := fun (k : Nat) => (stTime e (k + 1) : Int) * 64 + ((a : Int) + nsTime (winLag w) - nsTime (d.penOf s e k))
    (((List.range 4).map (k + ·)).find? fun k => d.atAnchor (slot k) && decide (beatPhase x ≤ k) &&
      decide ((k - beatPhase x) % beatDiv x = 0)).map fun k => (k - beatPhase x) / beatDiv x
  else
    let id := epochOf (d.now - a)
    let count := fun (n : Nat) => if n < beatPhase x then 0 else (n - beatPhase x) / beatDiv x + 1
    let first := if b < 16 then epochOf d.plan.commitAt else 0
    if id % beatDiv x = beatPhase x ∧ first ≤ id ∧ d.atAnchor (id * 2 ^ 38 + a : Nat) then
      some (count id - (if first = 0 then 0 else count (first - 1)) - 1)
    else none

/-- Number of the instance that starts at the present time: it has not started before. -/
def beatNumber (d : Strand) (b : Nat) : Option Nat := (beatAnchored d b).filter fun j => decide ((d.beat b).last ≠ j + 1)

/-- Words that an abandoned CT_WRITE or RING entry leaves out: what stands beside their places carries INVALID. -/
def abandonDesc (b n src w0 count : Nat) (d : Strand) : Strand :=
  let m := d.beatPlan b
  let x := imgDesc m (d.beatProf b) n
  let j := (d.beat b).j
  let k := descRegion x
  match bits x 0 4 with
  | 2 => (List.range count).foldl (fun d i =>
      let samp := delayFirst src j (w0 + i) (ctW x) / max (ctNc x) 1
      let h := (samp / max (ctNt x) 1 % 2).toNat
      let fresh := halfNew d x h
      d.setRegion k ((List.range (ctNi x)).foldl (fun c inp =>
        ctMark x inp h samp none mdInvalid (fresh && decide (inp = 0)) c) (d.region k))) d
  | 4 =>
    let v0 := smGet zeroAt d.descJ (descKey b n)
    (List.range count).foldl (fun d i =>
      let o := ringWord m x j (v0 + i) / 32
      let c := d.region (256 + k)
      d.setRegion (256 + k) { c with parts := smSet (fun _ => []) c.parts o missingWord.parts }) d
  | _ => d

/-- An entry that an overrun abandons: what it fed carries INVALID. -/
def abandonEntry (b : Nat) (d : Strand) (i : Nat) : Strand :=
  let m := d.beatPlan b
  let e := d.slotOf b i
  let dst := slotDst e
  let d := (slotSinks m (d.beatProf b) e).foldl (fun d l =>
    let p := d.side b l
    if p < 272 then d.setCell p { d.cell p with lostIn := true } else d) d
  if slotMcast e then d
  else if dst = 0x300 then
    let q := d.sinkQueue b (slotQueue e)
    let x := d.queue q
    d.setQueue q { x with umd := if x.ulen = 0 then x.umd else x.umd ||| mdInvalid, invalid := x.invalid || x.isOpen }
  else if 0x200 ≤ dst ∧ dst < 0x300 then
    let sn := slotSrc e - 0x200
    let w0 := smGet zeroAt d.descJ (descKey b sn)
    let d := abandonDesc b (dst - 0x200) (imgDesc m (d.beatProf b) sn) w0 (slotWords e) d
    let on := fun (t : SMap Nat) (n : Nat) => smSet zeroAt t n (smGet zeroAt t n + slotWords e)
    { d with descJ := [descKey b sn, descKey b (dst - 0x200)].foldl on d.descJ }
  else d

/-- Word counts of the descriptors that a beat's entries name start again. -/
def resetDescs (d : Strand) (b : Nat) : Strand :=
  let ns := ((List.range (beatEntries (d.beatOf b))).flatMap fun i =>
    let e := d.baseSlot b i
    (if 0x200 ≤ slotSrc e ∧ slotSrc e < 0x300 then [slotSrc e - 0x200] else []) ++
      (if slotMcast e = false ∧ 0x200 ≤ slotDst e ∧ slotDst e < 0x300 then [slotDst e - 0x200] else [])).dedup
  { d with descJ := ns.foldl (fun t n => smSet zeroAt t (descKey b n) 0) d.descJ }

/-- An instance of a beat starts. -/
def beatStartOp (d : Strand) (b : Nat) : Strand :=
  let x := d.beat b
  let n := beatEntries (d.beatOf b)
  match beatNumber d b with
  | none => d
  | some j =>
    if !d.braidOn then d
    else
      let d := if x.start = 0 then d
        else
          let d := ((List.range (n - x.done)).map (x.done + ·)).foldl (abandonEntry b) d
          let i := (d.bump 0x6800 0x01 1).freeNat
          closeCtPackets (i.2.raise 0x50 i.1) b
      let d := (resetDescs d b).setBeat b ⟨j, d.now + 1, 0, j + 1⟩
      if n = 0 then beatEnd d b else d

/-- Beats of a plan, its base map and a profile go on as those of the plan and profile before (R171, R177). -/
def beatsChange (d : Strand) (m : SMap Byte) (base : List Nat) (p : Nat) : Strand :=
  let d := { d with plan := { d.plan with beatFormer := m, baseFormer := base, profFormer := p } }
  let old := fun (n : Nat) (x : Nat) => decide (x < n)
  { d with
    beats := (d.beats.filter fun x => old 16 x.1).map fun x => (x.1 + 16, x.2)
    descJ := (d.descJ.filter fun x => old 256 x.1).map fun x => (x.1 + 256, x.2)
    ctPos := (d.ctPos.filter fun x => old 256 x.1).map fun x => (x.1 + 256, x.2) }

end Sys2Proof.Machine
end

