-- ==== Sys2Proof/Machine/BankOps.lean ====
section
/-! DEFINITION. Delay and weight banks (R131 to R138, R152): loads, swaps, copies and hot writes. -/

namespace Sys2Proof.Machine

/-! ### Steps and banks -/

/-- Entries of a cell's step list with their parameter blocks, from entry `e` on. -/
def cellSteps (c : Cell) : Nat → Nat → List (Nat × StepEntry × Nat)
  | 0, _ => []
  | n + 1, e =>
    let se := c.stepAt e
    (e, se, c.pmNat (64 * se.pbUnit) 64) :: (if se.last then [] else cellSteps c n (e + 1))

/-- The first FD step of a cell. -/
def fdStep (c : Cell) : Option (Nat × StepEntry × Nat) := (cellSteps c 32 0).find? fun x => decide (pbKernel x.2.2 = 7)

/-- A BP step of a cell. -/
def bpStep (c : Cell) (e : Nat) : Option (Nat × StepEntry × Nat) :=
  (cellSteps c 32 0).find? fun x => decide (x.1 = e) && decide (pbKernel x.2.2 = 3)

/-- AG3 of the set at a unit. -/
def ag3Of (c : Cell) (unit : Nat) : Ag := agAt (agSet (c.pmNat (64 * unit) 64)) 3

/-- Base of bank 0 of the set at a unit: AG3.BASE of the image. -/
def bankZero (m : SMap Byte) (l unit : Nat) : Nat :=
  bytesToNat (((cellImageBytes m l 3).drop (64 * unit + 24)).take 2)

/-- Base of the bank that is not active (R132). -/
def otherBase (m : SMap Byte) (l unit active : Nat) : Nat :=
  if active = bankZero m l unit then Config.bankOneBase m l unit % 65536 else bankZero m l unit

/-- Key of a bank: 0 the delays of a logical cell, 1 the weights of a step. -/
def bankKey (kind target : Nat) : Nat := kind * 65536 + target

/-- The swap that has not taken effect. -/
def Strand.swapOf (d : Strand) (kind target : Nat) : Option Swap :=
  d.work.swaps.find? fun s => decide (s.kind = kind) && decide (s.target = target)

/-- Step of a beam context: 32 * CELL + STEP. -/
def ctxTarget (w : Nat) : Nat := 32 * bits w 16 8 + bits w 24 5

/-- Contexts in use of a step. -/
def stepContexts (m : SMap Byte) (target : Nat) : List Nat :=
  (List.range (secCount m 10 0 32)).filter fun c =>
    decide (bits (imgContext m c) 0 2 ≠ 0) && decide (ctxTarget (imgContext m c) = target)

/-- DELAY_BANK or CTX_STATUS follows the bank (R152). -/
def bankStatus (d : Strand) (kind target : Nat) : Strand :=
  let key := bankKey kind target
  let pend := b2n (d.swapOf kind target).isSome
  let copy := 4 * smGet zeroAt d.work.copying key
  if kind = 0 then d.put (0x5400 + target) 0x03 (smGet zeroAt d.work.bank key + 2 * pend + copy)
  else (stepContexts d.plan.active target).foldl (fun d c =>
    let hot := b2n (d.work.hots.any fun h => decide (h.target = c))
    d.put (0x8000 + c) 0x06 (pend + 2 * hot + copy)) d

/-! ### Swaps (R133, R134) -/

/-- A write of DELAY_SWAP or WEIGHT_SWAP. -/
def swapWrite (d : Strand) (kind target v : Nat) : Strand :=
  let e := if v = 0 then boundaryAfter d.now else v
  let late := (decide (v ≠ 0) && !inTime d.now v) ||
    (match d.swapOf kind target with | some s => !inTime d.now s.epoch | none => false)
  if late then (d.bump 0x5700 0x04 1).answer 0x02
  else
    let rest := d.work.swaps.filter fun s => !(decide (s.kind = kind) && decide (s.target = target))
    (bankStatus { d with work := { d.work with swaps := rest ++ [⟨kind, target, e, decide (v ≠ 0)⟩] } } kind target).answer 0x00

/-- Generation counters of a swap that takes effect: DELAY_GEN, or WGEN of every context of the step (R137). -/
def swapGens (d : Strand) (kind target : Nat) : Strand :=
  if kind = 0 then d.put (0x5400 + target) 0x04 (d.get (0x5400 + target) 0x04 + 1)
  else (stepContexts d.plan.active target).foldl (fun d c => d.put (0x8000 + c) 0x05 (d.get (0x8000 + c) 0x05 + 1)) d

/-- A swap write refused for want of a plan counts too (R134). -/
def swapRefuse (d : Strand) : Strand := (d.bump 0x5700 0x04 1).answer 0x02

/-- A swap takes effect at a boundary: the other bank is active, and the copy of R135 is to come. -/
def swapTake (d : Strand) (kind target epoch : Nat) : Strand :=
  let key := bankKey kind target
  let swaps := d.work.swaps.filter fun s => !(decide (s.kind = kind) && decide (s.target = target))
  let d := { d with work := { d.work with swaps := swaps,
                                          bank := smSet zeroAt d.work.bank key (1 - smGet zeroAt d.work.bank key),
                                          bankFrom := smSet zeroAt d.work.bankFrom key epoch,
                                          copying := smSet zeroAt d.work.copying key 1 } }
  bankStatus (swapGens d kind target) kind target

/-- The active bank of a cell's FD and BP steps is the one that its AG3.BASE names (R132); a bank that the plan has
loaded takes effect at the commit (R55). `us` holds the units that the load has rewritten in each memory. -/
def bankFollow (m : SMap Byte) (l : Nat) (us : Nat → List Nat) (d : Strand) : Strand :=
  let c := d.cell (d.physOf l)
  let one := fun (d : Strand) (kind target unit : Nat) =>
    let key := bankKey kind target
    let a := ag3Of c unit
    let b := b2n (decide (a.base ≠ bankZero m l unit))
    let new := (us 3).contains unit || (us a.mem).any fun u => decide (a.base < 64 * u + 64) &&
        decide (64 * u < a.base + a.len)
    let from_ := if new then smSet zeroAt d.work.bankFrom key (epochOf d.plan.commitAt) else d.work.bankFrom
    bankStatus { d with work := { d.work with bank := smSet zeroAt d.work.bank key b, bankFrom := from_ } } kind target
  (cellSteps c 32 0).foldl (fun d x =>
    if pbKernel x.2.2 = 7 then one d 0 l x.2.1.agUnit
    else if pbKernel x.2.2 = 3 then one d 1 (32 * l + x.1) x.2.1.agUnit else d) d

/-- Swaps due whose step uses the AG set at a unit of a cell. -/
def swapsDue (d : Strand) (l p unit : Nat) : List Swap :=
  let c := d.cell p
  d.work.swaps.filter fun s =>
    decide (s.epoch ≤ epochOf d.now) &&
      (if s.kind = 0 then decide (s.target = l) && (match fdStep c with | some x => decide (x.2.1.agUnit = unit) | none => false)
       else decide (s.target / 32 = l) && (match bpStep c (s.target % 32) with
         | some x => decide (x.2.1.agUnit = unit)
         | none => false))

/-- SET_BASE: AG3.BASE is rewritten; to the other bank, after the boundary of a swap, the swap takes effect (R132). -/
def setBaseOp (d : Strand) (p unit arg : Nat) : Strand :=
  let l := d.runsAs p
  let old := (ag3Of (d.cell p) unit).base
  let due := if old = arg % 65536 then [] else swapsDue d l p unit
  let d := d.onCell p (cpSetBase unit arg)
  due.foldl (fun d s => swapTake d s.kind s.target s.epoch) d

/-- COPY_BANK: the active bank of the set at a unit into the other one; the copy of R135 is done. -/
def copyBankOp (d : Strand) (p unit n : Nat) : Strand :=
  let l := d.runsAs p
  let c := d.cell p
  let d := d.onCell p (cpCopyBank unit (n % 65536) (otherBase (d.planOf l) l unit (ag3Of c unit).base))
  let done := fun (d : Strand) (kind target : Nat) =>
    bankStatus { d with work := { d.work with copying := smSet zeroAt d.work.copying (bankKey kind target) 0 } } kind target
  let d := match fdStep c with
    | some x => if x.2.1.agUnit = unit then done d 0 l else d
    | none => d
  (cellSteps c 32 0).foldl (fun d x =>
    if pbKernel x.2.2 = 3 ∧ x.2.1.agUnit = unit then done d 1 (32 * l + x.1) else d) d

/-! ### Loads and hot writes (R135, R136, R152) -/

/-- Where a load or hot write lands: physical cell, AG set's unit, byte offset in the bank, entry size, entries that
the region or the context holds, and whether the payload is in order. -/
structure LoadPlace where
  phys : Nat
  unit : Nat
  off  : Nat
  size : Nat
  room : Nat
  ok   : Bool
  deriving DecidableEq, Repr

/-- Place of a delay load for a logical cell; `first` and `chan` from the payload header. -/
def delayPlace (d : Strand) (l first chan : Nat) : Option LoadPlace :=
  let p := d.physOf l
  match fdStep (d.cell p) with
  | none => none
  | some x => some ⟨p, x.2.1.agUnit, 16 * first, 16, (ag3Of (d.cell p) x.2.1.agUnit).len / 16, decide (chan = 0)⟩

/-- Bytes of a weight: 4 in PHASOR mode, else a sample of FMT. -/
def weightBytes (pb : Nat) : Nat := if bit pb 19 then 4 else sampleBytes (pbFmt pb)

/-- Place of a weight load for a context. -/
def weightPlace (d : Strand) (c first chan : Nat) : Option LoadPlace :=
  let w := imgContext d.plan.active c
  let p := d.physOf (bits w 16 8)
  match bpStep (d.cell p) (bits w 24 5) with
  | none => none
  | some x =>
    if bits w 0 2 = 0 then none
    else
      let a := ag3Of (d.cell p) x.2.1.agUnit
      let size := weightBytes x.2.2
      let perChan := !(bit x.2.2 19) && decide (a.stride ≠ 0)
      let off := (bits w 8 8 * bits w 48 11 + first) * size + (if perChan
          then (chan * a.stride * 16 % memSize a.mem).toNat else 0)
      some ⟨p, x.2.1.agUnit, off, size, bits w 48 11,
        if perChan then decide (chan + bits w 64 16 ≤ bits w 80 16) else decide (chan = 0)⟩

/-- Place of a held load by its kind. -/
def loadPlace (d : Strand) (h : HeldLoad) : Option LoadPlace :=
  let first := fieldAt h.bytes 0 2
  let chan := fieldAt h.bytes 4 2
  if h.kind = 0 then delayPlace d h.target first chan else weightPlace d h.target first chan

/-- Whether some CX4 weight holds the reserved component −8 (R28). -/
def reservedWeight (d : Strand) (h : HeldLoad) : Bool :=
  let w := imgContext d.plan.active h.target
  match bpStep (d.cell (d.physOf (bits w 16 8))) (bits w 24 5) with
  | none => false
  | some x => decide (h.kind ≠ 0) && !(bit x.2.2 19) && decide (pbFmt x.2.2 = 0) &&
      (h.bytes.drop 8).any fun b => invalidCx4 0 (sampleOf 0 b.toNat)

/-- The payload is one that R135 accepts. -/
def loadOk (d : Strand) (h : HeldLoad) : Bool :=
  let count := fieldAt h.bytes 2 2
  match loadPlace d h with
  | none => false
  | some x => decide (8 ≤ h.bytes.length) && decide (h.bytes.length = 8 + count * x.size) && x.ok &&
      decide (fieldAt h.bytes 0 2 + count ≤ x.room) && !(reservedWeight d h)

/-- Writes a load's entries into a bank: the inactive one, or the active one for a hot write. -/
def loadApplyTo (d : Strand) (h : HeldLoad) : Strand :=
  match loadPlace d h with
  | none => d
  | some x =>
    let a := ag3Of (d.cell x.phys) x.unit
    let l := d.runsAs x.phys
    let base := if h.kind ≤ 1 then otherBase (d.planOf l) l x.unit a.base else a.base
    d.onCell x.phys fun c => c.storeBytes a.mem ((base + x.off) % memSize a.mem) (h.bytes.drop 8)

/-- Kind and target of the bank that a load writes. -/
def loadBank (d : Strand) (h : HeldLoad) : Nat × Nat :=
  if h.kind = 0 then (0, h.target) else (1, ctxTarget (imgContext d.plan.active h.target))

/-- A load must wait: less than 100 µs before a pending swap's boundary, until the copy is done. -/
def loadWaits (d : Strand) (h : HeldLoad) : Bool :=
  let k := loadBank d h
  (match d.swapOf k.1 k.2 with | some s => !inTime d.now s.epoch | none => false) ||
    decide (smGet zeroAt d.work.copying (bankKey k.1 k.2) ≠ 0)

/-- A write of DELAY_LOAD or WEIGHT_LOAD. A held write answers when it is applied. -/
def loadWrite (d : Strand) (h : HeldLoad) : Strand :=
  if !(loadOk d h) then d.answer 0x02
  else if loadWaits d h then { d with work := { d.work with held := d.work.held ++ [h] } }
  else (loadApplyTo d h).answer 0x00

/-- Held loads that no longer wait are applied, in order. -/
def loadApplyOp (d : Strand) : Strand :=
  let go := d.work.held.filter fun h => !(loadWaits d h)
  let stay := d.work.held.filter fun h => loadWaits d h
  go.foldl (fun d h => (loadApplyTo d h).answer 0x00) { d with work := { d.work with held := stay } }

/-- A write of WEIGHT_HOT: it waits for a gap between two runs of the cell. -/
def hotWrite (d : Strand) (h : HeldLoad) : Strand :=
  if !(loadOk d h) then d.answer 0x02
  else
    (bankStatus { d with work := { d.work with hots := d.work.hots ++ [h] } } 1 (loadBank d h).2).answer 0x00

/-- Physical cell of a hot write. -/
def hotCell (d : Strand) (h : HeldLoad) : Nat := d.physOf (bits (imgContext d.plan.active h.target) 16 8)

/-- A gap between two runs of a cell: one hot write is applied, the others wait (R136). -/
def hotApplyOp (d : Strand) (p : Nat) : Strand :=
  if (d.cell p).running ∨ (d.cell p).gapHot then d
  else match d.work.hots.find? fun h => decide (hotCell d h = p) with
  | none => d
  | some h =>
    let rest := d.work.hots.erase h
    let late := (rest.filter fun x => decide (x.kind = 2) && decide (hotCell d x = p)).length
    let rest := rest.map fun x => if x.kind = 2 ∧ hotCell d x = p then { x with kind := 3 } else x
    let d := loadApplyTo { d with work := { d.work with hots := rest } } h
    let d := d.setCell p { d.cell p with gapHot := true }
    let d := d.put (0x8000 + h.target) 0x05 (d.get (0x8000 + h.target) 0x05 + 1)
    let d := d.bump 0x5700 0x05 1
    let d := if late = 0 then d else d.bump 0x5700 0x06 late
    bankStatus d 1 (loadBank d h).2

/-- A write of 1 to CB_CNT_CLEAR. -/
def cbCntClearOp (d : Strand) : Strand := d.clearSubs 0x5700 [1, 2, 3, 4, 5, 6]

end Sys2Proof.Machine
end

