-- ==== Sys2Proof/Machine/CheckImage.lean ====
section
/-! DEFINITION. The plan checker, rules 0x01 to 0x04 (R157 to R161, R167): the image's frame, its sections and
their lengths, reserved fields, target, generation and profiles. A finding names the TYPE of the section at fault
and an entry of it; the header is TYPE 0, and a section that is wrong as a whole is entry 0. -/

namespace Sys2Proof.Machine

/-! ### Findings -/

/-- What a rule finds: TYPE and entry of the first fault, or none. -/
abbrev Bad := Option (Nat × Nat)

/-- A fault where a condition holds. -/
def badIf (c : Bool) (ty ix : Nat) : Bad := if c then some (ty, ix) else none

/-- First fault over indices below `n`. -/
def badOver (n : Nat) (f : Nat → Bad) : Bad := (List.range n).findSome? f

/-- First fault of several checks in order. -/
def badFirst (l : List Bad) : Bad := l.findSome? id

/-- First index below `n` at which a condition holds, as a fault of a section. -/
def badAny (n ty : Nat) (c : Nat → Bool) : Bad := badOver n fun i => badIf (c i) ty i

/-- Whether some reserved field, given as its lowest bit and width, is not zero. -/
def resSet (v : Nat) (l : List (Nat × Nat)) : Bool := l.any fun x => decide (bits v x.1 x.2 ≠ 0)

/-! ### Frame and directory (R157, R159, R160) -/

/-- SECTION_COUNT. -/
def secTotal (m : SMap Byte) : Nat := bits (readNat m 16 2) 0 7

/-- IMAGE_CRC, over the image with its own field taken as 0. -/
def imgCrc (m : SMap Byte) : Nat :=
  crc32 (readMem m 0 28 ++ zeros 4 ++ readMem m 32 (imgSize m - 32))

/-- Two byte ranges share a byte. -/
def rangesMeet (a n b k : Nat) : Bool := decide (a < b + k) && decide (b < a + n)

/-- TYPE and INSTANCE are those of R160. -/
def secKnown (profiles : Nat) (s : Sec) : Bool :=
  if 0xF000 ≤ s.type then true
  else if s.type = 2 then true
  else if s.type = 3 ∨ s.type = 4 then decide (s.inst < profiles)
  else decide (1 ≤ s.type) && decide (s.type ≤ 16) && decide (s.inst = 0)

/-- Place of directory entry `i`: aligned, behind the directory, inside the image, clear of the entries before it. -/
def secPlaced (m : SMap Byte) (i : Nat) : Bool :=
  let s := secAt m i
  decide (s.off % 64 = 0) && decide (128 + 16 * secTotal m ≤ s.off) && decide (s.off + s.len ≤ imgSize m) &&
    (List.range i).all fun j =>
      let t := secAt m j
      !(rangesMeet s.off s.len t.off t.len) && !(decide (s.type = t.type) && decide (s.inst = t.inst))

/-- Bytes of records that follow one another from `o`, by a function that gives each record's length. -/
def walkLen (size : Nat → Nat) (stop : Nat) : Nat → Nat → Nat
  | 0, o => o
  | n + 1, o => if stop ≤ o then o else walkLen size stop n (o + max 1 (size o))

/-- Length of a FIR set record (R163). -/
def firSize (m : SMap Byte) (o : Nat) : Nat :=
  let h := readNat m o 8
  8 + ceilDiv (2 * (if bit h 9 then 2 * bits h 0 9 else bits h 0 9)) 8 * 8

/-- Length of a resampler bank record. -/
def rsSize (m : SMap Byte) (o : Nat) : Nat := 8 + 128 * (8 * (bits (readNat m o 8) 4 2 + 1))

/-- Length of the QUEUES section's content (R223). -/
def queuesLen (m : SMap Byte) : Nat := snapOff m + 16 * snapCount m - secOff m 11 0

/-- The LENGTH of a section is the size of its content. -/
def secLenOk (m : SMap Byte) (s : Sec) : Bool :=
  let n := s.len
  let walk := fun (f : Nat → Nat) => decide (walkLen f (s.off + n) (n / 8 + 1) s.off = s.off + n)
  match s.type with
  | 1 => decide (n % 16 = 0) && inR 16 64 n
  | 2 =>
    let h := cellHdr m s.inst
    decide (n = 32 + h.pm + h.cm + h.sa + h.sb + 8 * h.persist)
  | 3 => decide (n = 16 + 32 * readNat m s.off 2 + 2048 + 32 * readNat m (s.off + 2) 2 +
      32 * readNat m (s.off + 8) 2 + 16 * readNat m (s.off + 4) 4)
  | 4 => walk (routeSize m)
  | 5 => decide (n = 131072)
  | 6 => decide (n = 1024)
  | 7 => walk (firSize m)
  | 8 => walk (rsSize m)
  | 9 => decide (n % 24 = 0)
  | 10 => decide (n = 131072)
  | 11 => decide (n = queuesLen m)
  | 12 => decide (n % 16 = 0)
  | 13 => decide (n = 6160 + 4 * imgSrcCount m + 16 * imgRemoteCount m + ceilDiv (2 * imgRaiseCount m) 8 * 8)
  | 14 => decide (n % 16 = 0)
  | 15 => decide (n % 8 = 0)
  | 16 => decide (n % 8 = 0)
  | _ => true

/-- A section that R160 requires and the image lacks. -/
def secMissing (m : SMap Byte) : Option Nat :=
  let n := (imgProfiles m).length
  if (secFind m 1 0).isNone then some 1
  else if (List.range n).any fun p => (secFind m 3 p).isNone then some 3
  else if (List.range n).any fun p => (secFind m 4 p).isNone then some 4
  else [5, 6, 11, 12, 15].find? fun t => (secFind m t 0).isNone

/-! ### Reserved fields (R6) -/

/-- Reserved fields of the header. -/
def hdrReserved : List (Nat × Nat) := [(135, 9), (146, 5), (156, 4), (176, 16), (512, 512)]

/-- Entries of a section that start at `o`, `n` of `size` bytes: the first with a reserved field set. -/
def resEntries (m : SMap Byte) (ty o n size : Nat) (l : List (Nat × Nat)) : Bad :=
  badAny n ty fun i => resSet (readNat m (o + size * i) size) l

/-- Reserved fields of a store access descriptor, by KIND (R212). -/
def descReserved (w : Nat) : List (Nat × Nat) :=
  match bits w 0 4 with
  | 1 => [(4, 12), (28, 4), (128, 128)]
  | 2 | 3 => [(4, 12), (26, 6), (84, 172)]
  | 4 => [(4, 12), (24, 8), (96, 160)]
  | _ => []

/-- Reserved fields of a parameter block, by KERNEL (R39, R43 to R63). -/
def pbReserved (pb : Nat) : List (Nat × Nat) :=
  (12, 4) :: match pbKernel pb with
  | 1 | 2 => [(29, 3), (39, 473)]
  | 3 => [(56, 456)]
  | 4 => [(22, 10), (48, 464)]
  | 5 => [(30, 482)]
  | 6 => [(23, 1), (36, 476)]
  | 7 => [(80, 432)]
  | 8 => [(23, 1), (59, 453)]
  | 9 => [(19, 13), (48, 16), (96, 416)]
  | _ => [(16, 496)]

/-- A cell's memories as its image loads them (R162). -/
def imageCell (m : SMap Byte) (l : Nat) : Cell :=
  { sa := writeMem [] 0 (cellImageBytes m l 0), sb := writeMem [] 0 (cellImageBytes m l 1),
    cm := writeMem [] 0 (cellImageBytes m l 2), pm := writeMem [] 0 (cellImageBytes m l 3) }

/-- Reserved fields of a cell image: header, persist list, and the step entries, parameter blocks and AG sets that
its step list names. -/
def cellReserved (m : SMap Byte) (l : Nat) : Bool :=
  let h := cellHdr m l
  let c := imageCell m l
  let po := h.off + 32 + h.pm + h.cm + h.sa + h.sb
  decide (readNat m (h.off + 16) 16 ≠ 0) ||
    ((List.range h.persist).any fun i => resSet (readNat m (po + 8 * i) 8) [(2, 14), (48, 16)]) ||
    (cellSteps c 32 0).any fun x =>
      resSet (c.pmNat (8 * x.1) 8) [(7, 1), (38, 26)] || resSet x.2.2 (pbReserved x.2.2) ||
        resSet (c.pmNat (64 * x.2.1.agUnit) 64) ((List.range 8).map fun n => (64 * n + 51, 1))

/-- Reserved fields of the tables of a SCHEDULE section. -/
def schedReserved (m : SMap Byte) (p : Nat) : Bad :=
  let o := schedOff m p
  let g := runStartOff m p
  let ds := g + 2048 + 32 * schedGroups m p
  let es := ds + 32 * schedDescs m p
  badFirst [badIf (readNat m (o + 10) 6 ≠ 0) 3 0,
    resEntries m 3 (o + 16) (schedBeats m p) 32 [(14, 2), (48, 16), (116, 12)],
    resEntries m 3 g 256 8 [(4, 12), (36, 28)],
    badAny (schedDescs m p) 3 fun i => let w := readNat m (ds + 32 * i) 32
                                       resSet w (descReserved w),
    resEntries m 3 es (readNat m (o + 4) 4) 16 [(59, 5), (78, 2), (96, 32)]]

/-- Reserved fields of a SPARE_ROUTES section. -/
def routesReserved (m : SMap Byte) (p : Nat) : Bad :=
  badFirst ((routeOffs m p).zipIdx.map fun x =>
    (badIf (resSet (readNat m x.1 16) [(9, 7), (52, 12), (84, 12), (103, 25)]) 4 x.2).orElse fun _ =>
      (resEntries m 4 (x.1 + 16) (readNat m (x.1 + 2) 2) 16 [(59, 5), (78, 2), (96, 32)]).map fun _ => (4, x.2))

/-- Reserved fields of the QUEUES section: header, entries, calendars and snap groups. -/
def queuesReserved (m : SMap Byte) : Bad :=
  let o := secOff m 11 0
  let cal := (imgCalendars m).foldl (fun (x : Nat × Bool) c =>
    (x.1 + 8 + ceilDiv (2 * c.turns.length) 8 * 8, x.2 || resSet (readNat m x.1 8) [(2, 14), (41, 23)])) (calendarOff m, false)
  badFirst [badIf (readNat m (o + 5) 11 ≠ 0) 11 0,
    resEntries m 11 (o + 16) (imgQCount m) 32 [(4, 4), (10, 6), (56, 8), (80, 16), (234, 22)],
    badIf cal.2 11 0,
    resEntries m 11 (snapOff m) (snapCount m) 16 [(14, 2), (28, 4), (45, 3), (100, 28)]]

/-- Reserved fields of the TRIGGER section. -/
def trigReserved (m : SMap Byte) : Bad :=
  let o := trigOff m
  if imgHasTrig m then
    badFirst [badIf (readNat m (o + 6) 10 ≠ 0) 13 0,
      resEntries m 13 (o + 16) 1024 4 [(1, 15)],
      resEntries m 13 (o + 4112) 64 32 [(2, 6), (26, 6), (44, 4), (62, 2), (112, 16), (181, 3), (198, 2), (207, 1), (215, 1)],
      resEntries m 13 (o + 6160) (imgSrcCount m) 4 [(12, 4)],
      resEntries m 13 (o + 6160 + 4 * imgSrcCount m) (imgRemoteCount m) 16 [(25, 7), (80, 48)]]
  else none

/-- Reserved fields of one section. -/
def secReserved (m : SMap Byte) (s : Sec) : Bad :=
  let flat := fun (size : Nat) (l : List (Nat × Nat)) => resEntries m s.type s.off (s.len / size) size l
  match s.type with
  | 1 => flat 16 [(34, 94)]
  | 2 => badIf (cellReserved m s.inst) 2 0
  | 3 => schedReserved m s.inst
  | 4 => routesReserved m s.inst
  | 5 => flat 32 [(29, 3), (186, 6), (249, 7)]
  | 6 => flat 16 [(90, 6)]
  | 7 => badFirst ((walkOffs (firSize m) (s.off + s.len) (s.len / 8 + 1) s.off).zipIdx.map fun x =>
      badIf (resSet (readNat m x.1 8) [(15, 1), (20, 12)]) 7 x.2)
  | 8 => badFirst ((walkOffs (rsSize m) (s.off + s.len) (s.len / 8 + 1) s.off).zipIdx.map fun x =>
      badIf (resSet (readNat m x.1 8) [(11, 5), (48, 16)]) 8 x.2)
  | 9 => flat 24 [(16, 48), (111, 1), (118, 2), (155, 37)]
  | 10 => flat 32 [(3, 5), (29, 3), (59, 5), (110, 2), (135, 1), (148, 4), (183, 1), (187, 69)]
  | 11 => queuesReserved m
  | 12 => flat 16 [(4, 12), (24, 8), (84, 44)]
  | 13 => trigReserved m
  | 14 => flat 16 [(12, 4), (23, 9), (96, 32)]
  | 15 => flat 8 [(16, 16)]
  | 16 => flat 8 [(8, 8), (48, 16)]
  | _ => none

/-! ### Rules 0x01 to 0x04 -/

/-- Rule 0x01 IMAGE. -/
def checkImage (m : SMap Byte) : Bad :=
  let n := secTotal m
  let sec := fun (f : Nat → Sec → Bool) => badOver n fun i => badIf (f i (secAt m i)) (secAt m i).type 0
  badFirst [badIf (readNat m 0 4 ≠ 0x50584743) 0 0, badIf (readNat m 4 2 ≠ 1) 0 0, badIf (readNat m 6 2 ≠ 0x80) 0 0,
    badIf (imgSize m % 64 ≠ 0 || decide (16777216 < imgSize m) || decide (imgSize m < 128 + 16 * n)) 0 0,
    badIf (imgCrc m ≠ readNat m 28 4) 0 0,
    badIf (!(inR 1 64 n)) 0 0,
    sec fun _ s => decide (s.off + s.len ≤ 16777216) && decide (crc32 (readMem m s.off s.len) ≠ s.crc),
    sec fun i s => !(secPlaced m i) || !(secKnown (imgProfiles m).length s),
    sec fun _ s => !(secLenOk m s),
    match secMissing m with | some t => some (t, 0) | none => none,
    badIf (resSet (readNat m 0 128) hdrReserved) 0 0,
    sec fun i _ => decide (readNat m (128 + 16 * i + 3) 1 ≠ 0),
    badOver n fun i => secReserved m (secAt m i)]

/-- Rule 0x02 TARGET. -/
def checkTarget (g : Pkg) (d : Strand) (m : SMap Byte) : Bad :=
  let b := readNat m 18 1
  badFirst [badIf (!(bit b 7) && decide (bits b 0 2 ≠ d.id.num)) 0 0,
    badIf (!(bit (imgFlags m) 3) && decide (readNat m 20 2 ≠ g.deviceId)) 0 0]

/-- Generation `a` is after `b` (R155). -/
def genAfter (a b : Nat) : Bool := inR 1 (2 ^ 31 - 1) (serialSub 32 a b)

/-- Rule 0x03 GENERATION: after ACTIVE_GEN, and within 0x00000001 to 0x7FFFFFFF for the first plan (R155). -/
def checkGeneration (d : Strand) (m : SMap Byte) : Bad := badIf (!(genAfter (imgGen m) (d.get 0x6000 0x06))) 0 0

/-- fmax of the part at a TJ_TOP (R161). -/
def fmaxAt (tj : Int) : Int :=
  if Config.gradeF16 then (if tj ≤ 125 then 1600 else 1600 - 16 * (tj - 125)) else 1200

/-- Rule 0x04 PROFILE. -/
def checkProfiles (m : SMap Byte) : Bad :=
  let l := imgProfiles m
  let n := l.length
  badFirst [badAny n 1 fun p =>
      decide (0 < p) && decide ((imgProfile m p).tjTop ≤ (imgProfile m (p - 1)).tjTop),
    badAny n 1 fun p => let c := (imgProfile m p).cclk
                        !(inR 400 1600 c) || decide (c % 25 ≠ 0),
    badIf ((imgProfile m (n - 1)).tjTop ≠ 150) 1 (n - 1),
    badAny n 1 fun p => decide (0 < p) && decide ((imgProfile m (p - 1)).admLevel < (imgProfile m p).admLevel),
    badAny n 1 fun p => decide ((imgProfile m p).admLevel ≠ 3) &&
      (decide ((imgProfile m p).tjTop ≤ 125) || !Config.gradeF16),
    badAny n 1 fun p => decide (fmaxAt (imgProfile m p).tjTop < ((imgProfile m p).cclk : Int))]

end Sys2Proof.Machine
end

