-- ==== Sys2Proof/Machine/LaneConf.lean ====
section
/-! DEFINITION. Configuration of lanes, links, ports and flows as the dictionary holds it (R263 to R267, R280,
R288, R290, R291, R295, R296), and the stream that a JESD link gives. -/

namespace Sys2Proof.Machine

/-! ### Lanes (R263, R265, R267) -/

/-- PROTO. -/
def Strand.laneProto (d : Strand) (l : Nat) : Nat := d.getF 0x3000 l 3 2

/-- An internal lane of this strand: its number names another strand. -/
def Strand.internalLane (d : Strand) (n : Nat) : Bool :=
  decide (0x20 ≤ n) && decide (n < 0x40) && decide ((n - 0x20) / 8 ≠ d.id.num)

/-- An external logical lane whose PROTO is AGUSH, at an Agush rate or OFF (R265, R267; assumption log 30). -/
def Strand.extAgush (d : Strand) (l : Nat) : Bool :=
  decide (l < 24) && decide (d.laneProto l = 0) && inR 0 4 (d.laneRate l)

/-- An Agush lane, external or internal. -/
def Strand.agushLane (d : Strand) (n : Nat) : Bool := d.extAgush n || d.internalLane n

/-- A member of an enabled bond (R280). -/
def Strand.bondMember (d : Strand) (l : Nat) : Bool :=
  decide (l < 24) && (List.range 16).any fun b => d.bondOn b && (d.bondMembers b).contains l

/-- Logical lanes of an endpoint: the lane, a bond's members, none for another. -/
def Strand.endLanes (d : Strand) (n : Nat) : List Nat :=
  if 0x40 ≤ n ∧ n < 0x50 then d.bondMembers (n - 0x40) else [n]

/-- Rate code of an Agush endpoint; that of a member for a bond. -/
def Strand.endRate (d : Strand) (n : Nat) : Nat :=
  match d.endLanes n with
  | l :: _ => if l < 24 then d.laneRate l else 1
  | [] => 0

/-- A value at a lane-map number that a plan may send frames to or take them from: an Agush lane that is no member
of a bond, or an enabled bond. -/
def Strand.agushEnd (d : Strand) (n : Nat) : Bool :=
  (d.agushLane n && !(d.bondMember n)) || (decide (0x40 ≤ n) && decide (n < 0x50) && d.bondOn (n - 0x40))

/-! ### JESD204C links (R295 to R297) -/

/-- JESD_CFG of link `j`. -/
def Strand.jesd (d : Strand) (j : Nat) : Nat := d.get 0x3600 j
/-- L. -/
def jesdL (c : Nat) : Nat := bits c 1 3 + 1
/-- FIRST_LANE. -/
def jesdFirst (c : Nat) : Nat := bits c 4 5
/-- M. -/
def jesdM (c : Nat) : Nat := bits c 9 5 + 1
/-- N′ in bits. -/
def jesdNp (c : Nat) : Nat := if bits c 14 2 = 0 then 8 else if bits c 14 2 = 1 then 12 else 16
/-- IQ. -/
def jesdIq (c : Nat) : Bool := bit c 16
/-- S. -/
def jesdS (c : Nat) : Nat := bits c 17 2 + 1
/-- E. -/
def jesdE (c : Nat) : Nat := bits c 19 2 + 1
/-- STREAM_BASE. -/
def jesdBase (c : Nat) : Nat := bits c 21 12
/-- Lane rate in kb/s. -/
def jesdKbps (c : Nat) : Nat := bits c 64 32
/-- Streams of a link. -/
def jesdStreams (c : Nat) : Nat := if jesdIq c then jesdM c / 2 else jesdM c
/-- Logical lanes of a link. -/
def jesdLanes (c : Nat) : List Nat := (List.range (jesdL c)).map (jesdFirst c + ·)
/-- IN_FMT of a link's streams. -/
def jesdFmt (c : Nat) : Nat :=
  if jesdIq c then (if jesdNp c = 8 then 1 else 2) else if jesdNp c = 8 then 4 else if jesdNp c = 12 then 3 else 5

/-- A stream of a link: the right number, format and rate. A lane carries 2,048 payload bits of every 2,112. -/
def jesdMatches (c s e : Nat) : Bool :=
  decide (jesdBase c ≤ s) && decide (s < jesdBase c + jesdStreams c) && decide (stInFmt e = jesdFmt c) &&
    decide (stNum e * jesdM c * jesdNp c * 2112 = jesdKbps c * 1000 * jesdL c * 2048 * stDen e)

/-! ### Ethernet (R290, R291) -/

/-- ETH_PORT_CFG of port `p`. -/
def Strand.ethPort (d : Strand) (p : Nat) : Nat := d.get 0x3400 p

/-- Logical lanes of a port configuration: one, or four at 400 Gb/s. -/
def portLanes (c : Nat) : List Nat := (List.range (if bit c 1 then 4 else 1)).map (bits c 4 5 + ·)

/-- ETH_FLOW of flow `f` now. -/
def Strand.ethFlow (d : Strand) (f : Nat) : Nat := d.get (0x3500 + f) 1

/-- A location as it will stand once every pending write to it has taken effect. -/
def Strand.pendVal (d : Strand) (index sub : Nat) : Nat :=
  match (d.pendW.filter fun w => decide (w.key = locKey index sub)).getLast? with
  | some w => w.val
  | none => d.get index sub

/-! ### MTU and transmit latency (R225, R226, R273, R288, R292, R344) -/

/-- MTU of an output in bytes of packet. -/
def Strand.outMtu (d : Strand) (o : OutId) : Nat :=
  if o.kind = 0 then 16384
  else if o.kind = 1 then
    let f := d.pendVal (0x3500 + o.id) 1
    bits f 128 16 - (if bit f 7 then 48 else 28)
  else 65535

/-- T_HP(b) in ns; DMA_RATE stands at 0x7100:01 in units of 0.01 byte per ns. Without a link there is no bound, and
the value exceeds every LAT_MAX_NS. -/
def Strand.hpNs (d : Strand) (b : Nat) : Nat :=
  if d.get 0x7100 0x01 = 0 then 2 ^ 32 else ceilDiv (b * 100) (d.get 0x7100 0x01)

/-- Largest MAX_PKT of the queues of a DMA channel. -/
def dmaLargest (m : SMap Byte) (c : Nat) : Nat :=
  (List.range (imgQCount m)).foldl (fun a q =>
    let e := imgQueue m q
    if qKind e ≠ 0 ∧ qOut e = ⟨2, c⟩ then max a (qMaxPkt e) else a) 0

/-- T_TX of a DMA channel (R344). -/
def Strand.dmaTx (d : Strand) (m : SMap Byte) (c pkt : Nat) : Nat :=
  let others := (List.range 16).filter fun x => decide (x ≠ c) && decide (0 < dmaLargest m x)
  350 + d.hpNs (pkt + 8) + (others.map fun x => d.hpNs (dmaLargest m x + 8)).foldl (· + ·) 0 + d.hpNs 32

/-- Bytes of the headers of a flow's datagram: Ethernet, tag, IP and UDP. -/
def flowHeaders (f : Nat) : Nat := 14 + (if bit f 6 then 4 else 0) + (if bit f 7 then 40 else 20) + 8

/-- T_TX of an Ethernet flow (R288); a 100 Gb/s port sends 12.5 bytes per ns. -/
def Strand.ethTx (d : Strand) (fl pkt : Nat) : Nat :=
  let f := d.pendVal (0x3500 + fl) 1
  let fast := bit (d.ethPort (bits f 0 5)) 1
  let ser := fun (b : Nat) => if fast then ceilDiv b 50 else ceilDiv (2 * b) 25
  (if fast then 150 else 180) + ser (pkt + flowHeaders f + 24) + ser 1538

/-- TX_FIXED and T_CW of a rate code in units of 0.1 ns (R288). -/
def laneFixed (code : Nat) : Nat :=
  if code = 1 then 380 + 512 else if code = 2 then 460 + 1024 else if code = 3 then 600 + 2110 else 900 + 5275

/-- RX_FIXED and T_CW in units of 0.1 ns. -/
def laneRxFixed (code : Nat) : Nat :=
  if code = 1 then 720 + 512 else if code = 2 then 1180 + 1024 else if code = 3 then 2400 + 2110 else 5600 + 5275

/-- T_SER(b) in ns. -/
def laneSer (code b : Nat) : Nat := ceilDiv (b * 8 * 17 * 100000) (16 * max 1 (rateOf code))

/-- T_TX of a queue of an Agush lane or bond but for T_BLOCK, in ns rounded up (R288). The table has no figures for a
lane that is OFF: the free T_BLOCK stands for all of its T_TX. -/
def Strand.laneTx (d : Strand) (n pkt : Nat) : Nat :=
  let code := d.endRate n
  if code = 0 then 0 else
  let idle := (d.endLanes n).any fun l => decide (0x20 ≤ l) || d.getBit 0x3000 l 6
  ceilDiv (laneFixed code) 10 + laneSer code (pkt + 12) + (if idle then 200 else 0)

end Sys2Proof.Machine
end

