-- ==== Sys2Proof/Machine/CheckData.lean ====
section
/-! DEFINITION. The plan checker, rules 0x05 to 0x0D (R167): cell images, tile ownership, streams, windows,
filters, capacity, channelisers, beam contexts and dumps. -/

namespace Sys2Proof.Machine

/-! ### Rule 0x05 CELL -/

/-- LC, N_LOG2 and the other fields of FP and FT. -/
def nLog (pb : Nat) : Nat := if pbKernel pb = 5 then bits pb 20 4 else bits pb 16 4

/-- The header and the persist list of a cell image (R162). -/
def cellHeadBad (m : SMap Byte) (l : Nat) : Bool :=
  let h := cellHdr m l
  decide (h.pm % 64 ≠ 0) || decide (8192 < h.pm) || decide (16 < h.persist) || decide (h.cm % 64 ≠ 0) ||
    decide (32768 < h.cm) || decide (h.sa % 64 ≠ 0) || decide (65536 < h.sa) || decide (h.sb % 64 ≠ 0) ||
    decide (65536 < h.sb) || (cellPersist m l).any fun x => decide (1 < x.mem) || decide (65536 < x.base + x.len)

/-- A weight of a STORED CX4 bank with a component of −8 (R28). -/
def weightBad (c : Cell) (a : Ag) (pb reps : Nat) : Bool :=
  (List.range reps).any fun r => (List.range (bits pb 32 8 * bits pb 20 12)).any fun e =>
    invalidCx4 0 (sampleOf 0 (agRead c a r 0 e 1))

/-- A detector slot (R51) of a DT step. -/
def dtSlot (c : Cell) (a : Ag) (i : Nat) : Nat := agRead c a 0 0 i 16

/-- The detector slots of a DT step break R51. -/
def slotsBad (c : Cell) (a : Ag) (pb : Nat) : Bool :=
  let n := bits pb 48 11
  (List.range n).any fun i =>
    let s := dtSlot c a i
    decide (10 < bits s 58 4) || decide (4 < bits s 72 3) || decide (bits pb 24 8 ≤ bits s 64 8) ||
      (bit s 75 && (List.range i).any fun j =>
        let t := dtSlot c a j
        bit t 75 && decide (bits t 58 4 = bits s 58 4) && decide (bits t 64 8 = bits s 64 8))

/-- N_LOG2 of an FT step differs from that of the cell's FP step (R58). -/
def ftSizeBad (c : Cell) (pb : Nat) : Bool :=
  (cellSteps c 32 0).any fun x => decide (pbKernel x.2.2 = 5) && decide (nLog x.2.2 ≠ nLog pb)

/-- What the checker refuses of a step beyond what the cell refuses (R34, R47, R50, R54, R58). DESIGN CHOICE: BASE +
LEN above SIZE is refused of the generators that the kernel uses, and of no other (assumption log 70). -/
def stepBad (m : SMap Byte) (l : Nat) (c : Cell) (se : StepEntry) (pb : Nat) : Bool :=
  let ags := agSet (c.pmNat (64 * se.agUnit) 64)
  let a := agAt ags
  let quarter := 2 * (2 ^ nLog pb / 4 + 1)
  let other := { a 3 with base := Config.bankOneBase m l se.agUnit % 65536 }
  !(stepValid se pb ags) ||
    ((agsUsed pb).any fun n => decide (agSize (a n) < (a n).base + (a n).len)) ||
    (match pbKernel pb with
     | 3 =>
       let es := weightBytes pb
       decide ((a 3).mem ≠ 2) || decide ((a 3).len < bits pb 32 8 * bits pb 20 12 * es) ||
         decide (agSize other < other.base + other.len) ||
         (!(bit pb 19) && decide (pbFmt pb = 0) && (weightBad c (a 3) pb se.rep || weightBad c other pb se.rep))
     | 5 => decide ((a 0).stride ≠ 0)
     | 6 =>
       decide ((a 3).mem ≠ 2) || decide ((a 3).len < quarter) || ftSizeBad c pb ||
         (decide (bits pb 20 3 = 1) && decide ((nLog pb - 1) % 2 = 0))
     | 7 => decide ((a 3).mem ≠ 2) || decide ((a 4).mem = 2) || decide (agSize other < other.base + other.len)
     | 8 => decide ((a 3).mem ≠ 2) || decide ((a 3).len < 16 * bits pb 48 11) || decide ((a 5).mem = 2) ||
         decide ((a 5).len < 176 * bits pb 24 8) || slotsBad c (a 3) pb
     | _ => false)

/-- Rule 0x05 for one cell image; the index is the step entry. -/
def cellBad (d : Strand) (m : SMap Byte) (l : Nat) : Bad :=
  let c := imageCell m l
  let steps := cellSteps c 32 0
  badFirst [badIf (cellHeadBad m l) 2 0,
    badIf (!(steps.any fun x => x.2.1.last)) 2 0,
    steps.findSome? fun x => badIf (stepBad m l c x.2.1 x.2.2) 2 x.1,
    badIf (d.physOf l = 0xFFFF) 2 0]

/-- Rule 0x05 CELL. -/
def checkCells (d : Strand) (m : SMap Byte) : Bad :=
  badOver 256 fun l => if imgRole m l then cellBad d m l else none

/-! ### Rule 0x07 STREAMS (R96, R97, R267, R280, R296) -/

/-- Samples per second of the delay line of a stream (R118). -/
def dlRate (e : Nat) : Rat :=
  let f : Rat := (stNum e : Rat) / (stDen e : Rat)
  match stRate e with
  | 1 => f / 2
  | 2 => f / 4
  | 3 => f / 8
  | 4 => f * 16777216 / (stRsStep e : Rat)
  | _ => f

/-- Bytes of a stream's delay line (R118). -/
def dlBytes (e : Nat) : Nat := ceilDiv (dlLen e * outBytes (stOutFmt e)) 4096 * 4096

/-- A reserved encoding or a value out of range in a stream entry. -/
def streamCodeBad (e : Nat) : Bool :=
  decide (5 < stInFmt e) || decide (stOutFmt e = 3) || decide (5 < stOutFmt e) || decide (bits e 10 2 = 3) ||
    decide (4 < stRate e) || decide (1048576 < stDelayMax e) || (decide (bits e 10 2 = 1) && decide (bits e 88 3 = 0))

/-- LANE of a stream is not one that may carry it. -/
def streamLaneBad (d : Strand) (s e : Nat) : Bool :=
  let n := stLane e
  if 0x60 ≤ n ∧ n ≤ 0x67 then !(jesdMatches (d.jesd (n - 0x60)) s e) else !(d.agushEnd n)

/-- Rule 0x07 for one stream. -/
def streamBad (d : Strand) (m : SMap Byte) (large : Bool) (before : List Nat) (s : Nat) : Bool :=
  let e := imgStream m s
  streamCodeBad e || decide (stNum e = 0) || decide (stDen e = 0) ||
    (decide (bits e 80 4 ≠ 0) && decide (bits e 84 4 ≠ 0)) ||
    (bit e 9 && (!(fmtComplex (stInFmt e)) || !(inR 1 2 (stOutFmt e)))) ||
    decide (fmtComplex (stInFmt e) ≠ fmtComplex (stOutFmt e)) ||
    (decide (stRate e = 4) && decide (stRsStep e < 0x1000000)) ||
    (before.any fun t => rangesMeet (stDlBase e) (dlBytes e) (stDlBase (imgStream m t)) (dlBytes (imgStream m t))) ||
    (large && decide (stRate e ≠ 4)) || streamLaneBad d s e

/-- Rule 0x07 STREAMS. -/
def checkStreams (d : Strand) (m : SMap Byte) : Bad :=
  let l := imgValidStreams m
  l.findSome? fun s => badIf (streamBad d m (decide (256 < l.length)) (l.filter fun t => decide (t < s)) s) 5 s

/-! ### Rule 0x08 WINDOW (R101) -/

/-- Cell domains that a stream feeds in some profile. -/
def streamDomains (m : SMap Byte) (s : Nat) : List Nat :=
  ((List.range (imgProfiles m).length).flatMap fun p =>
    ((streamReach m p s).filter fun x => decide (x < 256)).map fun l => l / 32).dedup

/-- Rule 0x08 WINDOW, over the windows that valid streams name. -/
def checkWindows (m : SMap Byte) : Bad :=
  let valid := imgValidStreams m
  badOver 64 fun i =>
    let ss := valid.filter fun s => decide (stWin (imgStream m s) = i)
    let w := imgWindow m i
    if ss.isEmpty then none
    else badIf (decide (winLag w < gatePipe + winPen w) ||
      ss.any fun s => (streamDomains m s).any fun dom => !(bit (winMask w) dom)) 6 i

/-! ### Rule 0x09 FILTER (R113, R115, R163) -/

/-- Offsets of the FIR set records. -/
def firOffs (m : SMap Byte) : List Nat :=
  match secFind m 7 0 with
  | none => []
  | some s => walkOffs (firSize m) (s.off + s.len) (s.len / 8 + 1) s.off

/-- Offsets of the resampler bank records. -/
def rsOffs (m : SMap Byte) : List Nat :=
  match secFind m 8 0 with
  | none => []
  | some s => walkOffs (rsSize m) (s.off + s.len) (s.len / 8 + 1) s.off

/-- Whether an earlier record of a list has the same number. -/
def repeated (num : Nat → Nat) (l : List Nat) (i : Nat) : Bool :=
  (l.take i).any fun o => decide (num o = num (l.getD i 0))

/-- A FIR set record breaks R113 or R163. -/
def firBad (m : SMap Byte) (o : Nat) : Bool :=
  let h := readNat m o 8
  let taps := bits h 0 9
  let n := if bit h 9 then 2 * taps else taps
  !(inR 1 384 taps) || (bit h 9 && decide (192 < taps)) || decide (readNat m (o + 8 + 2 * n) (firSize m o - 8 - 2 * n) ≠ 0)

/-- A resampler is in use: RESAMPLE, not bypassed. -/
def rsUsed (e : Nat) : Bool := decide (stRate e = 4) && decide (stRsStep e ≠ 0x1000000)

/-- Rule 0x09 FILTER. -/
def checkFilters (m : SMap Byte) : Bad :=
  let f := firOffs m
  let r := rsOffs m
  let set := fun (o : Nat) => bits (readNat m o 8) 16 4
  let bank := fun (o : Nat) => bits (readNat m o 8) 0 4
  badFirst [badAny f.length 7 fun i => repeated set f i || firBad m (f.getD i 0),
    badAny r.length 8 fun i => repeated bank r i,
    (imgValidStreams m).findSome? fun s =>
      let e := imgStream m s
      let mine := f.find? fun o => decide (set o = bits e 92 4)
      badIf ((decide (bits e 10 2 = 2) && (match mine with
          | none => true
          | some o => bit (readNat m o 8) 9 && !(fmtComplex (stInFmt e)))) ||
        (rsUsed e && !(r.any fun o => decide (bank o = bits e 245 4)))) 5 s]

/-! ### Rule 0x0A CAPACITY (R117) -/

/-- c(s). -/
def compCount (e : Nat) : Nat := if fmtComplex (stInFmt e) then 2 else 1

/-- Sum of a load over streams. -/
def loadSum (m : SMap Byte) (l : List Nat) (f : Nat → Rat) : Rat := (l.map fun s => f (imgStream m s)).foldl (· + ·) 0

/-- Input samples per second. -/
def inRate (e : Nat) : Rat := (stNum e : Rat) / (stDen e : Rat)

/-- A limit of R117 is exceeded in profile `p`. -/
def overCapacity (m : SMap Byte) (p : Nat) : Bool :=
  let l := admitted m p
  let c : Rat := (imgProfile m p).cclk * 1000000
  let fir := fun (e : Nat) =>
    let s := imgFir m (bits e 92 4)
    (compCount e * s.taps * (if s.complex then 4 else 1) : Nat) * inRate e
  let rs := fun (e : Nat) => (compCount e * (imgRs m (bits e 245 4)).tpp : Nat) * dlRate e
  decide (128 * c < loadSum m l fun e => compCount e * inRate e) ||
    decide (1536 * c < loadSum m (l.filter fun s => decide (bits (imgStream m s) 10 2 = 2)) fir) ||
    decide (1024 * c < loadSum m (l.filter fun s => rsUsed (imgStream m s)) rs)

/-- Rule 0x0A CAPACITY; the index is the profile's. -/
def checkCapacity (m : SMap Byte) : Bad := badAny (imgProfiles m).length 1 (overCapacity m)

/-! ### Step lengths (R37, R64) -/

/-- Cycles of one repetition. -/
def repCycles (pb : Nat) : Nat :=
  let f := pbFmt pb
  let lanes := lanesOf f
  match pbKernel pb with
  | 1 | 2 => passesOf f * bits pb 16 13
  | 3 => bits pb 40 16 * bits pb 32 8 * ceilDiv (bits pb 20 12) lanes
  | 4 => 16 * bits pb 32 16
  | 5 => fpTaps pb * 2 ^ nLog pb / 16
  | 6 => 2 ^ nLog pb / 8 + (if bits pb 20 3 = 2 then 1 else 0)
  | 7 => bits pb 32 16 * ceilDiv (bits pb 21 11) (if f = 2 then 4 else 16)
  | 8 => 16 * bits pb 24 8 * bits pb 32 16
  | 9 => ceilDiv (bits pb 32 16 * sampleBytes f) 32
  | _ => 1

/-- Pipeline latency of a kernel in cycles. -/
def pipeCycles (pb : Nat) : Nat :=
  match pbKernel pb with
  | 1 | 2 => 20 | 3 => 14 | 4 => 40 | 5 => 10 | 6 => if bits pb 20 3 = 3 then 4 else 8
  | 7 => 16 | 8 => 12 | 9 => 4 | _ => 0

/-- A step and the one after it differ in KERNEL or FMT. -/
def switches (a b : Nat) : Bool := decide (pbKernel a ≠ pbKernel b) || decide (pbFmt a ≠ pbFmt b)

/-- Switches that the checker counts in a run (R37): step 0 pays one, as it does in the first run after a commit, and
so does every step that differs from the one before it. -/
def runSwitches (l : List Nat) : Nat :=
  (List.zipWith (fun a b => b2n (switches a b)) l (l.drop 1)).foldl (· + ·) 1

/-- Cycles of a run of a cell image. -/
def runCycles (m : SMap Byte) (l : Nat) : Nat :=
  let steps := cellSteps (imageCell m l) 32 0
  (steps.map fun x => x.2.1.rep * repCycles x.2.2).foldl (· + ·) 0 + 8 * runSwitches (steps.map (·.2.2))

/-! ### Rule 0x0B CHANNELISER (R128, R130) -/

/-- FP and FT blocks of a cell, PAIR_ROLE cleared. -/
def chanBlocks (c : Cell) : List Nat :=
  ((cellSteps c 32 0).filter fun x => inR 5 6 (pbKernel x.2.2)).map fun x =>
    if pbKernel x.2.2 = 6 then setBit x.2.2 30 false else x.2.2

/-- The FP step of a cell. -/
def fpStep (c : Cell) : Option (Nat × StepEntry × Nat) := (cellSteps c 32 0).find? fun x => decide (pbKernel x.2.2 = 5)

/-- Bytes of the window of an FP block. -/
def windowBytes (pb : Nat) : Nat := (if bit pb 24 then 1 else 2) * fpTaps pb * 2 ^ nLog pb * 3 / 4

/-- Bytes of generator 3 of a step. -/
def agBytes (c : Cell) (se : StepEntry) (n : Nat) : Nat := agRead c (ag3Of c se.agUnit) 0 0 0 n

/-- Window and twiddle table of a channelising cell. -/
def chanTables (c : Cell) : List Nat :=
  ((cellSteps c 32 0).filter fun x => decide (pbKernel x.2.2 = 5) ||
      (decide (pbKernel x.2.2 = 6) && decide (bits x.2.2 20 3 = 2))).map fun x =>
    agBytes c x.2.1 (if pbKernel x.2.2 = 5 then windowBytes x.2.2 else 2 * (2 ^ nLog x.2.2 / 4 + 1))

/-- A cell runs a PAIR step of a role. -/
def hasPair (c : Cell) (role : Nat) : Bool :=
  (cellSteps c 32 0).any fun x => decide (pbKernel x.2.2 = 6) && decide (bits x.2.2 20 3 = 3) &&
    decide (bits x.2.2 30 1 = role)

/-- The role-1 cell to which a role-0 cell copies its transform. -/
def pairPartner (m : SMap Byte) (l : Nat) : Option Nat :=
  let out := ((schedEdges m 0).filter fun x => decide (x.1 = l) && decide (x.2 < 256)).map (·.2)
  out.find? fun x => imgRole m x && hasPair (imageCell m x) 1

/-- Cycles in which the braid copies X[0..M] of a cell of a pair (R128). -/
def copyCycles (c : Cell) : Nat :=
  match fpStep c with
  | some x => if hasPair c 0 || hasPair c 1 then ceilDiv (4 * (2 ^ nLog x.2.2 / 2 + 1)) 32 else 0
  | none => 0

/-- Cycles of one frame: the cell's FP and FT steps, two switches and the pair's copy. -/
def frameCycles (c : Cell) : Nat := ((chanBlocks c).map repCycles).foldl (· + ·) 0 + 16 + copyCycles c

/-- Streams that a cell takes from delay lines in a profile. -/
def cellStreams (m : SMap Byte) (p l : Nat) : List Nat :=
  (((schedEdges m p).filter fun x => decide (x.2 = l) && decide (0x4000 ≤ x.1) && decide (x.1 < 0x8000)).map fun x =>
    x.1 - 0x4000).dedup

/-- R128 and R130 are broken for the channeliser of a cell. -/
def chanBad (m : SMap Byte) (l : Nat) : Bool :=
  let c := imageCell m l
  match fpStep c with
  | none => true
  | some x =>
    let pb := x.2.2
    let n := 2 ^ nLog pb
    let split := (cellStreams m 0 l).any fun s => bit (imgStream m s) 9
    let pair := match pairPartner m l with
      | none => false
      | some k => decide (chanBlocks (imageCell m k) = chanBlocks c) && decide (chanTables (imageCell m k) = chanTables c)
    (split && !(hasPair c 0 && pair)) || (!split && (hasPair c 0 || hasPair c 1)) ||
      ((List.range (imgProfiles m).length).any fun p => (cellStreams m p l).any fun s =>
        decide (((imgProfile m p).cclk * 1000000 * n : Nat) < (frameCycles c : Rat) * dlRate (imgStream m s))) ||
      decide (32768 < windowBytes pb + 2 * (n / 4 + 1)) || decide (65536 < fpTaps pb * n * sampleBytes (pbFmt pb))

/-- Channels that the channeliser of a cell forms: N of a pair, M + 1 of a single cell (R129). -/
def chanCount (m : SMap Byte) (l : Nat) : Nat :=
  let c := imageCell m l
  match fpStep c with
  | none => 0
  | some x => if hasPair c 0 then 2 ^ nLog x.2.2 else 2 ^ nLog x.2.2 / 2 + 1

/-- The kept range of a CHANNELISERS entry is no range of the channels there are (R129, R130). -/
def keepBad (m : SMap Byte) (w : Nat) : Bool :=
  decide (bits w 32 16 < bits w 16 16) || decide (chanCount m (bits w 0 8) ≤ bits w 32 16)

/-! ### Rule 0x0C BEAM (R136, R148, R276) -/

/-- Shortest anchor period of a beat in seconds: block times are whole units of 2^-42 s (R100), and a splice brings
the slots of an INGEST beat nearer by PEN once (R102, R194). -/
def beatPeriod (m : SMap Byte) (x : Nat) : Rat :=
  if bits x 0 2 = 0 then
    let e := imgStream m (bits x 2 12)
    (beatDiv x * 256 * stDen e * 2 ^ 42 / stNum e : Nat) / (2 ^ 42 : Rat) -
      (winPen (imgWindow m (stWin e)) : Rat) / 1000000000
  else (beatDiv x : Rat) / 1024

/-- The same in cycles at a profile's CCLK. -/
def beatCycles (m : SMap Byte) (p x : Nat) : Rat := beatPeriod m x * ((imgProfile m p).cclk * 1000000 : Nat)

/-- Fewer than 72 control-port cycles are free between two consecutive runs of a cell in some profile (R136): from the
end of a run to the next run start. -/
def portCyclesBad (m : SMap Byte) (l : Nat) : Bool :=
  (List.range (imgProfiles m).length).any fun p =>
    decide (beatCycles m p (imgBeat m p (bits (imgRunStart m p l) 0 4)) < (runCycles m l + 72 : Nat))

/-- Detector slots of a FINAL context break R148. -/
def ctxSlotsBad (m : SMap Byte) (w : Nat) : Bool :=
  let c := imageCell m (bits w 152 8)
  let first := bits w 168 11
  let n := bits w 179 4
  match (cellSteps c 32 0).find? fun x => decide (pbKernel x.2.2 = 8) with
  | none => decide (n ≠ 0)
  | some x =>
    let slot := fun (i : Nat) => dtSlot c (ag3Of c x.2.1.agUnit) (first + i)
    decide (bits x.2.2 48 11 < first + n) || (List.range n).any fun i =>
      decide (bits (slot i) 64 8 ≠ bits w 160 8) || (bit (slot i) 75 && (List.range i).any fun j =>
        bit (slot j) 75 && decide (bits (slot j) 58 4 = bits (slot i) 58 4))

/-- R148 is broken for context `i`. -/
def ctxBad (m : SMap Byte) (i : Nat) : Bool :=
  let w := imgContext m i
  let role := bits w 0 2
  let l := bits w 16 8
  let c := imageCell m l
  if role = 0 then false
  else decide (role = 3) || decide (11 < bits w 179 4) || !(inR 1 255 (bits w 120 8)) ||
    ((List.range i).any fun j =>
      let v := imgContext m j
      decide (bits v 0 2 ≠ 0) && decide (bits v 8 21 = bits w 8 21)) ||
    !(imgRole m l) ||
    (match bpStep c (bits w 24 5) with
     | none => true
     | some x => decide (bits x.2.2 32 8 ≤ bits w 8 8) || decide (bits w 48 11 ≠ bits x.2.2 20 12) ||
         decide (bit w 2 ≠ bit x.2.2 19) || decide (bits w 80 16 < bits w 64 16) ||
         decide (bits w 80 16 + 1 - bits w 64 16 ≠ x.2.1.rep)) ||
    (decide (role = 1) && (decide (bits w 112 8 + 1 ≠ bits w 120 8) || decide (imgQCount m ≤ bits w 96 14) ||
      decide (qKind (imgQueue m (bits w 96 14)) ≠ 2) || ctxSlotsBad m w)) ||
    (decide (role = 2) && decide (bits w 112 8 + 1 = bits w 120 8))

/-- NEXT_CTX of a step's beams toward one lane are consecutive (R276). -/
def nextCtxBad (m : SMap Byte) (i : Nat) : Bool :=
  let w := imgContext m i
  decide (bits w 0 2 = 2) && decide (bits w 128 7 ≠ 0x7F) && (List.range (secCount m 10 0 32)).any fun j =>
    let v := imgContext m j
    decide (bits v 0 2 = 2) && decide (ctxTarget v = ctxTarget w) && decide (bits v 128 7 = bits w 128 7) &&
      decide (bits v 136 12 + bits w 8 8 ≠ bits w 136 12 + bits v 8 8)

/-- Rule 0x0C BEAM. -/
def checkBeams (m : SMap Byte) : Bad :=
  let n := secCount m 10 0 32
  badFirst [badAny n 10 (ctxBad m),
    badOver 256 fun l => badIf (imgRole m l && ((cellSteps (imageCell m l) 32 0).any fun x =>
      decide (pbKernel x.2.2 = 3)) && portCyclesBad m l) 2 0,
    badAny n 10 (nextCtxBad m)]

/-! ### Rule 0x0D DUMP (R139, R140, R146) -/

/-- Bytes of a record of a descriptor. -/
def recordBytes (ds : DumpDesc) (xa : Bool) : Nat :=
  16 + (visLanes (!xa && decide (ds.rowBase = ds.colBase))).length * (if ds.wide then 12 else 8)

/-- A DUMPS entry breaks R139, R140 or R146, or names a step that is not XT or XA. -/
def dumpBad (d : Strand) (m : SMap Byte) (i : Nat) : Bool :=
  let w := secEntry m 9 0 24 i
  let ds := dumpDescOf (bits w 64 128)
  let l := bits w 0 8
  match (cellSteps (imageCell m l) 32 0).find? fun x => decide (x.1 = bits w 8 8) with
  | none => true
  | some x =>
    let k := pbKernel x.2.2
    let e := imgQueue m ds.queue
    !(imgRole m l) || !(inR 1 2 k) || (decide (ds.rowBase ≠ ds.colBase) &&
        (decide (k = 2) || decide (ds.colBase < ds.rowBase + 8))) ||
      decide (47 < ds.visShift) || (ds.wide && decide (ds.visShift ≠ 0)) || decide (imgQCount m ≤ ds.queue) ||
      decide (qKind e ≠ 1) || decide (d.outMtu (qOut e) < 48 + ds.nrec * recordBytes ds (decide (k = 2)))

/-- Rule 0x0D DUMP. -/
def checkDumps (d : Strand) (m : SMap Byte) : Bad := badAny (secCount m 9 0 24) 9 (dumpBad d m)

end Sys2Proof.Machine
end

