-- ==== Sys2Proof/Machine/CheckTiming.lean ====
section
/-! DEFINITION. The times that the plan checker computes from a schedule: chains (R116), beats (R194), output ports
(R64, R73), the data's way through the braid (R169, R192), packets and calendars (R224, R225), and the lane in front
of a frame (R288). DEDUCED: the spec names the parts of each sum, and assumption log 9 to 12 say how they are put
together. -/

namespace Sys2Proof.Machine

/-! ### The chain (R116) -/

/-- Header of the FIR set or resampler bank whose number stands at a field; 0 where there is none. -/
def filterHead (m : SMap Byte) (offs : List Nat) (lo v : Nat) : Nat :=
  ((offs.map fun o => readNat m o 8).find? fun h => decide (bits h lo 4 = v)).getD 0

/-- Pipeline latency of a stream's chain in cycles, from the ingest slot to the delay line. -/
def chainCycles (e : Nat) : Nat :=
  let filt := match bits e 10 2 with | 1 => 12 | 2 => 32 | _ => 0
  let rate := match stRate e with | 0 => 0 | 1 => 16 | 2 => 24 | 3 => 32 | _ => if rsUsed e then 20 else 2
  6 + filt + rate + 2 + 12

/-- Signal delay of a stream's chain in input samples. -/
def chainDelay (m : SMap Byte) (e : Nat) : Rat :=
  let stage : Rat := if bit e 15 then (233932 : Rat) / 131072 else 9
  let filt : Rat := match bits e 10 2 with
    | 1 => bits e 88 3
    | 2 => (bits (filterHead m (firOffs m) 16 (bits e 92 4)) 32 32 : Rat) / 256
    | _ => 0
  let rate : Rat := match stRate e with
    | 1 => stage
    | 2 => 3 * stage
    | 3 => 7 * stage
    | 4 => (bits (filterHead m (rsOffs m) 0 (bits e 245 4)) 16 32 : Rat) / 256
    | _ => 0
  filt + rate

/-! ### Beats (R194) -/

/-- The anchors of a beat: their family (the pacer stream, or 4096 for epochs), the family's unit in ns, DIV, and the
time of one anchor. -/
structure Grid where
  fam  : Nat
  unit : Rat
  div  : Nat
  base : Rat
  deriving DecidableEq, Repr

/-- Block period of a stream in ns. -/
def streamBlockNs (e : Nat) : Rat := (256000000000 * stDen e : Nat) / (max (stNum e) 1 : Nat)

/-- Start of an epoch in ns, for its number. -/
def epochStartNs (n : Nat) : Rat := (n * 1953125 : Nat) / 2

/-- Anchors of a beat descriptor. -/
def gridOf (m : SMap Byte) (x : Nat) : Grid :=
  if bits x 0 2 = 0 then
    let e := imgStream m (bits x 2 12)
    let b := streamBlockNs e
    ⟨bits x 2 12, b, beatDiv x,
      epochStartNs (stOrigin e) + (beatPhase x + 1 : Nat) * b + (winLag (imgWindow m (stWin e)) + beatAnchor x : Nat)⟩
  else ⟨4096, epochStartNs 1, beatDiv x, epochStartNs (beatPhase x) + (beatAnchor x : Nat)⟩

/-- Period of a beat in ns. -/
def Grid.per (g : Grid) : Rat := g.unit * (g.div : Nat)

/-- Remainder of a time by a period. -/
def ratMod (a b : Rat) : Rat := if b = 0 then a else a - b * (a / b).floor

/-- The time after which the differences of two beats' instances repeat; none for beats of different families. -/
def commonNs (a b : Grid) : Option Rat := if a.fam = b.fam then some (a.unit * (Nat.gcd a.div b.div : Nat)) else none

/-- Longest wait from a moment of one beat to the next such moment of another; moments are given in ns from the start
of an instance. -/
def gridWait (a : Grid) (ta : Rat) (b : Grid) (tb : Rat) : Rat :=
  match commonNs a b with
  | some g => ratMod (b.base + tb - a.base - ta) g + (min a.per b.per - g)
  | none => min a.per b.per

/-- A span of one beat can meet a span of another; `c` is the time of a cycle, by which a start may be late (R194). -/
def gridMeet (c : Rat) (a : Grid) (ta la : Rat) (b : Grid) (tb lb : Rat) : Bool :=
  match commonNs a b with
  | some g =>
    let x := ratMod (b.base + tb - a.base - ta) g
    decide (x < la + c) || decide (g < x + lb + c)
  | none => true

/-! ### Slot entries (R192, R200, R212) -/

/-- Transit of an entry without the lane's own latencies (R192). -/
def slotTransit (e : Nat) : Nat := 6 + (if slotSrc e < 256 then 2 else 0) + (if slotMcast e ∨ slotDst e < 256 then 2 else 0)

/-- OFFSET. -/
def slotOffset (e : Nat) : Nat := bits e 0 20
/-- TRACK. -/
def slotTrack (e : Nat) : Nat := bits e 20 6

/-- Slot entries of beat `b`. -/
def beatSlots (m : SMap Byte) (p b : Nat) : List Nat :=
  let x := imgBeat m p b
  (List.range (beatEntries x)).map fun i => imgSlot m p (bits x 208 32 + i)

/-- A slot entry with its beat and its place in it. -/
structure Arc where
  beat : Nat
  pos  : Nat
  e    : Nat
  deriving DecidableEq, Repr

/-- What the checker looks at in one profile: the image, the profile, the time of a cycle in ns, the beats, the
entries, and the edges of the schedule that close no circle. -/
structure Sched where
  m     : SMap Byte
  p     : Nat
  cyc   : Rat
  grids : List Grid
  arcs  : List Arc
  feeds : List (Nat × Nat)

/-- The schedule of a profile. -/
def schedOf (m : SMap Byte) (p : Nat) : Sched :=
  let es := schedEdges m p
  let back := fun (x : Nat × Nat) => (reachFrom es 1024 [x.2]).contains x.1
  ⟨m, p, 1000 / (max (imgProfile m p).cclk 1 : Nat), (List.range (schedBeats m p)).map fun b => gridOf m (imgBeat m p b),
    (List.range (schedBeats m p)).flatMap fun b => (beatSlots m p b).zipIdx.map fun x => ⟨b, x.2, x.1⟩,
    es.dedup.filter fun x => !(back x)⟩

/-- Anchors of a beat. -/
def Sched.grid (s : Sched) (b : Nat) : Grid := s.grids.getD b ⟨4096, 0, 0, 0⟩

/-- ns of some cycles. -/
def Sched.ns (s : Sched) (n : Nat) : Rat := s.cyc * (n : Rat)

/-- Whole cycles in a beat's period. -/
def Sched.period (s : Sched) (b : Nat) : Nat := max 1 ((s.grid b).per / s.cyc).floor.toNat

/-- End of an entry's slot in cycles from the start of an instance. -/
def Arc.fin (a : Arc) : Nat := slotOffset a.e + slotWords a.e

/-- The store access descriptor at a port; 0 for another port. -/
def Sched.desc (s : Sched) (port : Nat) : Nat := if 0x200 ≤ port ∧ port < 0x300 then imgDesc s.m s.p (port - 0x200) else 0

/-- Words that entries of a beat before some place take from the source of an entry. -/
def Sched.before (s : Sched) (a : Arc) : Nat :=
  ((s.arcs.filter fun x => decide (x.beat = a.beat) && decide (x.pos < a.pos) && decide (slotSrc x.e = slotSrc a.e)).map
    fun x => slotWords x.e).foldl (· + ·) 0

/-- Words per instance that the entries of a beat take from the source of an entry. -/
def Sched.perInst (s : Sched) (a : Arc) : Nat :=
  ((s.arcs.filter fun x => decide (x.beat = a.beat) && decide (slotSrc x.e = slotSrc a.e)).map
    fun x => slotWords x.e).foldl (· + ·) 0

/-! ### Runs and output ports (R36, R37, R64, R73) -/

/-- First cycles of steps, the first of them at cycle `t` (R37). -/
def stepStarts : Nat → List (Nat × StepEntry × Nat) → List Nat
  | _, [] => []
  | t, x :: l =>
    t :: stepStarts (t + x.2.1.rep * repCycles x.2.2 +
      8 * b2n (match l with | [] => false | y :: _ => switches x.2.2 y.2.2)) l

/-- What a step gives the output port: its first cycle, repetitions and their cycles, words of each, the latency of
R64, and the runs from one dump to the next (0 for what leaves as it is computed). -/
structure PortSeg where
  start : Nat
  reps  : Nat
  rc    : Nat
  wpr   : Nat
  lat   : Nat
  runs  : Nat
  deriving DecidableEq, Repr

/-- Bytes that one repetition of a step gives the output port, but for a dump. -/
def repBytes (m : SMap Byte) (l : Nat) (c : Cell) (pb : Nat) : Nat :=
  match pbKernel pb with
  | 3 => 16 * (bits pb 40 16 * bits pb 32 8)
  | 4 => 132 * bits pb 32 16
  | 6 => if bits pb 20 3 < 2 then 0 else (keptChannels c m l pb).2.2 * (ftChannels pb).2.2
  | 7 => bits pb 32 16 * bits pb 21 11 * sampleBytes (pbOfmt pb)
  | 9 => if bits pb 16 3 = 1 then 0 else bits pb 32 16 * sampleBytes (pbFmt pb)
  | _ => 0

/-- A logical cell's run: its beat, its first cycle, the steps with their first cycles, and what the port gives. -/
structure Run where
  beat  : Nat
  start : Nat
  steps : List ((Nat × StepEntry × Nat) × Nat)
  port  : List PortSeg

/-- The run of a logical cell that begins with a switch of `sw` cycles. -/
def cellRun (m : SMap Byte) (p l sw : Nat) : Run :=
  let c := imageCell m l
  let r := imgRunStart m p l
  let steps := cellSteps c 32 0
  let timed := steps.zip (stepStarts (bits r 16 20 + sw) steps)
  ⟨bits r 0 4, bits r 16 20, timed, timed.filterMap fun x =>
    let pb := x.1.2.2
    let dump := if inR 1 2 (pbKernel pb) then imgDump m l x.1.1 else none
    let words := match dump with
      | some ds => ceilDiv (recordBytes ds (decide (pbKernel pb = 2))) 32
      | none => ceilDiv (repBytes m l c pb) 32
    if words = 0 then none
    else some ⟨x.2, x.1.2.1.rep, repCycles pb, words, pipeCycles pb, (dump.map (·.intRuns)).getD 0⟩⟩

/-- Words of a port in a run. -/
def portWords (l : List PortSeg) : Nat := (l.map fun s => s.reps * s.wpr).foldl (· + ·) 0

/-- Cycle at which word `k` of a run stands at the output port: results leave evenly as the repetition computes them,
and a dump's words stand there from its hand-over (R64, R73). -/
def wordReady : List PortSeg → Nat → Nat
  | [], _ => 0
  | s :: r, k =>
    if k < s.reps * s.wpr then
      s.start + k / s.wpr * s.rc + s.lat + (if s.runs = 0 then ceilDiv ((k % s.wpr + 1) * s.rc) s.wpr else s.rc)
    else wordReady r (k - s.reps * s.wpr)

/-- Cycle after a run's last result. -/
def Run.fin (r : Run) : Nat :=
  (r.steps.map fun x => x.2 + x.1.2.1.rep * repCycles x.1.2.2 + pipeCycles x.1.2.2).foldl max r.start

/-- Instances by which the slots of a cell's port stand behind the run whose words they take, where they stand in its
beat: the port gives its words in order, so one number serves all slots. -/
def Sched.shift (s : Sched) (r : Run) (l : Nat) : Nat :=
  let total := max 1 (portWords r.port)
  let per := s.period r.beat
  ((s.arcs.filter fun a => decide (a.beat = r.beat) && decide (slotSrc a.e = l)).map fun a =>
    let c := s.before a
    let n := slotWords a.e
    max (ceilDiv (wordReady r.port (c % total) - slotOffset a.e) per)
      (ceilDiv (wordReady r.port ((c + n - 1) % total) - (a.fin - 1)) per)).foldl max 0

/-- ns from the start of a cell's run to the end of an entry's slot that takes its words. -/
def Sched.portNs (s : Sched) (r : Run) (l : Nat) (a : Arc) : Rat :=
  if a.beat = r.beat then s.ns (a.fin + s.shift r l * s.period r.beat - r.start)
  else s.ns (r.fin - r.start + slotWords a.e) +
    gridWait (s.grid r.beat) (s.ns r.fin) (s.grid a.beat) (s.ns (slotOffset a.e))

/-! ### Delayed samples (R118, R213) -/

/-- Newest input sample on which a sample of a delay line rests (R116). -/
def newestInput (m : SMap Byte) (e : Nat) (n : Int) : Int :=
  ((n : Rat) * inRate e / dlRate e + chainDelay m e).ceil

/-- Samples by which an instance of a DELAY descriptor moves through the blocks: what its places in a block have in
common. -/
def blockStep (e adv : Nat) : Nat :=
  let x : Rat := (adv : Rat) * inRate e / dlRate e
  if x.den = 1 then Nat.gcd x.num.toNat 256 else 1

/-- Ingest slot in ns of the block that holds an input sample, over all instances of a DELAY descriptor: the earliest,
or the latest. -/
def ingestNs (m : SMap Byte) (e adv : Nat) (x : Int) (late : Bool) : Rat :=
  let g := blockStep e adv
  let fin : Int := x - x % (g : Int) + (if late then 256 else g)
  epochStartNs (stOrigin e) + (fin : Rat) * streamBlockNs e / 256 + (winLag (imgWindow m (stWin e)) : Nat)

/-- Samples in a word that a DELAY descriptor sends: a SPLIT stream sends a cell one component (R118). -/
def wordSamples (a : Arc) (e : Nat) : Nat :=
  (if bit e 9 && (slotMcast a.e || decide (slotDst a.e < 256)) then 64 else 32) / max (outBytes (stOutFmt e)) 1

/-- Number, in instance 0, of the last sample of word `w` of an entry whose source is a DELAY descriptor. -/
def Sched.lastSample (s : Sched) (a : Arc) (w : Nat) : Int :=
  let x := s.desc (slotSrc a.e)
  toSigned 64 (bits x 32 64) + ((s.before a + w + 1) * wordSamples a (imgStream s.m (bits x 16 12)) : Nat) - 1

/-- Time in ns by which a splice can bring a beat nearer to a stream's ingest slots: PEN of the pacer's window, less
that of the stream's where every splice of the first is one of the second (R102). -/
def penGap (m : SMap Byte) (x e : Nat) : Nat :=
  if bits x 0 2 = 0 then
    let a := imgWindow m (stWin (imgStream m (bits x 2 12)))
    let b := imgWindow m (stWin e)
    winPen a - (if winMask a &&& winMask b = winMask a then winPen b else 0)
  else 0

/-- Every word of an entry whose source is a DELAY descriptor stands in the delay line before its slot (R201 item 7).
An EPOCH beat has no fixed place among the blocks. -/
def Sched.delayHeld (s : Sched) (a : Arc) : Bool :=
  let x := s.desc (slotSrc a.e)
  let e := imgStream s.m (bits x 16 12)
  let b := imgBeat s.m s.p a.beat
  decide (bits b 0 2 ≠ 0) || (List.range (slotWords a.e)).all fun w =>
    decide (ingestNs s.m e (bits x 96 32) (newestInput s.m e (s.lastSample a w)) true + s.ns (chainCycles e) + (penGap s.m b e : Nat) ≤
      (s.grid a.beat).base + s.ns (slotOffset a.e + w))

/-! ### The way through the braid (R169) -/

/-- What has reached a place: ns since the ingest slot of the last block that it holds, the time that the closed
groups of samples before it span, that of the present group, and the time between two samples, all in ns. -/
structure Flow where
  ns   : Rat
  done : Rat
  grp  : Rat
  tau  : Rat
  deriving DecidableEq, Repr

/-- The longer of two ways. -/
def Flow.join (a b : Flow) : Flow := ⟨max a.ns b.ns, max a.done b.done, max a.grp b.grp, max a.tau b.tau⟩

/-- The longest of several ways; none where there is none. -/
def flowMax (l : List (Option Flow)) : Option Flow :=
  l.foldl (fun a b => match a, b with
    | some x, some y => some (x.join y)
    | none, y => y
    | x, none => x) none

/-- A group of `n` samples. -/
def Flow.group (f : Flow) (n : Nat) : Flow := { f with grp := max f.grp (f.tau * (n : Nat)) }

/-- The way as a cell's step joins samples: a channeliser frame ends a group and begins the samples of a channel. -/
def stepFlow (m : SMap Byte) (l : Nat) (perNs : Rat) (f : Flow) (x : Nat × StepEntry × Nat) : Flow :=
  let pb := x.2.2
  match pbKernel pb with
  | 1 | 2 => f.group (bits pb 16 13 * ((imgDump m l x.1).map (·.intRuns)).getD 1)
  | 3 =>
    let f := if f.tau = 0 then { f with tau := perNs / (max (bits pb 40 16) 1 : Nat) } else f
    f.group (bits pb 40 16)
  | 4 | 8 => f.group (64 * bits pb 32 16)
  | 5 =>
    let n := 2 ^ nLog pb
    { (f.group n) with done := f.done + (f.group n).grp, grp := 0, tau := f.tau * (n : Nat) }
  | 7 => f.group (bits pb 32 16)
  | _ => f

/-- Whether the edge from a node to a node is one that closes no circle. -/
def Sched.feedsTo (s : Sched) (a : Arc) (node : Nat) : Bool :=
  (slotTo s.m s.p a.e).contains node && (match slotFrom s.m s.p a.e with | none => false | some x => s.feeds.contains (x, node))

/-- The way to the start of a cell's run, given the ways to the ends of the entries. -/
def Sched.runFlow (s : Sched) (l : Nat) (val : List (Arc × Option Flow)) : Option Flow :=
  let r := imgRunStart s.m s.p l
  let g := s.grid (bits r 0 4)
  (flowMax ((val.filter fun v => s.feedsTo v.1 l).map fun v => v.2.map fun f =>
    { f with ns := f.ns + gridWait (s.grid v.1.beat) (s.ns (v.1.fin + slotTransit v.1.e)) g (s.ns (bits r 16 20)) })).map fun f =>
      (cellSteps (imageCell s.m l) 32 0).foldl (stepFlow s.m l g.per) f

/-- Instances between the write of a word of a RING descriptor and its read by another. -/
def ringLag (m : SMap Byte) (w r : Nat) : Nat :=
  let len := max 1 (((imgRegion m 5 (bits r 16 8)).map (·.len)).getD 0)
  ceilDiv ((bits w 32 32 + len - bits r 32 32 % len) % len) (max 1 (bits r 64 32))

/-- The way to the end of an entry's slot from the store region that its descriptor reads (R212, R215): a CT half
leaves in as many instances as its words need. -/
def Sched.storeFlow (s : Sched) (a : Arc) (val : List (Arc × Option Flow)) : Option Flow :=
  let x := s.desc (slotSrc a.e)
  let g := s.grid a.beat
  let node := (if bits x 0 4 = 3 then 0x1000 else 0x2000) + bits x 16 8
  flowMax ((val.filter fun v => s.feedsTo v.1 node).map fun v => v.2.map fun f =>
    let w := s.desc (slotDst v.1.e)
    let wait := gridWait (s.grid v.1.beat) (s.ns (v.1.fin + slotTransit v.1.e)) g (s.ns (slotOffset a.e))
    if bits x 0 4 = 3 then
      let f := f.group (ctNt x * ctNc x)
      let insts := ceilDiv (ceilDiv (ctHalf x) 32) (max 1 (s.perInst a))
      { f with ns := f.ns + wait + s.ns (slotWords a.e) + g.per * (insts - 1 : Nat), tau := f.tau * (ctNc x : Nat) }
    else { f with ns := f.ns + wait + s.ns (slotWords a.e) + g.per * (ringLag s.m w x : Nat) })

/-- The way to the end of an entry's slot; `ss` are the streams and `lane` the lane that count as sources. -/
def Sched.arcFlow (s : Sched) (ss : List Nat) (lane : Option Nat) (val : List (Arc × Option Flow)) (a : Arc) : Option Flow :=
  let src := slotSrc a.e
  let g := s.grid a.beat
  if src < 256 then
    (s.runFlow src val).map fun f => { f with ns := f.ns + s.portNs (cellRun s.m s.p src 8) src a }
  else if src < 0x200 then
    if lane = some (src - 0x100) then some ⟨g.per + s.ns (slotWords a.e), 0, 0, 0⟩ else none
  else if bits (s.desc src) 0 4 = 1 then
    let x := s.desc src
    let n := bits x 16 12
    let e := imgStream s.m n
    if ss.contains n then
      let tau := 1000000000 / dlRate e
      let lag := if g.fam = 4096 then g.per else
        g.base + s.ns a.fin - ingestNs s.m e (bits x 96 32) (newestInput s.m e (s.lastSample a (slotWords a.e - 1))) false
      some ⟨max 0 lag, chainDelay s.m e * streamBlockNs e / 256 + tau * (stDelayMax e : Nat), tau * (bits x 96 32 : Nat), tau⟩
    else none
  else s.storeFlow a val

/-- The ways to the ends of all entries, made longer edge by edge; `fuel` bounds the edges of a way. -/
def Sched.relax (s : Sched) (ss : List Nat) (lane : Option Nat) : Nat → List (Arc × Option Flow) → List (Arc × Option Flow)
  | 0, val => val
  | n + 1, val =>
    let new := val.map fun v => (v.1, s.arcFlow ss lane val v.1)
    if new = val then val else s.relax ss lane n new

/-- The ways to the ends of all entries of a profile, from the streams that it admits. -/
def Sched.flows (s : Sched) : List (Arc × Option Flow) :=
  s.relax (admitted s.m s.p) none 64 (s.arcs.map fun a => (a, none))

/-- The ways from the records of a lane. -/
def Sched.laneFlows (s : Sched) (n : Nat) : List (Arc × Option Flow) :=
  s.relax [] (some n) 64 (s.arcs.map fun a => (a, none))

/-- The way to a queue. -/
def Sched.queueFlow (s : Sched) (q : Nat) (val : List (Arc × Option Flow)) : Option Flow :=
  flowMax ((val.filter fun v => (slotTo s.m s.p v.1.e).contains (0x8000 + q)).map fun v =>
    v.2.map fun f => { f with ns := f.ns + s.ns (slotTransit v.1.e) })

/-- The longest way to the end of a DT step of a cell, as far as the fabric takes its crossings (R451). -/
def Sched.detectFlow (s : Sched) (l : Nat) (val : List (Arc × Option Flow)) : Option Flow :=
  let r := cellRun s.m s.p l 8
  let dts := r.steps.filter fun x => decide (pbKernel x.1.2.2 = 8)
  (s.runFlow l val).map fun f => { f with ns := f.ns + s.ns ((dts.map fun x =>
    x.2 + x.1.2.1.rep * repCycles x.1.2.2 + 13 - r.start).foldl max 0) }

/-! ### Packets and calendars (R146, R151, R224, R225) -/

/-- Contexts whose blocks go to a queue. -/
def queueContexts (m : SMap Byte) (q : Nat) : List Nat :=
  ((List.range (secCount m 10 0 32)).map (imgContext m)).filter fun w => decide (bits w 0 2 = 1) &&
      decide (bits w 96 14 = q)

/-- Units of the trigger fabric that send their messages to a queue. -/
def queueUnits (m : SMap Byte) (q : Nat) : List Nat :=
  ((List.range 64).map (imgUnit m)).filter fun w => bit w 0 && bit w 180 && decide (bits w 184 14 = q)

/-- Packets of one capture of the snap groups of a queue. -/
def queueCapture (m : SMap Byte) (q : Nat) : Nat :=
  (((List.range (snapCount m)).map (imgSnap m)).filter fun x => decide (x.queue = q)).foldl (fun a x =>
    a + x.count * (x.pre + x.post + 1)) 0

/-- Words that a profile's entries bring to a queue in an instance. -/
def Sched.queueWords (s : Sched) (q : Nat) : Nat :=
  ((s.arcs.filter fun a => (slotTo s.m s.p a.e).contains (0x8000 + q)).map fun a => slotWords a.e).foldl (· + ·) 0

/-- Blocks that a BF step gives one context in a run, for the cells whose words reach a queue. -/
def Sched.queueBlocks (s : Sched) (q : Nat) : Nat :=
  ((s.arcs.filter fun a => (slotTo s.m s.p a.e).contains (0x8000 + q) && decide (slotSrc a.e < 256)).flatMap fun a =>
    ((cellSteps (imageCell s.m (slotSrc a.e)) 32 0).filter fun x => decide (pbKernel x.2.2 = 4)).map fun x =>
      bits x.2.2 32 16).foldl max 1

/-- Packets of a queue that can close together (R146, R151, R230, R231, R254). -/
def Sched.burst (s : Sched) (q : Nat) : Nat :=
  let e := imgQueue s.m q
  let bytes := 32 * s.queueWords q
  let ds := ((List.range (secCount s.m 9 0 24)).map (secEntry s.m 9 0 24)).filter fun w => decide (bits w 96 14 = q)
  max 1 (match qKind e with
    | 1 => (ds.map fun w =>
        let y := dumpDescOf (bits w 64 128)
        let pb := (((cellSteps (imageCell s.m (bits w 0 8)) 32 0).find? fun x => decide (x.1 = bits w 8 8)).map
          fun x => (x.2.1.rep, x.2.2)).getD (1, 0)
        ceilDiv pb.1 y.nrec).foldl (· + ·) 0
    | 2 =>
      let nb := s.queueBlocks q
      let most := (queueContexts s.m q).foldl (fun a w => min a (bits w 184 3 + 1)) 8
      ceilDiv (bytes / 132) nb * ceilDiv nb most
    | 3 => (queueUnits s.m q).length
    | 4 => queueCapture s.m q
    | _ => ceilDiv (bytes / 32 * 32) (max 1 (ctBlocks e * blockBytes (bits e 108 4))) + 1)

/-- Period in ns in which a queue's packets close; TRIG and SNAP packets come at any time. -/
def Sched.closePer (s : Sched) (q : Nat) : Rat :=
  (((s.arcs.filter fun a => (slotTo s.m s.p a.e).contains (0x8000 + q)).map fun a => (s.grid a.beat).per).min?).getD 0

/-- Serialisation time of a packet of some bytes on an output, in ns. -/
def Strand.serNs (d : Strand) (o : OutId) (n : Nat) : Nat :=
  if o.kind = 0 then laneSer (d.endRate o.id) (n + 12)
  else if o.kind = 1 then
    let f := d.pendVal (0x3500 + o.id) 1
    let b := n + flowHeaders f + 24
    if bit (d.ethPort (bits f 0 5)) 1 then ceilDiv b 50 else ceilDiv (2 * b) 25
  else if o.kind = 2 then d.hpNs (n + 8)
  else 0

/-- ns that the turns of a calendar take until the `b`-th own turn of a queue begins. -/
def turnsNs (ser : Nat → Nat) (q : Nat) : Nat → List Nat → Nat
  | _, [] => 0
  | b, t :: r => if t = q ∧ b ≤ 1 then 0 else ser t + turnsNs ser q (if t = q then b - 1 else b) r

/-- The longest time from the close of a queue's packets to the first byte of the last of them leaving (R225): every
turn of another queue sends a packet of its MAX_PKT. -/
def queueWaitNs (d : Strand) (m : SMap Byte) (q b : Nat) : Nat :=
  let o := qOut (imgQueue m q)
  match imgCalendar m o with
  | none => 0
  | some c =>
    let ser := fun (t : Nat) => d.serNs o (qMaxPkt (imgQueue m t))
    (List.range c.turns.length).foldl (fun a i =>
      max a (turnsNs ser q b ((c.turns ++ (List.replicate b c.turns).flatten).drop i))) 0

/-- ns from the close of a queue's packets in a profile until the last of them has left. -/
def Sched.drainNs (s : Sched) (d : Strand) (q : Nat) : Nat :=
  let e := imgQueue s.m q
  queueWaitNs d s.m q (s.burst q) + d.serNs (qOut e) (qMaxPkt e)

/-- Pool cells of a packet of a queue. -/
def pktCells (m : SMap Byte) (q : Nat) : Nat := ceilDiv (qMaxPkt (imgQueue m q)) 256

/-- Peak pool cells of a queue in a profile (R225): the packets that close while those before them leave, and the one
under assembly. -/
def Sched.peak (s : Sched) (d : Strand) (q : Nat) : Nat :=
  let per := s.closePer q
  let batches := if per = 0 then 1 else ((s.drainNs d q : Rat) / per).ceil.toNat
  (s.burst q * max 1 batches + 1) * pktCells s.m q

/-! ### The parts of the promised latency (R169, R288) -/

/-- T_DATA of a way: closed groups, and the present one or the time in which a packet fills. -/
def dataNs (f : Flow) (pkt : Rat) : Nat := (f.done + max f.grp pkt).ceil.toNat

/-- Time in which a packet of a queue fills, in ns. -/
def fillNs (m : SMap Byte) (q : Nat) (f : Flow) : Rat :=
  let e := imgQueue m q
  match qKind e with
  | 2 => f.tau * (64 * (queueContexts m q).foldl (fun a w => max a (bits w 184 3 + 1)) 0 : Nat)
  | 5 => (256000000000 * ctBlocks e * bits e 186 16 : Nat) / (max (bits e 202 32) 1 : Nat)
  | _ => 0

/-- Cycles of a time in ns at a profile's CCLK. -/
def Sched.cycles (s : Sched) (ns : Rat) : Nat := (ns / s.cyc).ceil.toNat

/-- ⌈(C + 32) / CCLK⌉ in ns (R169). -/
def Sched.pathNs (s : Sched) (ns : Rat) : Nat := (s.ns (s.cycles ns + 32)).ceil.toNat

/-- T_DATA and the cycles of a queue's data after its windows and before its output, in ns, by the ways given. A TRIG
queue waits for the settle time of its units (R254), a SNAP queue for its capture to leave. -/
def Sched.innerNs (s : Sched) (d : Strand) (q : Nat) (val : List (Arc × Option Flow)) : Nat :=
  let wait : Rat := queueWaitNs d s.m q (s.burst q)
  match qKind (imgQueue s.m q) with
  | 3 => 2 * (queueUnits s.m q).foldl (fun a w => max a (unitSettle w)) 0 + s.pathNs wait
  | 4 => s.pathNs wait
  | _ => match s.queueFlow q val with
    | none => s.pathNs wait
    | some f => dataNs f (fillNs s.m q f) + s.pathNs (f.ns + wait)

/-- Bytes of the frames of a SUM transfer: at most 64 records each (R276). -/
def sumFrames (words : Nat) : Nat := ceilDiv (2 * words) 64

/-- SUM frames that a profile's schedule sends on a lane in a time. -/
def Sched.sumsIn (s : Sched) (n t : Nat) : Nat :=
  (s.arcs.filter fun a => !(slotMcast a.e) && decide (slotDst a.e = 0x100 + n)).foldl (fun x a =>
    let per := (s.grid a.beat).per
    x + sumFrames (slotWords a.e) * (1 + (if per = 0 then 0 else ((t : Rat) / per).floor.toNat))) 0

/-- T_BLOCK made longer by the SUM frames that come while it lasts. -/
def blockFix (base : Nat) (sums : Nat → Nat) : Nat → Nat → Nat
  | 0, t => t
  | n + 1, t => if base + sums t ≤ t then t else blockFix base sums n (base + sums t)

/-- T_BLOCK of a lane or bond in ns (R288): the largest frame of the lane, the SUM frames during the wait, 64 TRIG
frames, one TIME frame with fill up to a codeword, and one IDLE frame. -/
def blockNs (d : Strand) (m : SMap Byte) (q : Nat) : Nat :=
  let n := (qOut (imgQueue m q)).id
  let ser := laneSer (d.endRate n)
  let sum := 16 + 64 * 16 + 12
  let scheds := (List.range (imgProfiles m).length).map (schedOf m)
  let mine := (List.range (imgQCount m)).filter fun x => decide (qKind (imgQueue m x) ≠ 0) &&
      decide (qOut (imgQueue m x) = ⟨0, n⟩)
  let most := mine.foldl (fun a x => max a (qMaxPkt (imgQueue m x) + 12)) (if scheds.any fun s => decide (0 < s.sumsIn n 0) then sum else 0)
  let base := ser most + 64 * ser 44 + ser (44 + 640) + ser 28
  let sums := fun t => ser sum * scheds.foldl (fun a s => max a (s.sumsIn n t)) 0
  blockFix base sums 64 base

end Sys2Proof.Machine
end

