-- ==== Sys2Proof/Machine/CheckSched.lean ====
section
/-! DEFINITION. The plan checker, rules 0x06, 0x0B and 0x0E (R167): tile and dump ownership, channelisers, schedules,
spare routes and cell maps. -/

namespace Sys2Proof.Machine

/-! ### Rule 0x06 OWNERSHIP (R84, R85; assumption log 10) -/

/-- Steps of a cell image that name tiles: XT, XA and BP (R84). -/
def tileSteps (m : SMap Byte) (l : Nat) : List (Nat × StepEntry × Nat) :=
  (cellSteps (imageCell m l) 32 0).filter fun x => inR 1 3 (pbKernel x.2.2)

/-- Tile slots that a step names (R36). -/
def stepTiles (se : StepEntry) : List Nat := (List.range (min 64 se.rep)).map fun r => (se.tile + r) % 64

/-- An XT or XA step whose operations keep their tiles from one run to the next: an integration of several runs
(R141), or no dump at all. -/
def resident (m : SMap Byte) (l : Nat) (x : Nat × StepEntry × Nat) : Bool :=
  decide (pbKernel x.2.2 ≠ 3) && (match imgDump m l x.1 with
    | some ds => decide (ds.intRuns ≠ 1)
    | none => !(bit x.2.2 38))

/-- Two different operations of a cell could own one tile in overlapping intervals: one keeps it across runs and
another names it. Operations that give their tile back within the run follow one another at the latencies of R64,
which keep their intervals apart. -/
def tileOverlap (m : SMap Byte) (l : Nat) : Bool :=
  let steps := tileSteps m l
  steps.any fun x => resident m l x && (decide (64 < x.2.1.rep) ||
    steps.any fun y => decide (y.1 ≠ x.1) && (stepTiles x.2.1).any fun t => (stepTiles y.2.1).contains t)

/-- Hand-overs of a step's repetitions in a run: cycle, words of the record, and runs per integration. A repetition's
last promotion lands 20 cycles after its last operand read (R64), and its hand-over takes the next cycle (R73). -/
def stepDumps (m : SMap Byte) (l : Nat) (x : (Nat × StepEntry × Nat) × Nat) : List (Nat × Nat × Nat) :=
  let pb := x.1.2.2
  if inR 1 2 (pbKernel pb) then
    match imgDump m l x.1.1 with
    | none => []
    | some ds => (List.range x.1.2.1.rep).map fun r =>
        (x.2 + (r + 1) * repCycles pb + 20, ceilDiv (recordBytes ds (decide (pbKernel pb = 2))) 32, ds.intRuns)
  else []

/-- Words that leave a cell's output port before cycle `x`, its slots standing again in every period. -/
def wordsBefore (slots : List (Nat × Nat)) (period x : Nat) : Nat :=
  x / period * (slots.map (·.2)).foldl (· + ·) 0 +
    (slots.map fun s => min s.2 (x % period - s.1)).foldl (· + ·) 0

/-- Entries that take a cell's words. -/
def Sched.portArcs (s : Sched) (l : Nat) : List Arc := s.arcs.filter fun a => decide (slotSrc a.e = l)

/-- Slots of a cell's port between two cycles of its run's beat, in words. Slots in a beat of another rhythm are sure
only once in each of its periods. -/
def Sched.wordsIn (s : Sched) (b l from_ till : Nat) : Nat :=
  let g := s.grid b
  let mine := s.portArcs l
  if mine.all fun a => decide ((s.grid a.beat).fam = g.fam) && decide ((s.grid a.beat).div = g.div) then
    let slots := mine.map fun a =>
      ((ratMod ((s.grid a.beat).base + s.ns (slotOffset a.e) - g.base) g.per / s.cyc).floor.toNat, slotWords a.e)
    wordsBefore slots (s.period b) till - wordsBefore slots (s.period b) from_
  else (mine.map fun a => (s.ns (till - from_) / max (s.grid a.beat).per 1).floor.toNat * slotWords a.e).foldl (· + ·) 0

/-- A DUMP could meet the dump buffer of the one before it (R85). Two steps dump in one run, and as many runs apart as
both their integrations divide (R141); a run starts with a switch or without one (R37). A record has left once the
slots of the port have taken its words, and those of a run that can stand before them (assumption log 10). -/
def Sched.dumpOverlap (s : Sched) (l : Nat) : Bool :=
  let steps := cellSteps (imageCell s.m l) 32 0
  let r := cellRun s.m s.p l 8
  let steady := 8 * b2n (match steps.getLast?, steps.head? with
    | some x, some y => switches x.2.2 y.2.2
    | _, _ => false)
  let dumps := fun (sw : Nat) => (steps.zip (stepStarts (r.start + sw) steps)).map (stepDumps s.m l)
  let pairs := [8, steady].flatMap fun sw =>
    let run := (dumps sw).flatten
    (run.zip (run.drop 1)).map (fun x => (x.1, x.2.1)) ++
      run.flatMap fun a => (dumps steady).filterMap fun s' => match s' with
        | [] => none
        | y :: _ => some (a, Nat.gcd a.2.2 y.2.2 * s.period r.beat + y.1)
  let other := portWords (r.port.filter fun x => decide (x.runs = 0))
  pairs.any fun x => decide (s.wordsIn r.beat l (x.1.1 + 1) x.2 < x.1.2.1 + other)

/-- Profiles of an image with their schedules. -/
def schedsOf (m : SMap Byte) : List Sched := (List.range (imgProfiles m).length).map (schedOf m)

/-- Rule 0x06 OWNERSHIP. -/
def checkOwnership (m : SMap Byte) : Bad :=
  let ss := schedsOf m
  badIf ((List.range 256).any fun l => imgRole m l && (tileOverlap m l || ss.any fun s => s.dumpOverlap l)) 2 0

/-! ### Rule 0x0B CHANNELISER (R128, R130) -/

/-- The transform that a cell of a pair copies to its partner arrives after the partner's PAIR step has begun (R128).
A PAIR step that stands before SPLIT in its list is that of the frame before. -/
def Sched.copyLate (s : Sched) (l k : Nat) : Bool :=
  let rx := cellRun s.m s.p l 8
  let ry := cellRun s.m s.p k 0
  let at_ := fun (stage : Nat) => (ry.steps.find? fun x =>
    decide (pbKernel x.1.2.2 = 6) && decide (bits x.1.2.2 20 3 = stage)).map (·.2)
  match at_ 3, at_ 2 with
  | some pair, some split =>
    let t := (s.grid ry.beat).base + s.ns (pair + (if split < pair then 0 else s.period ry.beat))
    s.arcs.any fun a => decide (slotSrc a.e = l) && (slotTo s.m s.p a.e).contains k &&
      decide (t < (s.grid rx.beat).base + s.ns rx.start + s.portNs rx l a + s.ns (slotTransit a.e))
  | _, _ => false

/-- Rule 0x0B CHANNELISER. -/
def checkChannelisers (m : SMap Byte) : Bad :=
  let ss := schedsOf m
  badAny (secCount m 16 0 8) 16 fun i =>
    let w := secEntry m 16 0 8 i
    let l := bits w 0 8
    chanBad m l || keepBad m w || (match pairPartner m l with
      | none => false
      | some k => ss.any fun s => s.copyLate l k || s.copyLate k l)

/-! ### Rule 0x0E SCHEDULE: entries and beats (R200, R201) -/

/-- Banks that a store access descriptor reaches (R201 item 5): first and last. -/
def descBanks (m : SMap Byte) (x : Nat) : Nat × Nat :=
  match bits x 0 4 with
  | 1 =>
    let e := imgStream m (bits x 16 12)
    (stDlBase e / 2 ^ 24, (stDlBase e + dlLen e * outBytes (stOutFmt e) - 1) / 2 ^ 24)
  | 4 =>
    let r := imgRegion m 5 (bits x 16 8)
    ((r.map (·.base)).getD 0 / 2 ^ 24, ((r.map fun r => r.base + r.len - 1).getD 0) / 2 ^ 24)
  | _ => (regionBase m 2 x / 2 ^ 24, (regionBase m 2 x + 2 * ctHalf x - 1) / 2 ^ 24)

/-- Descriptors that an entry names. -/
def slotDescs (e : Nat) : List Nat :=
  (if 0x200 ≤ slotSrc e ∧ slotSrc e < 0x300 then [slotSrc e - 0x200] else []) ++
    (if slotMcast e = false ∧ 0x200 ≤ slotDst e ∧ slotDst e < 0x300 then [slotDst e - 0x200] else [])

/-- Logical cells that an entry names. -/
def slotCells (m : SMap Byte) (p e : Nat) : List Nat :=
  (if slotSrc e < 256 then [slotSrc e] else []) ++
    (if slotMcast e then (List.range 256).filter fun l => bit (imgGroup m p (slotDst e)) l
     else if slotDst e < 256 then [slotDst e] else [])

/-- A port number that R190 lists, in its place; a lane port names an Agush endpoint that no bond hides (R280). -/
def portOk (d : Strand) (m : SMap Byte) (p : Nat) (dst : Bool) (n : Nat) : Bool :=
  if n < 256 then true
  else if n ≤ 0x17E then d.agushEnd (n - 0x100)
  else if 0x200 ≤ n ∧ n < 0x300 then decide (n - 0x200 < schedDescs m p)
  else dst && decide (n = 0x300)

/-- A slot entry names a reserved port, track or field, or a descriptor that does not serve its direction. -/
def slotBad (d : Strand) (m : SMap Byte) (p : Nat) (x e : Nat) : Bool :=
  let dk := fun (n : Nat) => bits (imgDesc m p (n - 0x200)) 0 4
  !(portOk d m p false (slotSrc e)) || !(bit (bits x 128 64) (slotTrack e)) ||
    (if slotMcast e then decide (schedGroups m p ≤ slotDst e) else !(portOk d m p true (slotDst e))) ||
    (decide (0x200 ≤ slotSrc e) && !([1, 3, 4].contains (dk (slotSrc e)))) ||
    (!(slotMcast e) && decide (0x200 ≤ slotDst e) && decide (slotDst e < 0x300) && (!([2, 4].contains (dk (slotDst e))) ||
      (decide (dk (slotDst e) = 2) && !(decide (0x200 ≤ slotSrc e) && decide (dk (slotSrc e) = 1))))) ||
    (if slotMcast e = false ∧ slotDst e = 0x300 then decide (qKind (imgQueue m (slotQueue e)) = 0)
     else decide (slotQueue e ≠ 0)) ||
    decide (bits e 80 16 ≠ 0) ||
    (slotDescs e).any fun n =>
      let b := descBanks m (imgDesc m p n)
      (List.range (b.2 + 1 - b.1)).any fun i => !(bit (bits x 192 16) (b.1 + i))

/-- Order of a beat's entries: ascending OFFSET. -/
def ascending : List Nat → Bool
  | a :: b :: r => decide (slotOffset a ≤ slotOffset b) && ascending (b :: r)
  | _ => true

/-- Logical cells whose run-start entries stand in a beat (R195). -/
def beatStarts (m : SMap Byte) (p b : Nat) : List Nat :=
  (List.range 256).filter fun l => imgRole m l && decide (bits (imgRunStart m p l) 0 4 = b)

/-- A beat descriptor or its entries break R199 or R201 items 1 to 6. -/
def beatBad (m : SMap Byte) (p b : Nat) : Bool :=
  let x := imgBeat m p b
  let slots := beatSlots m p b
  let ingest := decide (bits x 0 2 = 0)
  let e := imgStream m (bits x 2 12)
  decide (1 < bits x 0 2) || decide (beatDiv x = 0) || decide (beatDiv x ≤ beatPhase x) || (ingest && !(stValid e)) ||
    decide (readNat m (schedOff m p + 4) 4 < bits x 208 32 + beatEntries x) || !(ascending slots) ||
    decide (beatCycles m p x < (bits x 96 20 + 1 : Nat)) ||
    (slots.any fun s => decide (bits x 96 20 < slotOffset s + slotWords s)) ||
    (List.range b).any (fun c =>
      let y := imgBeat m p c
      decide (bits x 128 64 &&& bits y 128 64 ≠ 0) || decide (bits x 192 16 &&& bits y 192 16 ≠ 0) ||
        slots.any fun s => (beatSlots m p c).any fun t =>
          ((slotCells m p s).any fun l => (slotCells m p t).contains l) ||
            (slotDescs s).any fun n => (slotDescs t).contains n) ||
    (ingest && (slots.flatMap (slotCells m p) ++ beatStarts m p b).any fun l =>
      !(bit (winMask (imgWindow m (stWin e))) (l / 32)))

/-- A descriptor breaks R212, R213 or R214; `x` is the beat that names it. -/
def descBad (m : SMap Byte) (x w : Nat) : Bool :=
  match bits w 0 4 with
  | 1 =>
    let e := imgStream m (bits w 16 12)
    let f := imgStream m (bits x 2 12)
    !(stValid e) || (decide (bits x 0 2 = 0) &&
      decide ((bits w 96 32 : Rat) * inRate f ≠ (beatDiv x * 256 : Nat) * dlRate e))
  | 2 | 3 =>
    !([1, 2, 4].contains (ctE w)) || decide (ctNi w % ctW w ≠ 0) || decide (ctNc w % ctW w ≠ 0) || decide (ctNt w = 0) ||
      (match imgRegion m 2 (bits w 16 8) with | none => true | some r => decide (r.len < 2 * ctHalf w))
  | 4 => (imgRegion m 5 (bits w 16 8)).isNone || decide (bits w 32 32 % 32 ≠ 0) || decide (bits w 64 32 % 32 ≠ 0)
  | _ => true

/-- The beat of a schedule that names a descriptor. -/
def descBeat (m : SMap Byte) (p n : Nat) : Option Nat :=
  (List.range (schedBeats m p)).find? fun b => (beatSlots m p b).any fun e => (slotDescs e).contains n

/-- A run-start entry breaks R195, R200 or R201 item 8. -/
def runStartBad (m : SMap Byte) (p l : Nat) : Bool :=
  let r := imgRunStart m p l
  if imgRole m l then
    decide (schedBeats m p ≤ bits r 0 4) ||
      decide (beatCycles m p (imgBeat m p (bits r 0 4)) < (runCycles m l : Rat))
  else decide (r ≠ 0)

/-! ### Spare routes (R202, R203) -/

/-- LENGTHEN as the checker computes it; none where REPLACES names no entry of the cell's beat. -/
def routeLengthen (m : SMap Byte) (p o : Nat) : Option Nat :=
  let h := readNat m o 16
  let l := bits h 0 8
  let r := imgRunStart m p l
  let base := beatSlots m p (bits r 0 4)
  let fin := fun (e : Nat) => slotOffset e + slotWords e + slotTransit e
  (List.range (bits h 16 16)).foldl (fun a i => a.bind fun n =>
    let e := readNat m (o + 16 + 16 * i) 16
    (base[bits e 80 16]?).map fun y => max n (fin e - fin y)) (some (bits h 32 20 - bits r 16 20))

/-- A route record breaks R202 or R203. -/
def routeBad (m : SMap Byte) (p o : Nat) : Bool :=
  let h := readNat m o 16
  !(imgRole m (bits h 0 8)) || decide (64 < bits h 96 7) || decide (routeLengthen m p o ≠ some (bits h 64 20))

/-- A LINKS entry breaks R280 or R281: its lane is Agush in fixed-latency mode and no bond's member. -/
def linkBadAt (d : Strand) (m : SMap Byte) (i : Nat) : Bool :=
  let n := bits (secEntry m 14 0 16 i) 16 7
  !(d.agushEnd n) || (d.endLanes n).any fun l => !(d.fixedLat l)

/-! ### Cell maps within a reserve (R158, R179) -/

/-- The current map. -/
def Strand.cellMap (d : Strand) : List Nat := (List.range 256).map d.physOf

/-- BASE_MAP_CRC of a map (R158). -/
def mapCrc (l : List Nat) : Nat := crc32 (l.flatMap (natToBytes 2))

/-- Free spares of a domain under a map, position 32 first: not in the map and not FAILED. -/
def freeSpares (d : Strand) (base : List Nat) (dom : Nat) : List Nat :=
  [34 * dom + 32, 34 * dom + 33].filter fun p => !(base.contains p) && decide (d.get (0x5100 + p) 0x01 ≠ 4)

/-- The reserve of an image in a domain: splices it allows. -/
def reserveOf (d : Strand) (m : SMap Byte) (base : List Nat) (dom : Nat) : Nat :=
  min (if bit (imgFlags m) 2 then 2 else 1) (freeSpares d base dom).length

/-- Logical cells with a role in a domain. -/
def roleCells (m : SMap Byte) (base : List Nat) (dom : Nat) : List Nat :=
  (List.range 256).filter fun l => imgRole m l && decide (base.getD l 0xFFFF ≠ 0xFFFF) &&
    decide (base.getD l 0xFFFF / 34 = dom)

/-- Combinations of splices within the reserve of a domain, as changes of the map. -/
def reserveOpts (d : Strand) (m : SMap Byte) (base : List Nat) (dom : Nat) : List (List (Nat × Nat)) :=
  let f := freeSpares d base dom
  let r := reserveOf d m base dom
  let role := roleCells m base dom
  let a := f.getD 0 0xFFFF
  let b := f.getD 1 0xFFFF
  [] :: (if r = 0 then [] else role.map fun l => [(l, a)]) ++
    (if r < 2 then [] else role.flatMap fun l => role.map fun k => if k = l then [(l, b)] else [(l, a), (k, b)])

/-- A map with changes. -/
def mapWith (base : List Nat) (l : List (Nat × Nat)) : List Nat := l.foldl (fun b x => b.set x.1 x.2) base

/-- A map is one that the reserve over a base map covers. -/
def covers (d : Strand) (m : SMap Byte) (base cur : List Nat) : Bool :=
  (List.range 8).all fun dom => (reserveOpts d m base dom).any fun o =>
    let x := mapWith base o
    (List.range 32).all fun i => decide (x.getD (32 * dom + i) 0 = cur.getD (32 * dom + i) 0)

/-- Changes that undo up to two splices of a domain: each spliced cell back to a position that the map leaves. -/
def undoOpts (cur : List Nat) (dom : Nat) : List (List (Nat × Nat)) :=
  let on := (List.range 256).filter fun l => decide (cur.getD l 0 = 34 * dom + 32) || decide (cur.getD l 0 = 34 * dom + 33)
  let holes := ((List.range 34).map (34 * dom + ·)).filter fun p => !(cur.contains p)
  [] :: (on.flatMap fun l => holes.map fun p => [(l, p)]) ++
    on.flatMap fun l => on.flatMap fun k => holes.flatMap fun p => holes.filterMap fun q =>
      if l < k ∧ p ≠ q then some [(l, p), (k, q)] else none

/-- Maps from which splices within two per domain lead to the current one. -/
def baseCandidates (cur : List Nat) : List (List Nat) :=
  (List.range 8).foldl (fun l dom => l.flatMap fun b => (undoOpts cur dom).map (mapWith b)) [cur]

/-- The base map of an image: the map that BASE_MAP_CRC names and whose reserve covers the current one. -/
def baseOf (d : Strand) (m : SMap Byte) : Option (List Nat) :=
  let cur := d.cellMap
  (baseCandidates cur).find? fun b => decide (mapCrc b = readNat m 24 4) && covers d m b cur

/-! ### Rule 0x0E SCHEDULE: words in one cycle (R190, R191, R201, R203) -/

/-- An entry as it runs under some splice: with the cell that a route puts on a spare, the route that it needs, and
the routes under which it does not run. -/
structure Variant where
  arc  : Arc
  pos  : Option (Nat × Nat)
  need : Option Nat
  gone : List Nat

/-- Routes that the reserve allows (R203), with the logical cell and the spare's physical number. -/
def allowedRoutes (d : Strand) (s : Sched) : List (Nat × Nat × Nat) :=
  let base := (baseOf d s.m).getD d.cellMap
  (routeOffs s.m s.p).filterMap fun o =>
    let h := readNat s.m o 16
    let l := bits h 0 8
    let dom := base.getD l 0xFFFF / 34
    let q := 34 * dom + 32 + bits h 8 1
    if ((freeSpares d base dom).take (reserveOf d s.m base dom)).contains q then some (o, l, q) else none

/-- Entries of a profile under every route: an entry that names a spliced cell runs with its spare's junction lane,
and a route entry in the place of the one it replaces (R202). -/
def Sched.variants (s : Sched) (routes : List (Nat × Nat × Nat)) : List Variant :=
  let beat := fun (l : Nat) => bits (imgRunStart s.m s.p l) 0 4
  let hit := fun (a : Arc) (r : Nat × Nat × Nat) => decide (a.beat = beat r.2.1) && (routeEntry s.m r.1 a.pos).isSome
  let names := fun (a : Arc) (r : Nat × Nat × Nat) => (slotCells s.m s.p a.e).contains r.2.1
  (s.arcs.map fun a => ⟨a, none, none, (routes.filter fun r => hit a r || names a r).map (·.1)⟩) ++
    routes.flatMap fun r => s.arcs.filterMap fun a =>
      if hit a r then some ⟨{ a with e := (routeEntry s.m r.1 a.pos).getD a.e }, some r.2, some r.1, []⟩
      else if names a r then some ⟨a, some r.2, some r.1, (routes.filter fun x => hit a x).map (·.1)⟩
      else none

/-- Words on a track, at a port or on a junction lane: key, first cycle and length. -/
structure Use where
  key : Nat
  at_ : Nat
  len : Nat
  var : Variant

/-- Tracks, ports and junction lanes that an entry uses (R201 items 2 to 4): a multicast word takes a lane once for
all cells of a domain that share it. -/
def Sched.uses (s : Sched) (d : Strand) (v : Variant) : List Use :=
  let e := v.arc.e
  let n := slotWords e
  let phys := fun (l : Nat) => match v.pos with
    | some x => if x.1 = l then x.2 else d.physOf l
    | none => d.physOf l
  let lane := fun (l : Nat) => 8 * (phys l / 34) + phys l % 34 % 8
  let dst := if slotMcast e then (List.range 256).filter fun l => bit (imgGroup s.m s.p (slotDst e)) l else [slotDst e]
  let o := slotOffset e
  [⟨slotTrack e, o, n, v⟩, ⟨0x1000 + slotSrc e, o, n, v⟩] ++
    (if slotSrc e < 256 then [⟨0x3000 + lane (slotSrc e), o, n, v⟩] else []) ++
    (dst.map fun t => ⟨0x2000 + t, o + slotTransit e, n, v⟩) ++
    (((dst.filter fun t => decide (t < 256)).map lane).dedup.map fun k => ⟨0x4000 + k, o + slotTransit e, n, v⟩)

/-- Two entries run under one combination of splices: the reserve of a domain allows one, or two of different cells to
different spares (R203). -/
def together (d : Strand) (m : SMap Byte) (x y : Variant) : Bool :=
  !(x.gone.any fun o => y.need = some o) && !(y.gone.any fun o => x.need = some o) &&
    (match x.need, y.need with
     | some a, some b => decide (a = b) || (match x.pos, y.pos with
       | some p, some q => decide (p.2 / 34 ≠ q.2 / 34) ||
           (decide (p.1 ≠ q.1) && decide (p.2 ≠ q.2) &&
             decide (2 ≤ reserveOf d m ((baseOf d m).getD d.cellMap) (p.2 / 34)))
       | _, _ => true)
     | _, _ => true)

/-- Two spans of a beat of some period share a cycle, instance after instance. -/
def spansMeet (per a la b lb : Nat) : Bool :=
  let x := (b % per + per - a % per) % per
  decide (x < la) || decide (per < x + lb)

/-- Two uses of one thing fall into one cycle. -/
def Sched.usesMeet (s : Sched) (x y : Use) : Bool :=
  let a := x.var.arc.beat
  let b := y.var.arc.beat
  if a = b then spansMeet (s.period a) x.at_ x.len y.at_ y.len
  else gridMeet s.cyc (s.grid a) (s.ns x.at_) (s.ns x.len) (s.grid b) (s.ns y.at_) (s.ns y.len)

/-- Some two words use one track, port or junction lane in one cycle, under a combination of routes that the reserve
allows. -/
def Sched.clash (s : Sched) (d : Strand) : Bool :=
  let us := (s.variants (allowedRoutes d s)).flatMap (s.uses d)
  us.zipIdx.any fun x => (us.drop (x.2 + 1)).any fun y =>
    decide (y.key = x.1.key) && decide (y.var.arc ≠ x.1.var.arc) && together d s.m x.1.var y.var && s.usesMeet x.1 y

/-! ### Rule 0x0E SCHEDULE: bank ports (R193, R201 item 5) -/

/-- An access of an entry to a bank port: its entry, the descriptor, and the first cycle. -/
structure Access where
  arc  : Arc
  desc : Nat
  at_  : Nat

/-- Store accesses of an entry. -/
def Sched.accesses (s : Sched) (a : Arc) : List Access :=
  (if 0x200 ≤ slotSrc a.e then [⟨a, s.desc (slotSrc a.e), slotOffset a.e⟩] else []) ++
    (if !(slotMcast a.e) && decide (0x200 ≤ slotDst a.e) && decide (slotDst a.e < 0x300) then
      [⟨a, s.desc (slotDst a.e), slotOffset a.e + slotTransit a.e⟩] else [])

/-- Byte offsets in a half of a CT region that an entry's words write: those of its channel groups, where the
descriptor's instances keep to whole channel samples, else all. -/
def Sched.writeSpan (s : Sched) (a : Arc) (x : Nat) : Nat × Nat :=
  let src := s.desc (slotSrc a.e)
  let w := ctW x
  let chan := fun (i : Nat) => ((toSigned 64 (bits src 32 64) + ((s.before a + i) * w : Nat)) % (max (ctNc x) 1 : Nat)).toNat / w * w
  let cs := (List.range (slotWords a.e)).map chan
  if bits src 96 32 % max (ctNc x) 1 = 0 then
    (cs.foldl min (ctNc x) * ctNt x * ctNi x * ctE x, (cs.foldl max 0 + w) * ctNt x * ctNi x * ctE x - 1)
  else (0, ctHalf x - 1)

/-- A CT_WRITE and a CT_READ of one region reach one bank while the one half fills and the other is read. The read
goes through its half from the first instance after the half is whole (R215). -/
def Sched.halvesMeet (s : Sched) (w r : Access) : Bool :=
  let x := w.desc
  let adv := bits (s.desc (slotSrc w.arc.e)) 96 32
  let span := s.writeSpan w.arc x
  let insts := ctNt x * ctNc x / max adv 1
  let base := regionBase s.m 2 x
  let half := max (ctHalf x) 1
  let bank := fun (h o : Nat) => (base + h * half + o) / 2 ^ 24
  (List.range insts).any fun i =>
    let lo := 32 * (i * s.perInst r.arc + s.before r.arc) % half
    let hi := min (half - 1) (lo + 32 * slotWords r.arc.e - 1)
    [0, 1].any fun h => decide (bank h span.1 ≤ bank (1 - h) hi) && decide (bank (1 - h) lo ≤ bank h span.2)

/-- Two accesses reach one bank. -/
def Sched.banksMeet (s : Sched) (x y : Access) : Bool :=
  let k := fun (a : Access) => bits a.desc 0 4
  let a := descBanks s.m x.desc
  let b := descBanks s.m y.desc
  if k x = 2 ∧ k y = 3 ∧ bits x.desc 16 8 = bits y.desc 16 8 then s.halvesMeet x y
  else if k x = 3 ∧ k y = 2 ∧ bits x.desc 16 8 = bits y.desc 16 8 then s.halvesMeet y x
  else decide (a.1 ≤ b.2) && decide (b.1 ≤ a.2)

/-- Two accesses of a beat could take one bank port in one cycle; banks of different beats differ by their masks. -/
def Sched.bankClash (s : Sched) : Bool :=
  let l := s.arcs.flatMap s.accesses
  l.zipIdx.any fun x => (l.drop (x.2 + 1)).any fun y =>
    decide (x.1.arc.beat = y.arc.beat) &&
      spansMeet (s.period y.arc.beat) x.1.at_ (slotWords x.1.arc.e) y.at_ (slotWords y.arc.e) && s.banksMeet x.1 y

/-! ### Rule 0x0E SCHEDULE: words at their slots (R201 item 7) -/

/-- Words per ns that the entries of a beat take from the source of an entry. -/
def Sched.rate (s : Sched) (a : Arc) : Rat := (s.perInst a : Rat) / max (s.grid a.beat).per 1

/-- A source does not hold the words of an entry at its slot, when the schedule has run long enough for every one to
have had its first. -/
def Sched.noWord (s : Sched) (a : Arc) : Bool :=
  let src := slotSrc a.e
  if src < 256 then
    let r := cellRun s.m s.p src 8
    !(imgRole s.m src) || (r.port.all (fun x => decide (x.runs ≤ 1)) &&
      decide ((portWords r.port : Rat) / max (s.grid r.beat).per 1 < s.rate a))
  else if src < 0x200 then
    !((List.range (secCount s.m 14 0 16)).any fun i => decide (bits (secEntry s.m 14 0 16 i) 16 7 = src - 0x100))
  else
    let x := s.desc src
    match bits x 0 4 with
    | 1 => !(s.delayHeld a)
    | 3 => !(s.arcs.any fun w =>
        let y := s.desc (slotDst w.e)
        decide (bits y 0 4 = 2) && decide (bits y 16 8 = bits x 16 8) && !(slotMcast w.e) &&
          decide (s.rate a * 32 * (ctNt x * ctNc x : Nat) * (s.grid w.beat).per ≤
            (ctHalf x : Rat) * (bits (s.desc (slotSrc w.e)) 96 32 : Nat)))
    | _ => false

/-- An entry carries words in the profile: its stream is admitted, its cell live (R167, R173). -/
def Sched.carries (s : Sched) (a : Arc) : Bool :=
  let x := s.desc (slotSrc a.e)
  if slotSrc a.e < 256 then cellLive s.m s.p (slotSrc a.e)
  else bits x 0 4 ≠ 1 || (admitted s.m s.p).contains (bits x 16 12)

/-- Some entry's source does not hold its words. -/
def Sched.sourceEmpty (s : Sched) : Bool := s.arcs.any fun a => s.carries a && s.noWord a

/-- Rule 0x0E SCHEDULE. -/
def checkSchedule (d : Strand) (m : SMap Byte) : Bad :=
  badFirst [badOver (imgProfiles m).length fun p => badFirst [
      badIf (!(inR 1 16 (schedBeats m p)) || decide (256 < schedGroups m p) || decide (256 < schedDescs m p)) 3 0,
      badAny 256 3 (runStartBad m p),
      badAny (schedBeats m p) 3 (beatBad m p),
      badOver (schedBeats m p) fun b => ((beatSlots m p b).zipIdx).findSome? fun x =>
        badIf (slotBad d m p (imgBeat m p b) x.1) 3 (bits (imgBeat m p b) 208 32 + x.2),
      badAny (schedDescs m p) 3 fun n =>
        match descBeat m p n with | none => false | some b => descBad m (imgBeat m p b) (imgDesc m p n),
      ((routeOffs m p).zipIdx).findSome? fun x => badIf (routeBad m p x.1) 4 x.2],
    badAny (secCount m 14 0 16) 14 (linkBadAt d m),
    badIf ((schedsOf m).any fun s => s.clash d || s.bankClash || s.sourceEmpty) 3 0]

end Sys2Proof.Machine
end

