-- ==== Sys2Proof/Machine/CheckCommit.lean ====
section
/-! DEFINITION. The plan checker, rules 0x12 to 0x15 (R167): the reserve, the promised latency, the cut-over and the
base map. -/

namespace Sys2Proof.Machine

/-! ### Rule 0x12 RESERVE (R179) -/

/-- ns of the longer path of a spliced cell in a profile. -/
def spliceNs (m : SMap Byte) (p l o : Nat) : Nat :=
  let h := readNat m o 16
  let per := ((cellPersist m l).map (·.len)).foldl (· + ·) 0
  ceilDiv ((bits h 64 20 + 49 * bits h 96 7 + ceilDiv per 16) * 1000) (max 1 (imgProfile m p).cclk)

/-- Smallest SPLICE_PEN_NS over the named windows whose DOMAIN_MASK includes a domain. -/
def penAllows (m : SMap Byte) (dom ns : Nat) : Bool :=
  (imgValidStreams m).all fun s =>
    let w := imgWindow m (stWin (imgStream m s))
    !(bit (winMask w) dom) || decide (ns ≤ winPen w)

/-- Rule 0x12 RESERVE; the index is the logical cell. -/
def checkReserve (d : Strand) (m : SMap Byte) : Bad :=
  let base := (baseOf d m).getD d.cellMap
  badOver 8 fun dom =>
    let pos := ((freeSpares d base dom).take (reserveOf d m base dom)).map fun p => p % 34 - 32
    (roleCells m base dom).findSome? fun l => badIf ((List.range (imgProfiles m).length).any fun p =>
      pos.any fun k => match routeOf m p l k with
        | none => true
        | some o => !(penAllows m dom (spliceNs m p l o))) 4 l

/-! ### Promised latency (R169, R170, rule 0x13) -/

/-- The queue has an output: a lane, a flow or a DMA channel. -/
def qHasOutput (e : Nat) : Bool := decide (qKind e ≠ 0) && decide (bits e 8 2 ≠ 3)

/-- Largest W_EARLY_NS + ING_LAG_NS of streams. -/
def windowNs (m : SMap Byte) (l : List Nat) : Nat :=
  l.foldl (fun a s => let w := imgWindow m (stWin (imgStream m s))
                      max a (winEarly w + winLag w)) 0

/-- T_TX of a queue. -/
def queueTx (d : Strand) (m : SMap Byte) (q : Nat) : Nat :=
  let e := imgQueue m q
  let o := qOut e
  if o.kind = 0 then d.laneTx o.id (qMaxPkt e) + blockNs d m q
  else if o.kind = 1 then d.ethTx o.id (qMaxPkt e)
  else d.dmaTx m o.id (qMaxPkt e)

/-- L_p(q). -/
def latencyIn (d : Strand) (m : SMap Byte) (p q : Nat) : Nat :=
  let s := schedOf m p
  let own := windowNs m ((queueStreams m p q).filter fun x => (admitted m p).contains x) + s.innerNs d q s.flows + queueTx d m q
  (queueLinks m p q).foldl (fun a i =>
    let w := secEntry m 14 0 16 i
    max a (bits w 32 32 + bits w 64 32 + s.innerNs d q (s.laneFlows (bits w 16 7)) + queueTx d m q)) own

/-- The promised latency of a queue. -/
def promised (d : Strand) (m : SMap Byte) (q : Nat) : Nat :=
  (List.range (imgProfiles m).length).foldl (fun a p => if queueLive m p q then max a (latencyIn d m p q) else a) 0

/-- Logical cells with an enabled detector slot that drives THR. -/
def hitchCells (m : SMap Byte) : List Nat :=
  (List.range 256).filter fun l => imgRole m l &&
    (cellSteps (imageCell m l) 32 0).any fun x => decide (pbKernel x.2.2 = 8) &&
      (List.range (bits x.2.2 48 11)).any fun i =>
        decide (bits (dtSlot (imageCell m l) (ag3Of (imageCell m l) x.2.1.agUnit) i) 72 3 ≠ 0)

/-- The hitch latency: as a queue's up to the THR assertion, plus at most 4.00 ns (R169, R240). -/
def hitchNs (m : SMap Byte) : Nat :=
  (List.range (imgProfiles m).length).foldl (fun a p =>
    let ss := (admitted m p).filter fun s => (streamReach m p s).any fun n => (hitchCells m).contains n
    let s := schedOf m p
    let val := s.flows
    (hitchCells m).foldl (fun a l => match s.detectFlow l val with
      | none => a
      | some f => max a (windowNs m ss + dataNs f 0 + s.pathNs f.ns + 4)) a) 0

/-- LAT_MAX_NS of a queue, or 0xFFFF for the hitch. -/
def latMax (m : SMap Byte) (q : Nat) : Option Nat :=
  ((List.range (secCount m 15 0 8)).map (secEntry m 15 0 8)).findSome? fun w =>
    if bits w 0 16 = q then some (bits w 32 32) else none

/-- Rule 0x13 for a latency. -/
def latBad (m : SMap Byte) (q ns : Nat) : Bool :=
  match latMax m q with
  | none => true
  | some x => decide (x < ns)

/-- Rule 0x13 LATENCY; the index is the queue. -/
def checkLatency (d : Strand) (m : SMap Byte) : Bad :=
  badFirst [badOver (imgQCount m) fun q => badIf (qHasOutput (imgQueue m q) && latBad m q (promised d m q)) 15 q,
    badIf (!(hitchCells m).isEmpty && latBad m 0xFFFF (hitchNs m)) 15 0xFFFF]

/-- Largest promised latency of an image, in ns (L_old of R171 and R172): of its queues and the hitch, and at least
the time that a block of any stream waits for its ingest slot. -/
def largestLatency (d : Strand) (m : SMap Byte) : Nat :=
  let own := max (windowNs m (imgValidStreams m)) (if (hitchCells m).isEmpty then 0 else hitchNs m)
  (List.range (imgQCount m)).foldl (fun a q => if qKind (imgQueue m q) ≠ 0 then max a (promised d m q) else a) own

/-! ### Rules 0x14 and 0x15, and WARN -/

/-- The commit condition of R452 for a stream that stays valid. -/
def slotOrderBad (a m : SMap Byte) (s : Nat) : Bool :=
  let e := imgStream a s
  let f := imgStream m s
  let w := imgWindow m (stWin f)
  let old : Rat := winLag (imgWindow a (stWin e))
  let new : Rat := (winLag w : Rat) - winPen w
  decide ((256000000000 * stDen f : Nat) / (stNum f : Rat) ≤ old - new)

/-- Time in ns from the anchor of the last instance of a beat under one plan to that of the first instance of a beat
under the next: consecutive blocks or epochs where both count alike, else what admission leaves between the last block
accepted before a boundary and the first one accepted from it (R102, R177). -/
def anchorGap (a : SMap Byte) (x : Nat) (m : SMap Byte) (y : Nat) : Rat :=
  let e := imgStream a (bits x 2 12)
  let f := imgStream m (bits y 2 12)
  let ga := gridOf a x
  let gm := gridOf m y
  let lag := fun (i : SMap Byte) (b : Nat) => if bits b 0 2 = 0
      then winLag (imgWindow i (stWin (imgStream i (bits b 2 12)))) else 0
  let fixed := (lag m y + beatAnchor y : Rat) - (lag a x + beatAnchor x : Nat)
  if ga.fam = gm.fam ∧ ga.div = gm.div ∧ (ga.fam = 4096 ∨ (ga.unit = gm.unit ∧ stOrigin e = stOrigin f)) then
    let n := (beatPhase y + ga.div - beatPhase x) % max ga.div 1
    ga.unit * (if n = 0 then ga.div else n : Nat) + fixed
  else
    let old : Rat := if ga.fam = 4096 then 0 else winEarly (imgWindow a (stWin e)) + lag a x
    let new : Rat := if gm.fam = 4096 then 0 else gatePipe
    new + (beatAnchor y : Nat) - old - (beatAnchor x : Nat)

/-- Memory `k` of a cell image from address 0 on; the rest of the memory is zero. -/
def imageMem (m : SMap Byte) (l k : Nat) : SMap Byte := writeMem [] 0 (cellImageBytes m l k)

/-- 64-byte units in which two memories differ. -/
def unitsDiffer (a b : SMap Byte) : List Nat :=
  let us := ((a ++ b).map fun x => x.1 / 64).dedup
  us.filter fun u => decide ((a.filter fun x => decide (x.1 / 64 = u)) ≠ b.filter fun x => decide (x.1 / 64 = u))

/-- Units of memory `k`. -/
def allUnits (k : Nat) : List Nat := List.range (memSize k / 64)

/-- Units of memory `k` that the load of a logical cell's image from plan `m` rewrites: those that differ from plan
`old`'s where the cell had a role there, every unit otherwise or after a hot patch. -/
def loadUnits (d : Strand) (old m : SMap Byte) (l k : Nat) : List Nat :=
  if !(imgRole old l) || d.plan.patched.contains l then allUnits k else unitsDiffer (imageMem old l k) (imageMem m l k)

/-- A cell's images differ between two plans, or a hot patch has touched the cell. -/
def cellDiffers (d : Strand) (old m : SMap Byte) (l : Nat) : Bool :=
  d.plan.patched.contains l || [0, 1, 2, 3].any fun k => decide (cellImageBytes old l k ≠ cellImageBytes m l k)

/-- LOAD of a cell in control-port cycles: a SELECT for each memory that differs, and 16 WRITEs for each unit. -/
def loadCycles (d : Strand) (a m : SMap Byte) (l : Nat) : Nat :=
  ([0, 1, 2, 3].map fun k =>
    let n := (loadUnits d a m l k).length
    if n = 0 then 0 else 1 + 16 * n).foldl (· + ·) 0

/-- A cell's configuration differs between two schedules: its memories, dump descriptors or runs. -/
def cellCutDiffers (d : Strand) (s t : Sched) (l : Nat) : Bool :=
  cellDiffers d s.m t.m l ||
    ((List.range 32).any fun e => decide (imgDump s.m l e ≠ imgDump t.m l e)) ||
    decide (imgRunStart s.m s.p l ≠ imgRunStart t.m t.p l) ||
    decide (s.grid (bits (imgRunStart s.m s.p l) 0 4) ≠ t.grid (bits (imgRunStart t.m t.p l) 0 4)) || decide (s.cyc ≠ t.cyc)

/-- The gap between the anchors of two schedules' beats. -/
def Sched.gap (s t : Sched) (x y : Nat) : Rat := anchorGap s.m (imgBeat s.m s.p x) t.m (imgBeat t.m t.p y)

/-- A cell does not meet R177: from the end of its last run on old data to its first run on new data, less than LOAD. -/
def cellCutBad (d : Strand) (s t : Sched) (l : Nat) : Bool :=
  let r := cellRun s.m s.p l 8
  let q := cellRun t.m t.p l 0
  imgRole s.m l && imgRole t.m l && cellCutDiffers d s t l &&
    decide (s.gap t r.beat q.beat + t.ns q.start - s.ns r.fin < max s.cyc t.cyc * (loadCycles d s.m t.m l : Rat))

/-- Entries that name a braid port, with the anchors of their beats. -/
def Sched.named (s : Sched) (n : Nat) : List (Grid × Arc) :=
  (s.arcs.filter fun a => decide (slotSrc a.e = n) || (slotTo s.m s.p a.e).contains n ||
    (!(slotMcast a.e) && decide (slotDst a.e = n))).map fun a => (s.grid a.beat, a)

/-- A braid port does not meet R177: a slot of new data comes before the last one of old data has ended. -/
def portCutBad (s t : Sched) (n : Nat) : Bool :=
  let old := s.named n
  let new := t.named n
  (decide (old ≠ new) || decide (s.cyc ≠ t.cyc)) && old.any fun x => new.any fun y =>
    decide (s.gap t x.2.beat y.2.beat + t.ns (slotOffset y.2.e) < s.ns (x.2.fin + slotTransit x.2.e))

/-- Two queues, of the old plan and of the new, that are one, or share a DMA channel, do not meet R177: new words come
before the packets of old data have left. -/
def queueCutBad (d : Strand) (s t : Sched) (q k : Nat) : Bool :=
  let e := imgQueue s.m q
  let f := imgQueue t.m k
  decide (qKind e ≠ 0) && decide (qKind f ≠ 0) &&
    (decide (q = k) || (decide ((qOut e).kind = 2) && decide (qOut e = qOut f))) &&
    (decide (e ≠ f) || decide (imgCalendar s.m (qOut e) ≠ imgCalendar t.m (qOut f))) &&
    s.arcs.any fun x => (slotTo s.m s.p x.e).contains (0x8000 + q) && t.arcs.any fun y =>
      (slotTo t.m t.p y.e).contains (0x8000 + k) &&
        decide (s.gap t x.beat y.beat + t.ns (slotOffset y.e + slotTransit y.e) <
          s.ns (x.fin + slotTransit x.e) + (s.drainNs d q : Nat))

/-- R177 is broken for a pair of profiles. -/
def pairCutBad (d : Strand) (s t : Sched) : Bool :=
  ((List.range 256).any (cellCutBad d s t)) || ((List.range 0x300).any (portCutBad s t)) ||
    (List.range (imgQCount s.m)).any fun q => (List.range (imgQCount t.m)).any (queueCutBad d s t q)

/-- Bottom of a profile's Tj band (R161). -/
def bandLow (m : SMap Byte) (p : Nat) : Int := if p = 0 then -41 else (imgProfile m (p - 1)).tjTop

/-- Two profiles of two images share a part of a Tj band. -/
def bandsMeet (a : SMap Byte) (p : Nat) (m : SMap Byte) (q : Nat) : Bool :=
  decide (bandLow a p < (imgProfile m q).tjTop) && decide (bandLow m q < (imgProfile a p).tjTop)

/-- Rule 0x14 CUTOVER. -/
def checkCutover (d : Strand) (m : SMap Byte) : Bad :=
  if d.hasPlan then
    let a := d.plan.active
    badFirst [badIf ((schedsOf a).any fun s => (schedsOf m).any fun t =>
        bandsMeet a s.p m t.p && pairCutBad d s t) 3 0,
      ((imgValidStreams a).filter fun s => stValid (imgStream m s)).findSome? fun s => badIf (slotOrderBad a m s) 5 s]
  else none

/-- Rule 0x15 BASE_MAP. -/
def checkBaseMap (d : Strand) (m : SMap Byte) : Bad := badIf (baseOf d m).isNone 0 0

/-- A MINPHASE stream feeds an XT, XA or BP step, or a domain with a role has no free spare. -/
def checkWarn (d : Strand) (m : SMap Byte) : Bool :=
  let base := (baseOf d m).getD d.cellMap
  ((imgValidStreams m).any fun s => bit (imgStream m s) 15 && (List.range (imgProfiles m).length).any fun p =>
    (streamReach m p s).any fun l => decide (l < 256) && imgRole m l &&
      (cellSteps (imageCell m l) 32 0).any fun x => inR 1 3 (pbKernel x.2.2)) ||
    (List.range 8).any fun dom => !(roleCells m base dom).isEmpty && (freeSpares d base dom).isEmpty

end Sys2Proof.Machine
end

