-- ==== Sys2Proof/Machine/CheckQueues.lean ====
section
/-! DEFINITION. The plan checker, rules 0x0F to 0x11 (R167): store regions, queues with their calendars and snap
groups, and the trigger section; and the checker's verdict over all rules. -/

namespace Sys2Proof.Machine

/-! ### Rule 0x0F STORE (R118, R205, R206, R216) -/

/-- A region breaks R205, meets an earlier one, or meets a region of the ACTIVE plan that it does not
continue (R206). -/
def regionBad (d : Strand) (m : SMap Byte) (i : Nat) : Bool :=
  let l := imgRegions m
  let r := l.getD i ⟨0, 0, 0, 0, 0⟩
  !(inR 1 5 r.kind) || decide (0x0E000000 < r.base + r.len) ||
    (decide (r.kind ≠ 3) && decide (r.cells ≠ 1)) ||
    ((l.take i).any fun x => rangesMeet r.base r.len x.base x.len) ||
    (d.hasPlan && (imgRegions d.plan.active).any fun x => decide (x ≠ r) && rangesMeet r.base r.len x.base x.len)

/-- Rule 0x0F STORE. -/
def checkStore (d : Strand) (m : SMap Byte) : Bad :=
  let l := imgRegions m
  badFirst [badAny l.length 12 (regionBad d m),
    badIf ((l.filter fun r => decide (r.kind = 3)).length ≠ 1) 12 0,
    (imgValidStreams m).findSome? fun s =>
      let e := imgStream m s
      badIf (!(l.any fun r => decide (r.kind = 1) && decide (r.base ≤ stDlBase e) &&
        decide (stDlBase e + dlBytes e ≤ r.base + r.len))) 5 s]

/-! ### Rule 0x10 QUEUE (R216, R223, R225, R226, R231, R280) -/

/-- OUT_ID names an output of its kind. -/
def outOk (d : Strand) (o : OutId) : Bool :=
  if o.kind = 0 then d.agushEnd o.id
  else if o.kind = 1 then decide (o.id < 256)
  else if o.kind = 2 then decide (o.id < 16)
  else decide (o.id = 0)

/-- Peak pool cells of a queue (R225): none in a queue that nothing feeds. -/
def peakCells (d : Strand) (m : SMap Byte) (q : Nat) : Nat :=
  (schedsOf m).foldl (fun a s => if queueLive m s.p q then max a (s.peak d q) else a) 0

/-- A queue entry breaks R223 or R225. -/
def queueBad (d : Strand) (m : SMap Byte) (q : Nat) : Bool :=
  let e := imgQueue m q
  if qKind e = 0 then false
  else decide (5 < qKind e) || !(outOk d (qOut e)) || decide (7 < qPrio e) || decide (d.outMtu (qOut e) < qMaxPkt e) ||
    decide (qReserve e < peakCells d m q) ||
    (decide (qKind e = 5) && (decide (5 < bits e 108 4) || !(inR 1 4096 (bits e 112 16)) ||
      decide (bits e 186 16 = 0) || decide (bits e 202 32 = 0)))

/-- A calendar breaks R223. -/
def calendarBad (m : SMap Byte) (i : Nat) : Bool :=
  let l := imgCalendars m
  match l[i]? with
  | none => false
  | some c =>
    decide (c.out.kind = 3) || ((l.take i).any fun x => decide (x.out = c.out)) || !(inR 1 256 c.turns.length) ||
      ((List.range (imgQCount m)).any fun q =>
        let e := imgQueue m q
        decide (qKind e ≠ 0) && decide (qOut e = c.out) && !(c.turns.contains q)) ||
      c.turns.any fun q => decide (qKind (imgQueue m q) = 0) || decide (qOut (imgQueue m q) ≠ c.out)

/-- Blocks that arrive on a stream of a snap group during the longest drain of one capture under R225. -/
def drainBlocks (d : Strand) (m : SMap Byte) (g : Nat) : Nat :=
  let x := imgSnap m g
  let n := x.count * (x.pre + x.post + 1)
  let t := queueWaitNs d m x.queue n + d.serNs (qOut (imgQueue m x.queue)) (qMaxPkt (imgQueue m x.queue))
  (List.range x.count).foldl (fun a i => max a ((t : Rat) / max (streamBlockNs (imgStream m (x.first + i))) 1).ceil.toNat) 0

/-- A snap group breaks R231. -/
def snapBad (d : Strand) (m : SMap Byte) (g : Nat) : Bool :=
  let x := imgSnap m g
  let ring := (List.range x.count).foldl (fun a i => a + x.depth * snapSlotBytes m (x.first + i)) 0
  decide (qKind (imgQueue m x.queue) ≠ 4) || decide (4096 < x.first + x.count) ||
    decide (x.depth < x.pre + x.post + 1 + drainBlocks d m g) ||
    (match imgRegion m 4 x.region with
     | none => true
     | some r => decide (r.len < ring))

/-- Rule 0x10 QUEUE. -/
def checkQueues (d : Strand) (m : SMap Byte) : Bad :=
  let n := imgQCount m
  let reserves := (List.range n).foldl (fun a q => a + qReserve (imgQueue m q)) 0
  badFirst [badIf (!(inR 1 16384 n) || decide (16 < snapCount m)) 11 0,
    badIf ((imgPool m).any fun r => decide (1048576 < r.cells) || decide (r.len < r.cells * 260)) 12 0,
    badAny n 11 (queueBad d m),
    badAny (imgCalendars m).length 11 (calendarBad m),
    badAny n 11 fun q => qHasOutput (imgQueue m q) && (imgCalendar m (qOut (imgQueue m q))).isNone,
    badIf (match imgPool m with | some r => decide (r.cells < reserves) | none => false) 11 0,
    badAny (snapCount m) 11 (snapBad d m)]

/-! ### Rule 0x11 TRIGGER (R249, R259) -/

/-- An enabled source: detector, pin or remote entry. -/
def sourceOn (m : SMap Byte) (s : Nat) : Bool :=
  match bits s 0 2 with
  | 0 => bit (imgDetector m (bits s 2 10)) 0
  | 1 => decide (bits s 2 10 ≤ 3)
  | 2 => bit (imgRemote m (bits s 2 10)) 24
  | _ => false

/-- A source that no unit may list. -/
def sourceWrong (m : SMap Byte) (s : Nat) : Bool :=
  match bits s 0 2 with
  | 0 => false
  | 1 => decide (3 < bits s 2 10)
  | 2 => decide (imgRemoteCount m ≤ bits s 2 10)
  | _ => true

/-- Crossings that the DT steps of a cell can bring to the fabric in one run: cycles between runs, beam blocks in a
run, and for each beam its enabled slots, by the samples between two events of their detectors (R237, R451). -/
structure DtLoad where
  per    : Nat
  blocks : Nat
  beams  : List (List Nat)

/-- Events of a beam block of 64 samples in `c` of its 16 cycles: 4 samples a cycle, and none within the dead time of
the one before. -/
def blockEvents (c : Nat) (slots : List Nat) : Nat :=
  (slots.map fun s => min (ceilDiv 64 (max s 1)) (ceilDiv (4 * min c 16) (max s 1))).foldl (· + ·) 0

/-- Most events that a cell's DT steps deliver within some cycles. -/
def DtLoad.events (x : DtLoad) (c : Nat) : Nat :=
  let w := x.beams.map (blockEvents c)
  let k := max w.length 1
  let sum := fun (l : List Nat) => l.foldl (· + ·) 0
  let runs := c / max x.per 1
  let n := min x.blocks ((c % max x.per 1 + 14) / 16 + 1)
  let part := (List.range k).foldl (fun a i => max a (sum (((w ++ w).drop i).take (n % k)))) 0
  runs * (x.blocks / k * sum w) + n / k * sum w + part

/-- The DT load of a cell in a profile; the time between its beams' samples is that of the way to it. -/
def Sched.dtLoad (s : Sched) (val : List (Arc × Option Flow)) (l : Nat) : Option DtLoad :=
  let c := imageCell s.m l
  let tau := ((s.runFlow l val).map (·.tau)).getD 0
  let gap := fun (k : Nat) => if tau = 0 then 1 else max 1 ((2 * bits (imgDetector s.m k) 16 16 : Nat) / tau : Rat).ceil.toNat
  ((cellSteps c 32 0).find? fun x => decide (pbKernel x.2.2 = 8)).map fun x =>
    let slots := (List.range (bits x.2.2 48 11)).map (dtSlot c (ag3Of c x.2.1.agUnit))
    ⟨s.period (bits (imgRunStart s.m s.p l) 0 4), x.2.1.rep * bits x.2.2 32 16 * bits x.2.2 24 8,
      (List.range (bits x.2.2 24 8)).map fun b => (slots.filter fun t =>
        bit t 75 && decide (bits t 64 8 = b) && bit (imgDetector s.m (bits t 48 10)) 0).map fun t => gap (bits t 48 10)⟩

/-- Events per tick of a profile over the long run; the four pins give 4. -/
def longRate (cyc : Rat) (loads : List DtLoad) (gaps : List Nat) : Rat :=
  4 + (gaps.map fun (g : Nat) => (1 : Rat) / g).foldl (· + ·) 0 +
    (loads.map fun x => (x.events (max x.per 1) : Rat) * 2 / (cyc * (max x.per 1 : Nat))).foldl (· + ·) 0

/-- The backlog bound Q of a profile (R249): A(T) − 16 × (T − 1) at its largest over T; none where it grows without
bound. The largest value stands where a beam block of some cell begins or its run ends. -/
def Sched.backlog (s : Sched) (loads : List DtLoad) (gaps : List Nat) : Option Nat :=
  let a := fun (t : Nat) => 4 * t + (gaps.map fun g => ceilDiv t g).foldl (· + ·) 0 +
    (loads.map fun x => x.events (max 1 ((2 * t : Nat) / s.cyc).floor.toNat)).foldl (· + ·) 0
  let ticks := fun (c : Nat) => (s.ns c / 2).ceil.toNat
  let at_ := 1 :: loads.flatMap fun x =>
    ((List.range (2 * x.beams.length + 1)).map fun j => ticks (16 * j + 2)) ++
        [ticks (16 * x.blocks), ticks (16 * x.blocks + 2)]
  if 16 < longRate s.cyc loads gaps then none
  else some (at_.foldl (fun q t => max q (a (max t 1) - 16 * (max t 1 - 1))) 0)

/-- Q of a plan: the largest of its profiles. -/
def eventBacklog (m : SMap Byte) : Option Nat :=
  let gaps := ((List.range (imgRemoteCount m)).map (imgRemote m)).filterMap fun w =>
    if bit w 24 then some (max 1 (bits w 64 16)) else none
  (schedsOf m).foldl (fun q s => q.bind fun q =>
    let val := s.flows
    (s.backlog (((List.range 256).filter (imgRole m)).filterMap (s.dtLoad val)) gaps).map (max q)) (some 0)

/-- Logical cells with an enabled slot of a detector. -/
def detectorCells (m : SMap Byte) (k : Nat) : List Nat :=
  (List.range 256).filter fun l => imgRole m l &&
    let c := imageCell m l
    (cellSteps c 32 0).any fun x => decide (pbKernel x.2.2 = 8) && (List.range (bits x.2.2 48 11)).any fun i =>
      let t := dtSlot c (ag3Of c x.2.1.agUnit) i
      bit t 75 && decide (bits t 48 10 = k)

/-- Source lag of a detector in ticks: from a beam sample's nominal time to its crossing at the fabric, the longest
over the profiles. -/
def detectorLag (m : SMap Byte) (k : Nat) : Nat :=
  (schedsOf m).foldl (fun a s =>
    let val := s.flows
    (detectorCells m k).foldl (fun a l => match s.detectFlow l val with
      | none => a
      | some f =>
        let lag := ((admitted m s.p).filter fun x => (streamReach m s.p x).contains l).foldl (fun b x =>
          max b (winLag (imgWindow m (stWin (imgStream m x))))) 0
        max a (ceilDiv (lag + dataNs f 0 + s.pathNs f.ns) 2)) a) 0

/-- Source lag in ticks minus OFFSET. -/
def sourceLag (m : SMap Byte) (s : Nat) : Int :=
  let lag : Nat := match bits s 0 2 with
    | 0 => detectorLag m (bits s 2 10)
    | 1 => 258
    | _ => ceilDiv (bits (imgRemote m (bits s 2 10)) 32 32) 2
  (lag : Int) - toSigned 16 (bits s 16 16)

/-- A MSG lane: none, or an Agush endpoint. -/
def msgLaneOk (d : Strand) (n : Nat) : Bool := decide (n = 0x7F) || d.agushEnd n

/-- Slots whose ingest slots pass during SETTLE_TICKS that DEPTH of a snap group must also cover. -/
def settleBlocks (m : SMap Byte) (g settle : Nat) : Nat :=
  let x := imgSnap m g
  (List.range x.count).foldl (fun a i =>
    let e := imgStream m (x.first + i)
    max a (ceilDiv (settle * stNum e) (500000000 * 256 * max 1 (stDen e)))) 0

/-- A unit descriptor breaks R259. The upper ends of the ranges of N and WIN_TICKS hold for every unit, and K of 0 is
out of range for a unit that is enabled (assumption log 86). -/
def unitBad (d : Strand) (m : SMap Byte) (u : Nat) : Bool :=
  let w := imgUnit m u
  let en := bit w 0
  let n := unitN w
  let srcs := (List.range n).map fun j => imgSource m (unitSrcFirst w + j)
  let keys := srcs.map fun s => bits s 0 12
  let wait := ceilDiv ((eventBacklog m).getD 0) 16
  decide (n < unitK w) || decide (imgSrcCount m < unitSrcFirst w + n) ||
    decide (imgRaiseCount m < bits w 216 10 + bits w 226 6) ||
    decide (256 < n) || decide (2048 < unitWin w) || (en && decide (unitK w = 0)) ||
    decide (keys.dedup.length ≠ keys.length) || srcs.any (sourceWrong m) ||
    (en && srcs.any fun s => !(sourceOn m s)) ||
    (en && srcs.any fun s => decide ((unitSettle w : Int) < sourceLag m s + wait)) ||
    (en && bit w 1 && decide (unitSettle w < bits w 96 16 + 258)) ||
    (bit w 180 && decide (qKind (imgQueue m (bits w 184 14)) ≠ 3)) || !(msgLaneOk d (bits w 200 7)) ||
    !(msgLaneOk d (bits w 208 7)) ||
    (List.range 16).any fun g => bit (bits w 164 16) g && (decide (snapCount m ≤ g) ||
      (let x := imgSnap m g
       decide (x.depth < x.pre + x.post + 1 + drainBlocks d m g + settleBlocks m g (unitSettle w))))

/-- A disabled detector that an enabled DT slot of a cell names. -/
def slotDetBad (m : SMap Byte) (l : Nat) : Option Nat :=
  let c := imageCell m l
  if imgRole m l then
    (cellSteps c 32 0).findSome? fun x =>
      if pbKernel x.2.2 = 8 then
        (List.range (bits x.2.2 48 11)).findSome? fun i =>
          let s := dtSlot c (ag3Of c x.2.1.agUnit) i
          if bit s 75 && !(bit (imgDetector m (bits s 48 10)) 0) then some (bits s 48 10) else none
      else none
  else none

/-- Rule 0x11 TRIGGER; the index is the unit, the raise-table entry or the detector. -/
def checkTrigger (d : Strand) (m : SMap Byte) : Bad :=
  badFirst [badIf (decide (16384 < imgSrcCount m) || decide (256 < imgRemoteCount m) || decide (1024 < imgRaiseCount m)) 13 0,
    badAny (imgSrcCount m) 13 fun i => decide (bits (imgSource m i) 0 2 = 3),
    if imgHasTrig m then badAny 64 13 (unitBad d m) else none,
    ((List.range 256).findSome? (slotDetBad m)).map fun x => (13, x),
    badAny (imgRaiseCount m) 13 fun i => decide (qKind (imgQueue m (imgRaise m i)) = 0),
    badIf (match eventBacklog m with | none => true | some q => decide (2048 < q)) 13 0]

/-! ### The verdict (R166, R167) -/

/-- The rules in table order with their codes. -/
def checkRules (g : Pkg) (d : Strand) (m : SMap Byte) : List (Nat × (Unit → Bad)) :=
  [(0x01, fun _ => checkImage m), (0x02, fun _ => checkTarget g d m), (0x03, fun _ => checkGeneration d m), (0x04, fun _ => checkProfiles m),
   (0x05, fun _ => checkCells d m), (0x06, fun _ => checkOwnership m), (0x07, fun _ => checkStreams d m), (0x08, fun _ => checkWindows m),
   (0x09, fun _ => checkFilters m), (0x0A, fun _ => checkCapacity m), (0x0B, fun _ => checkChannelisers m), (0x0C, fun _ => checkBeams m),
   (0x0D, fun _ => checkDumps d m), (0x0E, fun _ => checkSchedule d m), (0x0F, fun _ => checkStore d m), (0x10, fun _ => checkQueues d m),
   (0x11, fun _ => checkTrigger d m), (0x12, fun _ => checkReserve d m), (0x13, fun _ => checkLatency d m), (0x14, fun _ => checkCutover d m),
   (0x15, fun _ => checkBaseMap d m)]

/-- First rule that fails: its code, TYPE and index. -/
def checkVerdict (g : Pkg) (d : Strand) (m : SMap Byte) : Option (Nat × Nat × Nat) :=
  (checkRules g d m).findSome? fun x => (x.2 ()).map fun b => (x.1, b.1, b.2)

end Sys2Proof.Machine
end

