-- ==== Sys2Proof/Machine/PlanOps.lean ====
section
/-! DEFINITION. Plans (R153 to R177, R184): loading and checking the SHADOW slot, asking for a commit, loading cell
images, profiles and CCLK, hot patches. -/

namespace Sys2Proof.Machine

/-! ### Loading (R165) -/

/-- SHADOW_STATE: 0 EMPTY, 1 LOADING, 2 CHECKING, 3 CHECKED, 4 FAILED, 5 PENDING, 6 STALE (R154). -/
def Strand.shadowState (d : Strand) : Nat := d.get 0x6000 0x05

/-- Sets SHADOW_STATE. -/
def Strand.setShadow (d : Strand) (n : Nat) : Strand := d.put 0x6000 0x05 n

/-- The SHADOW slot emptied: no byte listed, no word marked. -/
def emptySlot (d : Strand) : Strand :=
  let a := d.shadowBase
  let out := fun (x : Nat) => !(decide (a ≤ x) && decide (x < a + 0x01000000))
  { d with store := { d.store with mem := d.store.mem.filter fun x => out x.1,
                                   ecc := d.store.ecc.filter fun x => out (8 * x.1) } }

/-- Image bytes written at an offset of the SHADOW slot; at offset 0 the slot is emptied first and is LOADING from
then on (R154, R165). -/
def slotWrite (d : Strand) (off : Nat) (b : List Byte) : Strand :=
  let d := if off = 0 then (emptySlot d).setShadow 1 else d
  d.storeWrite (d.shadowBase + off) b

/-- Whether SHADOW takes no writes: CHECKING or PENDING. -/
def shadowBusy (d : Strand) : Bool := decide (d.shadowState = 2) || decide (d.shadowState = 5)

/-- A write of PLAN_LOAD. -/
def planLoadOp (d : Strand) (b : List Byte) : Strand :=
  let off := fieldAt b 0 4
  if shadowBusy d then d.answer 0x01
  else if b.length < 8 ∨ off % 8 ≠ 0 ∨ 0x01000000 < off + (b.length - 8) then d.answer 0x02
  else (slotWrite d off (b.drop 8)).answer 0x00

/-! ### Checking (R166, R167) -/

/-- A write of PLAN_CHECK. -/
def planCheckOp (d : Strand) (v : Nat) : Strand :=
  if v % 2 = 0 then d.answer 0x00
  else if shadowBusy d then d.answer 0x01
  else ((d.setShadow 2).put 0x6001 0x01 1).answer 0x00

/-- Location of PLAN_LATENCY_NS of a queue. -/
def latencyLoc (q : Nat) : Nat × Nat := (0x6100 + q / 256, q % 256)

/-- Latencies that the SHADOW plan will promise (R187). -/
def fillLatencies (d : Strand) (m : SMap Byte) : Strand :=
  let keep := fun key => !(decide (0x6100 ≤ key / 256) && decide (key / 256 ≤ 0x613F))
  let d := { d with regs := d.regs.filter fun p => keep p.1 }
  let d := (List.range (imgQCount m)).foldl (fun d q =>
    if qHasOutput (imgQueue m q) then d.put (latencyLoc q).1 (latencyLoc q).2 (promised d m q) else d) d
  d.put 0x6000 0x0B (if (hitchCells m).isEmpty then 0xFFFFFFFF else hitchNs m)

/-- The SHADOW image waits for boundary `e`. -/
def commitAt (d : Strand) (e : Nat) : Strand :=
  let d := (d.setShadow 5).put 0x6000 0x08 e
  { d with plan := { d.plan with pend := some e } }

/-- The checker's verdict on the SHADOW slot; a passed recommit is committed at the next boundary (R401). -/
def planCheckDoneOp (g : Pkg) (d : Strand) : Strand :=
  let m := d.shadowImage
  if d.shadowState ≠ 2 then d
  else match checkVerdict g d m with
  | some x =>
    let d := ((d.setShadow 4).put 0x6001 0x01 3).put 0x6001 0x02 (x.1 + x.2.1 * 65536)
    let d := { d with plan := { d.plan with recommit := false } }
    (d.put 0x6001 0x03 x.2.2).raise 0x40 0xFFFF
  | none =>
    let d := ((d.setShadow 3).put 0x6001 0x01 2).put 0x6001 0x02 (256 * b2n (checkWarn d m))
    let d := fillLatencies (d.put 0x6001 0x03 0) m
    let d := { d with plan := { d.plan with rateChecked := d.get 0x7100 0x01 } }
    if d.plan.recommit then commitAt d (boundaryAfter d.now) else d

/-! ### Asking for a commit (R174) -/

/-- COMMIT_RESULT of a write that is refused. -/
def commitNo (d : Strand) (result : Nat) : Strand := (d.put 0x6000 0x09 result).answer 0x02

/-- A write of PLAN_COMMIT. -/
def planCommitOp (d : Strand) (v : Nat) : Strand :=
  if d.plan.pend.isSome then commitNo d 4
  else if d.shadowState ≠ 3 then commitNo d 2
  else if v ≠ 0 ∧ inTime d.now v = false then commitNo d 3
  else (commitAt d (if v = 0 then boundaryAfter d.now else v)).answer 0x00

/-- A write of PLAN_CANCEL. -/
def planCancelOp (d : Strand) (v : Nat) : Strand :=
  if v % 2 = 0 then d.answer 0x00
  else match d.plan.pend with
  | some e =>
    if inTime d.now e then
      let d := { d with plan := { d.plan with pend := none, recommit := false } }
      ((d.setShadow 3).put 0x6000 0x09 7).answer 0x00
    else d.answer 0x01
  | none => if d.shadowState = 1 then ((emptySlot d).setShadow 0).answer 0x00 else d.answer 0x01

/-- A CHECKED image is overtaken (R156). -/
def shadowStale (d : Strand) : Strand := if d.shadowState = 3 then d.setShadow 6 else d

/-- The cell map has left the maps that the reserve of a CHECKED image covers (R156). -/
def staleByMap (d : Strand) : Strand :=
  if d.shadowState = 3 ∧ (baseOf d d.shadowImage).isNone then d.setShadow 6 else d

/-! ### Cell images (R162, R177) -/

/-- A memory with some of its units rewritten from an image. -/
def rewriteUnits (us : List Nat) (img cur : SMap Byte) : SMap Byte :=
  (img.filter fun x => us.contains (x.1 / 64)).foldl (fun c x => smSet zeroByteAt c x.1 x.2)
    (cur.filter fun x => !(us.contains (x.1 / 64)))

/-- A cell's memory `k` with units rewritten: their words are good again, staging words lose their metadata, and a
rewritten parameter unit resets the AG0 offset kept for it (R34). -/
def cellRewrite (k : Nat) (us : List Nat) (img : SMap Byte) (c : Cell) : Cell :=
  let hit := fun (key : Nat) => decide (key / 65536 = k) && us.contains (key % 65536 * 8 / 64)
  let c := c.setMem k (rewriteUnits us img (c.memOf k))
  let beside := fun (key : Nat) => decide (key / 65536 = k) && us.contains (key % 65536 / 16)
  let c := { c with ecc := c.ecc.filter fun x => !(hit x.1), marks := c.marks.filter fun x => !(beside x.1) }
  if k = 3 ∧ us ≠ [] then
    let old := fun (e : Nat) =>
      let se := c.stepAt e
      us.contains (e / 8) || us.contains se.pbUnit || us.contains se.agUnit
    let flags := c.flagSet.filter fun x => !(us.contains x.1)
    let ag0 := c.ag0.filter fun x => !(us.contains x.1)
    { c with lastKF := none, ran := c.ran.filter fun e => !(old e), flagSet := flags, ag0 := ag0 }
  else c

/-- Loads the image of a logical cell from plan `m`. -/
def loadCell (d : Strand) (old m : SMap Byte) (l : Nat) : Strand :=
  let p := d.physOf l
  [0, 1, 2, 3].foldl (fun d k =>
    let us := loadUnits d old m l k
    if us.isEmpty then d else d.onCell p (cellRewrite k us (imageMem m l k))) d

/-- The load, with the state of the banks. -/
def loadBanks (d : Strand) (old m : SMap Byte) (l : Nat) : Strand :=
  bankFollow m l (loadUnits d old m l) (loadCell d old m l)

/-- A part of the ACTIVE slot's image is found uncorrectable while it is read: the cells whose images were being read
give INVALID units (R188). -/
def regionUncorr (d : Strand) (off len inst : Nat) (cells : List Nat) : Strand :=
  let a := 0x0E000000 + d.get 0x6810 0x07 * 0x01000000 + off
  if d.storeBad a len then
    ({ d with plan := { d.plan with badCells := (cells ++ d.plan.badCells).dedup } }).raise 0x46 inst
  else d

/-- A logical cell has ended its work under the former plan: its new image is loaded (R177). -/
def cutoverEndOp (d : Strand) (l : Nat) : Strand :=
  if smGet zeroAt d.plan.cellImages l ≠ 2 then d
  else
    let m := d.plan.active
    let role := imgRole m l
    let d := if role then
        match secFind m 2 l with
        | some s => regionUncorr (loadBanks d d.plan.former m l) s.off s.len l [d.physOf l]
        | none => d
      else d
    { d with plan := { d.plan with cellImages := smSet zeroAt d.plan.cellImages l (b2n role),
                                   patched := d.plan.patched.filter fun x => decide (x ≠ l) } }

/-! ### Profiles and CCLK (R171 to R173, R419) -/

/-- What the profile in force sheds: a shed cell is withheld, and a shed queue emits nothing (R173, R195). -/
def setGates (d : Strand) : Strand :=
  let former := d.plan.shed.filter fun q => decide (65536 ≤ q)
  let d := { d with plan := { d.plan with shed := shedQueues d.plan.active d.plan.profile ++ former } }
  ((List.range 256).filter fun l => imgRole d.plan.active l).foldl (fun d l =>
    d.onCell (d.physOf l) fun c => { c with gateOpen := cellLive d.plan.active d.plan.profile l }) d

/-- L_old of R172 at the present time. -/
def drainTime (d : Strand) : Nat :=
  if d.now < d.plan.commitAt + d.plan.lFormer then max d.plan.lMax d.plan.lFormer else d.plan.lMax

/-- CCLK: the highest among the profile in force and those under which a block not yet drained was accepted; without
a plan, fmax of the grade (R172, R419). -/
def setCclk (d : Strand) : Strand :=
  let live := d.plan.profAdmit.filter fun x => decide (d.now < x.1 + drainTime d)
  let own := if d.hasPlan then (imgProfile d.plan.active d.plan.profile).cclk
    else (fmaxAt (ceilDiv (min (d.getInt 0x2410 0x01 16) 1500).toNat 10)).toNat
  { d with plan := { d.plan with profAdmit := live, cclk := live.foldl (fun a x => max a x.2) own } }

/-- The profile whose band contains a grade in 0.1 °C; above the last band, the last profile. -/
def bandOf (m : SMap Byte) (grade : Int) : Nat :=
  let l := imgProfiles m
  match (List.range l.length).find? fun p => decide (grade ≤ 10 * (imgProfile m p).tjTop) with
  | some p => p
  | none => l.length - 1

/-- PROFILE_CAP, where a limit holds. -/
def capped (d : Strand) (p : Nat) : Nat := if d.get 0x2413 0x01 = 0xFF then p else max p (d.get 0x2413 0x01)

/-- A profile comes into force at a boundary: admission, beats and gates at once, CCLK under R172. -/
def profileTo (d : Strand) (p : Nat) : Strand :=
  let m := d.plan.active
  let old := d.plan.profile
  if p = old then d
  else
    let d := beatsChange d m d.plan.baseMap old
    let d := { d with plan := { d.plan with profile := p,
                                            profAdmit := d.plan.profAdmit ++ [(d.now, (imgProfile m old).cclk)] } }
    let d := (d.put 0x6000 0x0A p).raise 0x42 0xFFFF
    let d := if (imgProfile m p).cclk < (imgProfile m 0).cclk then d.raiseAny 0xB8 else d
    let d := match secFind m 3 p with
      | some s => regionUncorr d s.off s.len 0xFFFF (((List.range 256).filter (imgRole m)).map d.physOf)
      | none => d
    setGates d

/-- Since which epoch, plus one, the grade has suited each cooler profile (R419). -/
def coolRuns (d : Strand) (grade : Int) : SMap Nat :=
  let e := epochOf d.now
  let hyst : Int := d.get 0x2410 0x02
  (List.range d.plan.profile).foldl (fun c p =>
    if grade ≤ 10 * (imgProfile d.plan.active p).tjTop - hyst then
      (if smGet zeroAt c p = 0 then smSet zeroAt c p (e + 1) else c)
    else smSet zeroAt c p 0) d.pow.coolSince

/-- Cooler profile that the grade has suited for THERM_DWELL_MS, not below PROFILE_CAP. -/
def coolerProfile (d : Strand) (c : SMap Nat) : Option Nat :=
  let e := epochOf d.now
  (List.range d.plan.profile).find? fun p =>
    let since := smGet zeroAt c p
    decide (since ≠ 0) && decide (d.get 0x2410 0x03 * 1024 ≤ (e + 1 - since) * 1000) && decide (capped d p = p)

/-- The profile that the grade and PROFILE_CAP select at a boundary (R419, R408). -/
def selectProfile (d : Strand) : Strand :=
  let grade := d.getInt 0x2410 0x01 16
  let m := d.plan.active
  let cur := d.plan.profile
  if !d.hasPlan then d
  else
    let c := coolRuns d grade
    let d := { d with pow := { d.pow with coolSince := c } }
    let go := fun (p : Nat) =>
      let d := profileTo d p
      if p = cur then d else { d with pow := { d.pow with coolSince := [] } }
    if 10 * (imgProfile m cur).tjTop < grade then go (max cur (capped d (bandOf m grade)))
    else if capped d cur ≠ cur then go (capped d cur)
    else match coolerProfile d c with
      | some p => go p
      | none => d

/-! ### Hot patches (R184) -/

/-- The payload of a hot patch keeps the rules of R184. -/
def patchOk (d : Strand) (b : List Byte) : Bool :=
  let len := fieldAt b 4 1
  let off := fieldAt b 2 2
  decide (8 ≤ b.length) && decide (b.length = 8 + len) && decide (fieldAt b 5 3 = 0) && decide (fieldAt b 1 1 ≤ 127) &&
    decide (off % 8 = 0) && decide (off ≤ 56) && decide (len % 8 = 0) && inR 8 64 len && decide (off + len ≤ 64) &&
    decide (d.physOf (fieldAt b 0 1) < 272)

/-- A write of PLAN_HOT_PATCH. -/
def hotPatchOp (d : Strand) (b : List Byte) : Strand :=
  if d.hasPlan && bit (imgFlags d.plan.active) 1 then
    if patchOk d b then
      ({ d with work := { d.work with patches := d.work.patches ++ [b] } }).answer 0x00
    else d.answer 0x02
  else d.answer 0x01

/-- The sequencer writes the first hot patch whose cell is between two runs. -/
def hotPatchApplyOp (d : Strand) : Strand :=
  match d.work.patches.find? fun b => !(d.cell (d.physOf (fieldAt b 0 1))).running with
  | none => d
  | some b =>
    let l := fieldAt b 0 1
    let unit := fieldAt b 1 1
    let d := { d with work := { d.work with patches := d.work.patches.erase b },
                      plan := { d.plan with patched := (l :: d.plan.patched).dedup } }
    let d := d.onCell (d.physOf l) fun c =>
      { (c.storeBytes 3 (64 * unit + fieldAt b 2 2) (b.drop 8)).dropAg0 unit with lastKF := none }
    shadowStale (d.raise 0x47 l)

end Sys2Proof.Machine
end

