-- ==== Sys2Proof/Machine/SpliceOps.lean ====
section
/-! DEFINITION. Splices (R178 to R182, R89): requests and their refusals, the prepare copy, the change of the map at
a boundary, the copies of tiles and persist regions, the retirement. -/

namespace Sys2Proof.Machine

/-! ### Cells and reserves -/

/-- STATE of a physical cell: 0 SPARE, 1 ACTIVE, 2 IDLE_ROLE, 3 TESTING, 4 FAILED (R65). -/
def Strand.cellState (d : Strand) (p : Nat) : Nat := d.get (0x5100 + p) 0x01

/-- Sets STATE; CELL_SPARES_FREE counts the cells in SPARE. -/
def setCellState (d : Strand) (p st : Nat) : Strand :=
  let old := d.cellState p
  let d := if old = 0 ∧ st ≠ 0 then d.put 0x5000 0x03 (d.get 0x5000 0x03 - 1)
    else if old ≠ 0 ∧ st = 0 then d.put 0x5000 0x03 (d.get 0x5000 0x03 + 1) else d
  d.put (0x5100 + p) 0x01 st

/-- The logical cell of a physical cell has a role in the ACTIVE plan. -/
def Strand.hasRole (d : Strand) (p : Nat) : Bool :=
  d.hasPlan && decide (d.logicalOf p < 256) && imgRole d.plan.active (d.logicalOf p)

/-- Spares of a domain that a splice can take, position 32 first: mapped by no logical cell, in SPARE or TESTING, and
part of no splice. -/
def usableSpares (d : Strand) (dom : Nat) : List Nat :=
  [34 * dom + 32, 34 * dom + 33].filter fun p =>
    decide (d.logicalOf p = 0xFFFF) && (decide (d.cellState p = 0) || decide (d.cellState p = 3)) &&
      !(d.work.splices.any fun x => decide (x.spare = p) || decide (x.old = p))

/-- Usable spares of the domain of a cell for which the ACTIVE plan holds a route in each profile: those that its
reserve allows (R179, R202). -/
def reservedSpares (d : Strand) (p : Nat) : List Nat :=
  let m := d.plan.active
  (usableSpares d (p / 34)).filter fun s => (List.range (imgProfiles m).length).all fun i =>
    (routeOf m i (d.logicalOf p) (s % 34 - 32)).isSome

/-- Splices that the ACTIVE plan's reserve allows in each domain (R179). -/
def reserveNominal (m : SMap Byte) : Nat := if bit (imgFlags m) 2 then 2 else 1

/-- Splices of a domain that are prepared and have not taken effect. -/
def preparing (d : Strand) (dom : Nat) : Nat :=
  (d.work.splices.filter fun x => decide (x.spare / 34 = dom) && decide (x.phase ≠ 1)).length

/-- Reserve of a domain that is not spent. -/
def reserveLeft (d : Strand) (dom : Nat) : Nat := reserveNominal d.plan.active - smGet zeroAt d.plan.taken dom

/-- DOMAIN_RESERVE: the remaining reserve of each domain, never more than its usable spares (R179, R187). -/
def domainReserve (d : Strand) : Nat :=
  if d.hasPlan then (List.range 8).foldl (fun a dom =>
    a + min (reserveLeft d dom) ((usableSpares d dom).length + preparing d dom) * 4 ^ dom) 0
  else 0

/-- Splices that a map takes of a base map's free spares in a domain. -/
def splicesIn (d : Strand) (base cur : List Nat) (dom : Nat) : Nat :=
  (freeSpares d base dom).zipIdx.foldl (fun a x => if cur.contains x.1 then x.2 + 1 else a) 0

/-- Domains on a map other than the ACTIVE plan's base map: SPLICE_IN_EFFECT. -/
def splicedDomains (d : Strand) : List Nat :=
  if d.hasPlan then (List.range 8).filter fun dom =>
    (List.range 32).any fun i => decide (d.plan.baseMap.getD (32 * dom + i) 0xFFFF ≠ d.physOf (32 * dom + i))
  else []

/-- SPLICE_IN_EFFECT. -/
def spliceInEffect (d : Strand) : Nat := (splicedDomains d).foldl (fun a dom => a + 2 ^ dom) 0

/-! ### Requests (R180, R182) -/

/-- SPLICE_STATUS: retiring cell, spare, state, low 44 bits of E. -/
def spliceStatus (d : Strand) (old spare st e : Nat) : Strand :=
  d.put 0x6002 0x04 (old + spare * 2 ^ 9 + st * 2 ^ 18 + e % 2 ^ 44 * 2 ^ 20)

/-- A splice begins: the boundary, the spare under test, mirroring (R181). -/
def spliceBegin (d : Strand) (p spare : Nat) (auto : Bool) : Strand :=
  let e := boundaryAfter d.now
  let x : Splice := { logical := d.logicalOf p, old := p, spare, epoch := e, phase := 0, failed := auto }
  let d := { d with work := { d.work with splices := d.work.splices ++ [x] } }
  let d := (setCellState d spare 3).setCell p { d.cell p with mirror := some spare }
  spliceStatus d p spare 1 e

/-- A splice is asked for a cell; answers whether it is refused. One that is being prepared for the cell goes on. -/
def spliceAsk (d : Strand) (p : Nat) (auto : Bool) : Strand × Bool :=
  let dom := p / 34
  if d.work.splices.any fun x => decide (x.old = p) && decide (x.phase = 0) then (d, false)
  else if !(d.hasRole p) || decide (d.domain (4 + dom) ≠ 2) || d.inSafe then
    (d.raise 0x44 (d.logicalOf p), true)
  else if reserveLeft d dom ≤ preparing d dom then
    ({ d with plan := { d.plan with rcSpent := (p :: d.plan.rcSpent).dedup } }.raise 0x45 (d.logicalOf p), false)
  else match reservedSpares d p with
  | [] => (d.raise 0x44 (d.logicalOf p), true)
  | s :: _ => (spliceBegin d p s auto, false)

/-- A write of SPLICE_REQUEST. -/
def spliceRequestOp (d : Strand) (p : Nat) : Strand :=
  if 272 ≤ p then d.answer 0x02
  else
    let r := spliceAsk d p false
    r.1.answer (if r.2 then 0x02 else 0x00)

/-- Corrected errors of a cell within the last 3,600 s. -/
def eccInHour (d : Strand) (p : Nat) : Nat :=
  (d.work.eccTimes.filter fun x => decide (x.1 = p) && decide (d.sage < x.2 + secTime 3600)).length

/-- A condition of R180 that SPLICE_AUTO enables holds for a cell. -/
def spliceWanted (d : Strand) (p : Nat) : Bool :=
  (d.getBit 0x6002 0x02 0 && decide (d.cellState p = 4)) ||
    (d.getBit 0x6002 0x02 1 && decide (3 ≤ smGet zeroAt d.work.marginLow p)) ||
    (d.getBit 0x6002 0x02 2 && decide (d.get 0x6002 0x03 < eccInHour d p))

/-- The sage asks for a splice of a cell with a role whose condition holds. -/
def autoSplice (d : Strand) (p : Nat) : Strand :=
  if d.hasRole p && spliceWanted d p && !(d.plan.rcSpent.contains p) && d.sageUp then (spliceAsk d p true).1 else d

/-- Order of service within a domain: a FAILED cell first, then the lowest MARGIN. -/
def serveKey (d : Strand) (p : Nat) : Int :=
  if d.cellState p = 4 then -100000 else d.getInt (0x5100 + p) 0x06 16

/-- Inserts a cell by its order of service. -/
def insertCell (d : Strand) (p : Nat) : List Nat → List Nat
  | [] => [p]
  | q :: r => if serveKey d p < serveKey d q then p :: q :: r else q :: insertCell d p r

/-- The sage asks for every splice that R180 calls for. -/
def autoScan (d : Strand) : Strand :=
  let l := ((List.range 272).filter fun p => d.hasRole p && spliceWanted d p).foldr (insertCell d) []
  l.foldl autoSplice d

/-- A splice is abandoned: mirroring stops and PLAN_SPLICE_ABORT is raised. -/
def spliceAbandon (d : Strand) (x : Splice) : Strand :=
  let d := { d with work := { d.work with splices := d.work.splices.erase x } }
  let d := d.setCell x.old { d.cell x.old with mirror := none }
  let d := if d.cellState x.spare = 3 then setCellState d x.spare 0 else d
  (spliceStatus d x.old x.spare 3 x.epoch).raise 0x44 x.logical

/-! ### Prepare (R181) -/

/-- Marks of a copy: an uncorrectable word of a memory arrives poisoned; totals are not copied here. -/
def copyMarks (l : SMap Nat) : SMap Nat := (l.filter fun x => decide (x.1 < 4 * 65536)).map fun x => (x.1, 3)

/-- The memories of the retiring cell copied to the spare; kept AG0 offsets start again (R34). -/
def prepareCopy (d : Strand) (old spare : Nat) : Strand :=
  let c := d.cell old
  d.setCell spare { c with tiles := [], dump := none, outQ := [], pos := 0, running := false, stopped := false,
                           lastKF := none, ag0 := [], mirror := none, thr := 0, lostIn := false, lostRun := false,
                           events := [], ecc := copyMarks c.ecc }

/-- The prepare copy of the splice that retires cell `p` ends, or the spare fails a check in it: the other spare is
taken where the reserve allows it. -/
def splicePrepareOp (d : Strand) (p : Nat) (fail : Bool) : Strand :=
  match d.work.splices.find? fun x => decide (x.phase = 0) && decide (x.old = p) with
  | none => d
  | some x =>
    if fail then
      let d := setCellState d x.spare 4
      match reservedSpares d p with
      | [] => spliceAbandon d x
      | s :: _ =>
        let d := { d with work := { d.work with splices := d.work.splices.erase x } }
        spliceBegin d x.old s x.failed
    else
      let d := prepareCopy d x.old x.spare
      { d with work := { d.work with splices := d.work.splices.map fun y => if y = x then { y with phase := 2 } else y } }

/-! ### Effect at the boundary (R13 step 1, R181) -/

/-- A splice takes effect. -/
def spliceEffect (d : Strand) (x : Splice) : Strand :=
  if d.logicalOf x.old ≠ x.logical ∨ d.hasRole x.old = false then spliceAbandon d x
  else
    let d := if x.phase = 0 then prepareCopy d x.old x.spare else d
    let dom := x.spare / 34
    let y := { x with phase := 1 }
    let d := { d with work := { d.work with splices := d.work.splices.map fun z => if z = x then y else z },
                      plan := { d.plan with taken := smSet zeroAt d.plan.taken dom (smGet zeroAt d.plan.taken dom + 1) } }
    let d := ((d.put 0x5300 x.logical x.spare).put (0x5100 + x.spare) 0x02 x.logical).put (0x5100 + x.old) 0x02 0xFFFF
    let d := setCellState d x.spare 1
    (spliceStatus (d.bump 0x6002 0x05 1) x.old x.spare 2 x.epoch).raise 0x43 x.logical

/-- Step 1 of R13: the splices of this boundary, in the order of their requests. -/
def boundarySplices (d : Strand) : Strand :=
  let due := d.work.splices.filter fun x => decide (x.phase ≠ 1) && decide (x.epoch ≤ epochOf d.now)
  if due.isEmpty then d else staleByMap (due.foldl spliceEffect d)

/-! ### Copies and retirement (R89, R181) -/

/-- The splice that retires cell `p`, which still runs. -/
def draining (d : Strand) (p : Nat) : Option Splice :=
  d.work.splices.find? fun x => decide (x.phase = 1) && decide (x.old = p)

/-- A tile passes to the spare: a total that fails ECC arrives as 0 with INVALID in its tile. -/
def tileCopy (d : Strand) (x : Splice) (slot : Nat) : Strand :=
  let c := d.cell x.old
  let bad := (List.range 128).filter fun i => decide (smGet zeroAt c.ecc (totalKey slot i) ≠ 0)
  let t := (bad.foldl (fun t i => t.setTotal i 0) (c.tile slot)).flag stInvalid (!bad.isEmpty)
  let d := if bad.isEmpty then d else findWords d x.old (bad.map (totalKey slot))
  let s := d.cell x.spare
  d.setCell x.spare ({ s with ecc := s.ecc.filter fun y => !(decide (totalKey slot 0 ≤ y.1) &&
    decide (y.1 < totalKey (slot + 1) 0)) }.setTile slot t)

/-- An address lies in a persist region. -/
def inPersist (r : Persist) (m a : Nat) : Bool := decide (m = r.mem) && decide (r.base ≤ a) && decide (a < r.base + r.len)

/-- A persist region passes to the spare with its metadata and, for a ring of an FP step, the AG0 offset (R34). -/
def persistCopy (d : Strand) (x : Splice) (r : Persist) : Strand :=
  let c := d.cell x.old
  let s := d.cell x.spare
  let bytes := (List.range r.len).map fun i => smGet zeroByteAt (c.memOf r.mem) (r.base + i)
  let here := fun (key : Nat) => decide (key / 65536 < 2) && inPersist r (key / 65536) (key % 65536 * 8)
  let units := (List.range 124).map (4 + ·)
  let ag0 := (units.filter fun u => let a := agAt (agSet (c.pmNat (64 * u) 64)) 0
                                    inPersist r a.mem a.base).foldl
    (fun t u => smSet zeroAt t u (smGet zeroAt c.ag0 u)) s.ag0
  let beside := fun (key : Nat) => decide (key / 65536 < 2) && inPersist r (key / 65536) (key % 65536 * 4)
  let ecc := (c.ecc.filter fun y => here y.1).foldl (fun t y => smSet zeroAt t y.1 3) (s.ecc.filter fun y => !(here y.1))
  let marks := (c.marks.filter fun y => beside y.1).foldl (fun t y => smSet (fun _ => none) t y.1 y.2)
    (s.marks.filter fun y => !(beside y.1))
  d.setCell x.spare { s.setMem r.mem (writeMem (s.memOf r.mem) r.base bytes) with ag0 := ag0, marks := marks, ecc := ecc }

/-- One item of the splice that retires cell `p` is copied: tile `item` below 64, then persist region `item - 64`. -/
def spliceTileOp (d : Strand) (p item : Nat) : Strand :=
  match draining d p with
  | none => d
  | some x =>
    if item < 64 then tileCopy d x item
    else match (cellPersist (d.planOf x.logical) x.logical)[item - 64]? with
      | some r => persistCopy d x r
      | none => d

/-- The last run of retiring cell `p` has ended: its STATE is that of R180. -/
def spliceRetireOp (d : Strand) (p : Nat) : Strand :=
  match draining d p with
  | none => d
  | some x =>
    let d := { d with work := { d.work with splices := d.work.splices.erase x } }
    let d := d.setCell x.old { d.cell x.old with mirror := none }
    if x.failed ∨ d.cellState x.old = 4 then setCellState d x.old 4 else setCellState d x.old 3

end Sys2Proof.Machine
end

