-- ==== Sys2Proof/Machine/CommitOps.lean ====
section
/-! DEFINITION. A commit at its boundary (R175, R176, R88, R104, R122, R218) and the admission windows (R102,
R452). -/

namespace Sys2Proof.Machine

/-! ### Refusals (R175, R304) -/

/-- A pending commit is refused at its boundary: COMMIT_RESULT, SHADOW_STATE, PLAN_COMMIT_REFUSED, COMMIT event. -/
def commitRefuse (d : Strand) (result shadow : Nat) : Strand :=
  let gen := imgGen d.shadowImage
  let d := { d with plan := { d.plan with pend := none, recommit := false } }
  let d := ((d.put 0x6000 0x09 result).setShadow shadow).raise 0x41 0xFFFF
  d.post 0x06 (epochOf d.now) (gen + result * 2 ^ 32)

/-! ### Streams (R104, R122) -/

/-- A stream entry without the fields whose change restarts nothing: WIN, LANE, RF_THRESH, CONV_L, CONV_R. -/
def chainFields (e : Nat) : Nat := setBits (setBits (setBits (setBits e 16 6 0) 22 7 0) 80 8 0) 96 16 0

/-- Rate and origin: what numbers a stream's blocks. -/
def numberFields (e : Nat) : Nat × Nat × Nat := (stNum e, stDen e, stOrigin e)

/-- The chain and the delay-line metadata of a stream go on under key `s + 4096` for blocks accepted before. -/
def formerChain (d : Strand) (s : Nat) : Strand :=
  let lo := dlKey s 0
  let hi := dlKey (s + 1) 0
  let mine := fun (x : Nat × Nat) => decide (lo ≤ x.1) && decide (x.1 < hi)
  let gone := d.ing.dlMeta.filter fun x => !(mine x)
  let moved := (d.ing.dlMeta.filter mine).foldl (fun t x => smSet zeroAt t (x.1 + dlKey 4096 0) x.2) gone
  let c := smGet (fun _ => ({} : Chain)) d.ing.chains s
  let chains := smSet (fun _ => ({} : Chain)) (smSet (fun _ => ({} : Chain)) d.ing.chains (s + 4096) c) s {}
  { d with ing := { d.ing with chains := chains, dlMeta := moved, oldSet := s :: d.ing.oldSet } }

/-- What a commit does to a stream: it continues, restarts, starts or ends. -/
def streamCommit (old m : SMap Byte) (had : Bool) (epoch s : Nat) (d : Strand) : Strand :=
  let a := imgStream old s
  let b := imgStream m s
  let was := had && stValid a
  if was && stValid b && decide (chainFields a = chainFields b) then d
  else if !was && !stValid b then d
  else
    let d := if was then formerChain d s else d
    let same := was && stValid b && decide (numberFields a = numberFields b)
    let next := if same then smGet zeroAt d.ing.next s else if stValid b then firstBlock b epoch + 1 else 0
    let d := { d with ing := { d.ing with next := smSet zeroAt d.ing.next s next } }
    if same then d
    else { d with ing := { d.ing with
      penFrom := smSet zeroAt d.ing.penFrom s 0, closed := smSet zeroAt d.ing.closed s 0,
      taken := smSet (fun _ => []) d.ing.taken s [],
      dly := d.ing.dly.flatMap fun x => if x.1 = s then keptDelays [x] else [x] } }

/-- Ingest at a commit: blocks in staging were accepted under the former plan (R20). -/
def ingestCommit (d : Strand) (old m : SMap Byte) (had : Bool) (epoch : Nat) : Strand :=
  let keep := d.ing.chains.filter fun x => decide (x.1 < 4096)
  let metas := d.ing.dlMeta.filter fun x => decide (x.1 < dlKey 4096 0)
  let staged := d.ing.staged.map fun x => { x with oldPlan := true }
  let d := { d with ing := { d.ing with staged := staged, chains := keep, dlMeta := metas, oldSet := [], memBad := [] } }
  let d := (List.range 4096).foldl (fun d s => streamCommit old m had epoch s d) d
  d.put 0x4003 0x03 (imgValidStreams m).length

/-! ### Queues (R151, R177, R218) -/

/-- Closed packets of a queue key leave its pool; `fuel` bounds their number. -/
def moveOut (k : Nat) : Nat → Strand → Strand
  | 0, d => d
  | n + 1, d =>
    let f := flowOf d k
    match takePacket d k with
    | (none, d) => d
    | (some p, d) =>
      let d := { d with q := { d.q with old := d.q.old ++ [⟨outKey (qOut (d.qEntry k)), k % 65536, p.2, f⟩] } }
      moveOut k n (releaseCells d k p.1)

/-- A queue under the entry of the plan before the last commit ends: what it holds waits outside the pools. -/
def endFormer (d : Strand) (k : Nat) : Strand :=
  let d := if (d.queue k).isOpen then closePacket d k else d
  moveOut k (d.queue k).pkts d

/-- Queues under entries of the plan before the last commit end with the next one, and their pool where it was
another. -/
def endFormers (d : Strand) : Strand :=
  let ks := (d.q.qd.map (·.1)).filter fun k => decide (65536 ≤ k)
  let gone := d.q.oldPool.isSome
  let d := ks.foldl endFormer d
  let tx := fun (t : TxPacket) => if gone ∧ 65536 ≤ t.queue then { t with cells := [] } else t
  let d := { d with q := { d.q with qd := d.q.qd.filter fun x => decide (x.1 < 65536), oldPool := none,
                                    outs := d.q.outs.map fun x => (x.1, { x.2 with tx := x.2.tx.map tx }) } }
  ks.foldl (fun d k => queueRegs d (k % 65536)) d

/-- A queue goes on under its former entry at its former key, and begins anew under its new one: SEQ goes on, as do
RAISED and STALLED. -/
def splitQueue (d : Strand) (q : Nat) : Strand :=
  let x := d.queue q
  let tx := fun (t : TxPacket) => if t.queue = q then { t with queue := q + 65536 } else t
  let d := d.setQueue (q + 65536) { x with seq := 0 }
  let d := d.setQueue q { seq := x.seq, raised := x.raised, stalled := x.stalled, bad := x.bad }
  { d with q := { d.q with outs := d.q.outs.map fun y => (y.1, { y.2 with tx := y.2.tx.map tx }) } }

/-- Captures of groups that a commit changes go on under the former plan, and end with the next commit. -/
def capsCommit (d : Strand) (old m : SMap Byte) : Strand :=
  let keep := d.q.caps.filter fun c => !c.former
  { d with q := { d.q with caps := keep.map fun c => { c with former := decide (imgSnap old c.group ≠ imgSnap m c.group) } } }

/-- Queues and pool at a commit, while the former plan is still ACTIVE: BEAM packets close (R151); a queue whose entry
changes, or every queue where the pool does, goes on under its former entry for data accepted before (R177, R218). -/
def queuesCommit (d : Strand) (old m : SMap Byte) (had : Bool) : Strand :=
  let pool := !had || decide (imgPool old ≠ imgPool m)
  let qs := if had then List.range (imgQCount old) else []
  let moved := qs.filter fun q => decide (qKind (imgQueue old q) ≠ 0) && (pool || decide (imgQueue old q ≠ imgQueue m q))
  let d := capsCommit (endFormers d) old m
  let d := (qs.filter fun q => decide (qKind (imgQueue old q) = 2)).foldl (fun d q =>
    if (d.queue q).isOpen then closePacket d q else d) d
  let d := moved.foldl splitQueue d
  let d := { d with plan := { d.plan with shed := (moved.filter d.plan.shed.contains).map (· + 65536) } }
  if pool then
    let r := imgPool m
    let d := { d with q := { d.q with oldPool := if had then some d.q.pool else none } }
    poolInit d ((r.map (·.base)).getD 0) ((r.map (·.cells)).getD 0)
  else d

/-! ### Cells (R88, R177) -/

/-- A logical cell at a commit: the image of a cell that gains a role is loaded at once, one whose images change or
that loses its role goes on under the former plan until its cut-over ends. -/
def cellCommit (old m : SMap Byte) (had : Bool) (d : Strand) (l : Nat) : Strand :=
  let was := had && imgRole old l
  let is := imgRole m l
  let p := d.physOf l
  let mode := if was && (!is || cellDiffers d old m l) then 2 else b2n is
  let d := if is && !was then loadBanks d [] m l else d
  let d := { d with plan := { d.plan with cellImages := smSet zeroAt d.plan.cellImages l mode } }
  if p < 272 ∧ d.cellState p ≠ 4 then setCellState d p (if is then 1 else 2) else d

/-- Every owner tag of the strand is cleared (R88). -/
def clearOwners (d : Strand) : Strand := (d.cells.map (·.1)).foldl (fun d p => d.setCell p (cpOwners (d.cell p))) d

/-! ### The commit (R176) -/

/-- The slots exchange roles: ACTIVE_GEN, the images as read, SHADOW. -/
def exchangeSlots (d : Strand) (m : SMap Byte) (had : Bool) : Strand :=
  let base := (baseOf d m).getD d.cellMap
  let cur := d.cellMap
  let lat := nsTime (largestLatency d m)
  let restored := decide (readNat m 24 4 = mapCrc cur)
  let taken := (List.range 8).foldl (fun t dom => smSet zeroAt t dom (splicesIn d base cur dom)) ([] : SMap Nat)
  let adm := if had then d.plan.profAdmit ++ [(d.now, (imgProfile d.plan.active d.plan.profile).cclk)] else []
  let d := ((d.put 0x6810 0x07 d.shadowSlot).put 0x6000 0x06 (imgGen m)).put 0x6000 0x09 1
  let d := d.setShadow (if had then 6 else 0)
  { d with plan := { d.plan with active := m, former := if had then d.plan.active else [], pend := none,
                                 recommit := false, lFormer := if had then d.plan.lMax else 0, lMax := lat,
                                 commitAt := d.now, profAdmit := adm, rateActive := d.plan.rateChecked, baseMap := base,
                                 baseFormer := d.plan.baseMap, taken := taken,
                                 rcSpent := if restored then [] else d.plan.rcSpent, badCells := [] } }

/-- The profile for the present grade after a commit (R176, R419). -/
def commitProfile (d : Strand) (m : SMap Byte) : Strand :=
  let p := capped d (bandOf m (d.getInt 0x2410 0x01 16))
  let changed := decide (p ≠ d.plan.profile)
  let d := { d with plan := { d.plan with profile := p }, pow := { d.pow with coolSince := [] } }
  let d := (d.put 0x6000 0x0A p).raiseIf changed 0x42 0xFFFF
  if changed && decide ((imgProfile m p).cclk < (imgProfile m 0).cclk) then d.raiseAny 0xB8 else d

/-- A commit that succeeds at boundary `e`. -/
def commitTake (d : Strand) (e : Nat) : Strand :=
  let m := d.shadowImage
  let old := d.plan.active
  let had := d.hasPlan
  let prof := d.plan.profile
  let d := queuesCommit d old m had
  let d := exchangeSlots d m had
  let d := ingestCommit d old m had e
  let d := (List.range 256).foldl (cellCommit old m had) (clearOwners d)
  let late := d.plan.patched.filter fun l => decide (smGet zeroAt d.plan.cellImages l = 2)
  let d := { d with plan := { d.plan with patched := late } }
  let d := unitsChange d old e
  let d := if had then beatsChange d old d.plan.baseFormer prof else d
  let d := setGates (commitProfile d m)
  autoScan (d.post 0x06 e (imgGen m + 2 ^ 32))

/-- The store range of the SHADOW image holds an uncorrectable word. -/
def shadowBad (d : Strand) : Bool := d.storeBad d.shadowBase (imgSize (slotImage d.store.mem d.shadowSlot))

/-- Step 2 of R13: the pending commit. A time step past its boundary refuses it as LATE (R304). -/
def boundaryCommit (d : Strand) : Strand :=
  let e := epochOf d.now
  match d.plan.pend with
  | none => d
  | some b =>
    if e < b then d
    else if b < e then commitRefuse d 3 3
    else
      let m := d.shadowImage
      let ts := bits (d.get 0x2000 0x01) 0 3
      if (baseOf d m).isNone then commitRefuse d 5 6
      else if (ts = 0 ∨ ts = 1 ∨ ts = 4) ∧ bit (imgFlags m) 0 = false then
        if d.plan.recommit then commitAt d (e + 1) else commitRefuse d 6 3
      else if shadowBad d then commitRefuse d 8 4
      else commitTake d e

/-! ### Admission windows (R102, R452) -/

/-- First block from `k` on that is not yet accepted; `fuel` bounds the search. -/
def firstOpen (d : Strand) (s : Nat) : Nat → Nat → Nat
  | 0, k => k
  | n + 1, k =>
    if d.ing.staged.any fun x => decide (x.stream = s) && decide (x.blk = k) && !x.oldPlan
        then firstOpen d s n (k + 1) else k

/-- One more than the first block to which a PEN that comes into force applies: every later slot keeps its order only
where the block period is longer than PEN (R452). -/
def penStart (d : Strand) (s e pen : Nat) : Nat :=
  if pen * stNum e < 256 * stDen e * 1000000000 then
    firstOpen d s d.ing.staged.length (smGet zeroAt d.ing.next s - 1) + 1
  else 2 ^ 64

/-- PEN of a window: SPLICE_PEN_NS while a splice is in effect in a domain of its mask. -/
def windowPen (doms : List Nat) (w : Nat) : Nat := if doms.any fun x => bit (winMask w) x then winPen w else 0

/-- A window's values at a boundary: its PEN, where it begins to apply, W_LATE_EFF_NS. -/
def windowAt (doms : List Nat) (d : Strand) (i : Nat) : Strand :=
  let m := d.plan.active
  let w := imgWindow m i
  let pen := windowPen doms w
  let was := smGet zeroAt d.ing.pen i
  let ss := if was = 0 ∧ pen ≠ 0 then (imgValidStreams m).filter fun s => decide (stWin (imgStream m s) = i) else []
  let pf := ss.foldl (fun t s => smSet zeroAt t s (penStart d s (imgStream m s) pen)) d.ing.penFrom
  let d := { d with ing := { d.ing with pen := smSet zeroAt d.ing.pen i pen, penFrom := pf } }
  d.putInt 0x4004 i 32 (d.lateNs w pen)

/-- Blocks from which on a spare handles the data of a splice that takes effect at this boundary: of each stream whose
window feeds the domain, those that PEN applies to, or where it was in force before those not yet accepted (R181,
R452). -/
def spliceFrom (d : Strand) (x : Splice) : Splice :=
  let m := d.plan.active
  let ss := (imgValidStreams m).filter fun s => bit (winMask (imgWindow m (stWin (imgStream m s)))) (x.spare / 34)
  let from_ := fun (s : Nat) =>
    max (smGet zeroAt d.ing.penFrom s) (firstOpen d s d.ing.staged.length (smGet zeroAt d.ing.next s - 1) + 1)
  if x.phase = 1 ∧ x.epoch = epochOf d.now then { x with from_ := ss.foldl (fun t s => smSet zeroAt t s (from_ s)) [] } else x

/-- Step 4 of R13 for the windows and admission: `unc` is the timestamp uncertainty in ns in HOLDOVER, 0 otherwise. -/
def boundaryWindows (d : Strand) (unc : Nat) : Strand :=
  let d := d.put 0x4003 0x02 unc
  if d.hasPlan then
    let lv := (imgProfile d.plan.active d.plan.profile).admLevel
    let d := if lv < 3 then (d.put 0x4003 0x01 lv).raiseAny 0x33 else d.put 0x4003 0x01 lv
    let doms := splicedDomains d
    let d := (List.range 64).foldl (windowAt doms) d
    { d with work := { d.work with splices := d.work.splices.map (spliceFrom d) } }
  else d.put 0x4003 0x01 3

end Sys2Proof.Machine
end

