-- ==== Sys2Proof/Machine/LaneCfgOps.lean ====
section
/-! DEFINITION. Lanes in use (R267), writes of lane, bond, port, flow and link configuration (R266, R267, R271, R280,
R290, R291, R296, R297), stalls of outputs (R227). -/

namespace Sys2Proof.Machine

/-! ### Lanes in use (R267) -/

/-- Lane-map numbers that an image names: streams, queue outputs, braid ports, LINKS entries, message lanes; 0x7F
names none. -/
def imageEnds (m : SMap Byte) : List Nat :=
  let ports := ((List.range (imgProfiles m).length).flatMap (schedSlots m)).flatMap fun e =>
    (if 0x100 ≤ slotSrc e ∧ slotSrc e < 0x180 then [slotSrc e - 0x100] else []) ++
      (if slotMcast e = false ∧ 0x100 ≤ slotDst e ∧ slotDst e < 0x180 then [slotDst e - 0x100] else [])
  let queues := (List.range (imgQCount m)).filterMap fun q =>
    let e := imgQueue m q
    if qKind e ≠ 0 ∧ (qOut e).kind = 0 then some (qOut e).id else none
  let links := (List.range (secCount m 14 0 16)).map fun i => bits (secEntry m 14 0 16 i) 16 7
  let msgs := if imgHasTrig m then (List.range 64).flatMap fun u =>
      let w := imgUnit m u
      if bit w 0 && bit w 180 then [bits w 200 7, bits w 208 7] else [] else []
  (((imgValidStreams m).map fun s => stLane (imgStream m s)) ++ queues ++ ports ++ links ++ msgs).filter
    fun n => decide (n ≠ 0x7F)

/-- Flows of an image's queues. -/
def imageFlows (m : SMap Byte) : List Nat :=
  (List.range (imgQCount m)).filterMap fun q =>
    let e := imgQueue m q
    if qKind e ≠ 0 ∧ (qOut e).kind = 1 then some (qOut e).id else none

/-- The ACTIVE plan and a CHECKED or PENDING SHADOW image. -/
def Strand.plansInUse (d : Strand) : List (SMap Byte) :=
  (if d.hasPlan then [d.plan.active] else []) ++
    (if d.shadowState = 3 ∨ d.shadowState = 5 then [d.shadowImage] else [])

/-- Endpoints in use. -/
def Strand.endsInUse (d : Strand) : List Nat := d.plansInUse.flatMap imageEnds

/-- A flow is in use. -/
def Strand.flowInUse (d : Strand) (f : Nat) : Bool := d.plansInUse.any fun m => (imageFlows m).contains f

/-- A port is in use: a flow of a queue goes through it. -/
def Strand.portInUse (d : Strand) (p : Nat) : Bool :=
  (d.plansInUse.flatMap imageFlows).any fun f => decide (bits (d.pendVal (0x3500 + f) 1) 0 5 = p)

/-- A lane is in use, directly or through a bond, a port or a link that contains it. -/
def Strand.laneInUse (d : Strand) (l : Nat) : Bool :=
  let ends := d.endsInUse
  ends.contains l ||
    ((List.range 16).any fun b => ends.contains (0x40 + b) && decide (l < 24) && (d.bondMembers b).contains l) ||
    ((List.range 8).any fun j => ends.contains (0x60 + j) && (jesdLanes (d.jesd j)).contains l) ||
    (List.range 24).any fun p => d.portInUse p && bit (d.ethPort p) 0 && (portLanes (d.ethPort p)).contains l

/-! ### Stalls (R227) -/

/-- An output cannot send: its lane is down, its flow is disabled or its port has no link, its channel is disabled or
its completion queue is full. -/
def Strand.outDown (d : Strand) (o : OutId) : Bool :=
  if o.kind = 0 then !(d.endUp o.id)
  else if o.kind = 1 then
    let f := d.ethFlow o.id
    !(bit f 5) || !(d.getBit 0x3401 (bits f 0 5) 0)
  else if o.kind = 2 then !(d.getBit (0x7000 + o.id) 0x0B 0) || d.getBit (0x7000 + o.id) 0x0B 1
  else false

/-- Every output of the ACTIVE plan stalls or goes on as its lane, port or channel allows. -/
def refreshOutputs (d : Strand) : Strand :=
  if d.hasPlan then (imgCalendars d.plan.active).foldl (fun d c =>
    if d.outDown c.out then stallOutput d c.out else unstallOutput d c.out) d
  else d

/-! ### LANE_CFG (R266, R267) -/

/-- Lane group of a physical pair (R262). -/
def laneGroup (n : Nat) : Nat := min (n / 8) 2

/-- Rate in kb/s that a LANE_CFG value gives a lane: that of its JESD link where RATE is JESD. -/
def cfgKbps (d : Strand) (l v : Nat) : Nat :=
  if bits v 0 3 = 5 then
    match (List.range 8).find? fun j => bit (d.jesd j) 0 && (jesdLanes (d.jesd j)).contains l with
    | some j => jesdKbps (d.jesd j)
    | none => 0
  else 10 * rateOf (bits v 0 3)

/-- A PLL, named by its group and PLL_SEL, and the rate that an enabled lane needs of it. -/
abbrev PllUse := (Nat × Bool) × Nat

/-- What lane `k` needs of a PLL where its LANE_CFG is `w`: nothing where it is OFF or has no rate yet. -/
def pllUse (d : Strand) (k w : Nat) : Option PllUse :=
  if bits w 0 3 = 0 ∨ cfgKbps d k w = 0 then none else some ((laneGroup (d.recOf k), bit w 10), cfgKbps d k w)

/-- The PLLs cannot give every enabled lane its rate once lane `l` has the value `v` (R266): two lanes on ordinary
pairs select one PLL at two rates, or the rates of lanes on pairs 24 and 25, which take either PLL of any group, find
neither a PLL at that rate nor one that no lane selects. -/
def pllClash (d : Strand) (l v : Nat) : Bool :=
  let cfg := fun (k : Nat) => if k = l then v else d.get 0x3000 k
  let use_ := fun (spare : Bool) =>
    ((List.range 24).filter fun k => decide (24 ≤ d.recOf k) == spare).filterMap fun k => pllUse d k (cfg k)
  let own := use_ false
  let extra := ((use_ true).map (·.2)).eraseDups.filter fun r => !(own.any fun u => decide (u.2 = r))
  (pllUse d l v).isSome &&
    ((match (if d.recOf l < 24 then pllUse d l v else none) with
      | none => false
      | some u => own.any fun x => decide (x.1 = u.1) && decide (x.2 ≠ u.2)) ||
    decide (6 - (own.map (·.1)).eraseDups.length < extra.length))

/-- Fields that suit each other: JESD rate with JESD204C, Ethernet at 106.25 Gb/s, fixed latency at the PAM4 rates of
Agush, electrical idle with Agush. -/
def laneFields (v : Nat) : Bool :=
  let rate := bits v 0 3
  let proto := bits v 3 2
  decide (rate ≤ 5) && decide (proto ≤ 2) && decide (bits v 32 2 ≤ 2) &&
    decide (bits v 12 4 + bits v 16 6 + bits v 22 6 ≤ 24) &&
    (decide (rate = 0) || (decide (rate = 5) == decide (proto = 2)) && (decide (proto ≠ 1) || decide (rate = 1))) &&
    (!(bit v 5) || decide (proto = 0) && decide (rate ≤ 2)) && (!(bit v 6) || decide (proto = 0))

/-- A write of LANE_CFG. -/
def laneCfgOp (d : Strand) (l v : Nat) : Strand :=
  let v := v % 2 ^ 38 - bits v 11 1 * 2 ^ 11
  let old := d.get 0x3000 l
  if !(laneFields v) || pllClash d l v then d.answer 0x02
  else if v = old then d.answer 0x00
  else if d.laneInUse l then d.answer 0x01
  else
    let n := d.recOf l
    let st := d.laneState n
    let d := d.put 0x3000 l v
    let d := if st = 6 ∨ st = 4 then d else d.setLaneState n (if bits v 0 3 = 0 ∨ d.domain (laneGroup n) ≠ 2 then 0 else 1)
    (refreshOutputs d).answer 0x00

/-! ### BOND_CFG, TIME_PER_S (R280, R300, R308) -/

/-- A bond joins 2 to 8 Agush lanes of one rate and mode, whose peers so far heard of are one, that no other enabled
bond joins. -/
def bondOk (d : Strand) (b v : Nat) : Bool :=
  let l := (List.range 24).filter fun l => bit v (l + 1)
  let a := l.headD 0
  inR 2 8 l.length && (l.all fun k => d.extAgush k && inR 1 4 (d.laneRate k) && decide (d.laneRate k = d.laneRate a) &&
    (d.getBit 0x3000 k 5 == d.getBit 0x3000 a 5)) &&
    (((l.map fun k => peerOf d (d.recOf k)).filter fun p => decide (p ≠ 0)).eraseDups.length ≤ 1) &&
    !((List.range 16).any fun c => decide (c ≠ b) && d.bondOn c && l.any fun k => (d.bondMembers c).contains k)

/-- A write of BOND_CFG. -/
def bondCfgOp (d : Strand) (b v : Nat) : Strand :=
  let v := v % 2 ^ 25
  let lanes := (List.range 24).filter fun l => bit v (l + 1) || d.getBit 0x3003 b (l + 1)
  if bit v 0 && !(bondOk d b v) then d.answer 0x02
  else if v = d.get 0x3003 b then d.answer 0x00
  else if d.endsInUse.contains (0x40 + b) || lanes.any d.laneInUse then d.answer 0x01
  else
    let bonds := smSet (fun _ => ({} : BondSt)) d.lanes.bonds b {}
    ({ d with lanes := { d.lanes with bonds := bonds } }.put 0x3003 b v).answer 0x00

/-- QUAL_HOLDOFF_MS exceeds 32 × 1,000 / TIME_PER_S (R308). -/
def perSecondOk (per hold : Nat) : Bool := decide (32000 < hold * per)

/-- A write of TIME_PER_S. -/
def timePerSOp (d : Strand) (v : Nat) : Strand :=
  if v = 0 ∨ 1024 < v ∨ perSecondOk v (d.get 0x2005 0x01) = false then d.answer 0x02
  else (d.put 0x3004 0x02 v).answer 0x00

/-! ### LOOPBACK, TEST_PATTERN, LANE_CNT_CLEAR (R271, R300) -/

/-- A write of LOOPBACK (subindex 0x0A) or TEST_PATTERN (0x0B) of a record. -/
def laneTestOp (d : Strand) (n sub v : Nat) : Strand :=
  if 3 < v ∨ (sub = 0x0A ∧ 0x20 ≤ n ∧ 1 < v) then d.answer 0x02
  else if d.laneInUse (d.laneNo n) then d.answer 0x01
  else
    let d := d.put (0x3100 + n) sub v
    let on := decide (d.get (0x3100 + n) 0x0A ≠ 0) || decide (d.get (0x3100 + n) 0x0B ≠ 0)
    let st := d.laneState n
    let d := if st = 6 then d else if on then d.setLaneState n 4 else if st = 4 then d.setLaneState n 1 else d
    d.answer 0x00

/-- A write of 1 to LANE_CNT_CLEAR. -/
def laneCntClearOp (d : Strand) (n : Nat) : Strand :=
  (d.clearSubs (0x3100 + n) [0x02, 0x03, 0x04, 0x05, 0x06, 0x07, 0x08, 0x0C, 0x0F]).setLane n
    { d.lane n with symSec := 0 }

/-! ### ETH_PORT_CFG, ETH_FLOW (R290, R291) -/

/-- An enabled port's lanes exist, run Ethernet at 106.25 Gb/s and belong to no other enabled port. -/
def ethPortOk (d : Strand) (p v : Nat) : Bool :=
  decide (bits v 2 2 ≠ 3) && (!(bit v 1) || decide (bits v 4 5 % 4 = 0)) &&
    (!(bit v 0) || ((portLanes v).all fun l => decide (l < 24) && decide (d.laneProto l = 1) && decide (d.laneRate l = 1)) &&
      !((List.range 24).any fun k => decide (k ≠ p) && bit (d.ethPort k) 0 &&
        (portLanes (d.ethPort k)).any fun l => (portLanes v).contains l))

/-- Fields of ETH_PORT_CFG that a flow's promise rests on. -/
def portKey (v : Nat) : Nat := bits v 0 9

/-- A write of ETH_PORT_CFG. -/
def ethPortOp (d : Strand) (p : Nat) (b : List Byte) : Strand :=
  let v := bytesToNat b
  let v := v - bits v 11 5 * 2 ^ 11 - bits v 64 64 * 2 ^ 64
  let old := d.ethPort p
  if !(ethPortOk d p v) then d.answer 0x02
  else if portKey v ≠ portKey old ∧ (d.portInUse p || (portLanes v).any d.laneInUse) then d.answer 0x01
  else
    let d := d.put 0x3400 p v
    let st := if bit v 0 = false then 0 else if portKey v = portKey old then d.get 0x3401 p else 2
    (refreshOutputs (d.put 0x3401 p st)).answer 0x00

/-- Value of an ETH_FLOW write without its reserved bits. -/
def flowMask (v : Nat) : Nat :=
  v - bits v 9 7 * 2 ^ 9 - bits v 79 1 * 2 ^ 79 - bits v 86 2 * 2 ^ 86 - bits v 144 112 * 2 ^ 144

/-- The check of an ETH_FLOW write: a result code. -/
def flowCheck (d : Strand) (f v : Nat) : Nat :=
  let old := d.pendVal (0x3500 + f) 1
  let key := fun (x : Nat) => (bits x 0 5, bits x 6 2, bits x 128 16)
  if 23 < bits v 0 5 ∨ bits v 128 16 < 576 ∨ 9198 < bits v 128 16 then 0x02
  else if key v ≠ key old ∧ d.flowInUse f then 0x01
  else 0x00

/-! ### JESD_CFG (R296, R297) -/

/-- 1 s / T_L is an integer, and so is T_L × f_in: the samples of a stream in an extended multiblock. -/
def jesdTimes (c : Nat) : Bool :=
  decide (jesdKbps c * 1000 % (2112 * jesdE c) = 0) &&
    decide (2048 * jesdE c * jesdL c % (jesdM c * jesdNp c) = 0)

/-- Fields of a JESD_CFG value. -/
def jesdOk (c : Nat) : Bool :=
  decide (bits c 14 2 ≠ 3) && (!(jesdIq c) || decide (jesdNp c ≠ 12) && decide (jesdM c % 2 = 0)) &&
    decide (jesdFirst c + jesdL c ≤ 24) && decide (bits c 33 7 < 32 * jesdE c) &&
    decide (jesdBase c + jesdStreams c ≤ 4096) &&
    (!(bit c 0) || inR 6000000 32500000 (jesdKbps c) && jesdTimes c)

/-- A write of JESD_CFG. -/
def jesdCfgOp (d : Strand) (j : Nat) (b : List Byte) : Strand :=
  let v := bytesToNat b
  let v := v - bits v 40 24 * 2 ^ 40
  let old := d.jesd j
  if !(jesdOk v) then d.answer 0x02
  else if v = old then d.answer 0x00
  else if d.endsInUse.contains (0x60 + j) || (jesdLanes old ++ jesdLanes v).any d.laneInUse then d.answer 0x01
  else
    let keep := fun (key : Nat) => decide (key / 4096 ≠ j)
    let d := { d with lanes := { d.lanes with jesdN := d.lanes.jesdN.filter fun x => keep x.1,
                                              jesdBuf := d.lanes.jesdBuf.filter fun x => keep x.1 } }
    ((d.put 0x3600 j v).put 0x3601 j (if bit v 0 then 2 else 0)).answer 0x00

end Sys2Proof.Machine
end

