-- ==== Sys2Proof/Machine/LaneOps.lean ====
section
/-! DEFINITION. Lanes at run time (R268 to R272, R277, R281, R285 to R287, R299, R407): loss and lock, codewords,
electrical idle, training, tests, and the spare swap. -/

namespace Sys2Proof.Machine

/-! ### Loss and lock (R269, R270) -/

/-- Whether record `n` is a physical pair or an internal lane of this strand. -/
def Strand.laneRec (d : Strand) (n : Nat) : Bool := decide (n < 26) || d.internalLane n

/-- The strand with a swap replaced. -/
def Strand.setSwap (d : Strand) (x : SwapSt) : Strand :=
  { d with lanes := { d.lanes with swaps := d.lanes.swaps.map fun y => if y.lane = x.lane then x else y } }

/-- LANE_SWAP_STATUS: lane, state, spare (its low five bits). -/
def swapStatus (d : Strand) (l st spare : Nat) : Strand := d.put 0x3002 0x04 (l + st * 2 ^ 7 + spare % 32 * 2 ^ 10)

/-- A swap of a lane in use is called for where LANE_SWAP_AUTO enables its trigger (R285). -/
def wantSwap (d : Strand) (bitNo l : Nat) : Strand :=
  if d.getBit 0x3002 0x02 bitNo && d.laneInUse l && !(d.lanes.swapWant.contains l) then
    { d with lanes := { d.lanes with swapWant := d.lanes.swapWant ++ [l] } }
  else d

/-- The lane map names the spare for the lane (R264, R286, R299). -/
def mapLane (d : Strand) (l spare : Nat) : Strand :=
  if l < 24 then d.put 0x3001 l spare
  else
    let old := d.recOf l
    let s := d.endpointOf spare
    let im := smSet selfAt (smSet selfAt d.lanes.imap l spare) s old
    { d with lanes := { d.lanes with imap := im } }

/-- The release point on a spare that takes a lane over: it stays (R281), counted to the spare's last codeword. -/
def carryRelease (o s : LaneDyn) : Option (Nat × Nat) :=
  o.release.map fun r => (r.1, if (s.cwSeq + 256 - o.cwSeq) % 256 < 128 then r.2 + (s.cwSeq + 256 - o.cwSeq) % 256
    else r.2 - (o.cwSeq + 256 - s.cwSeq) % 256)

/-- What belongs to the lane and not to the pair goes with the lane to its spare: the release point (R281, R286), TIME
sequence numbers, departures, echo and measurements (R282, R283), and the frames that wait (R278). -/
def carryLane (o s : LaneDyn) : LaneDyn :=
  { s with release := carryRelease o s, txSeq := o.txSeq, txDeps := o.txDeps, echo := o.echo, dIns := o.dIns,
           theta := o.theta, lastTime := o.lastTime, peerState := o.peerState, peerTm := o.peerTm, peerPart := o.peerPart,
           peerRank := o.peerRank, peerHops := o.peerHops, wait := o.wait, busy := o.busy, lastTx := o.lastTx,
           txIdle := o.txIdle }

/-- The receiver reads from the spare: LANE_MAP changes, hitless or cold (R286, R287). -/
def swapTakeLane (d : Strand) (x : SwapSt) : Strand :=
  let d := d.setLane x.spare (carryLane (d.lane x.old) (d.lane x.spare))
  let d := (mapLane d x.lane x.spare).setSwap { x with swapped := true }
  let d := ((d.setLaneState x.spare 2).bump 0x3002 0x05 1)
  let d := swapStatus d x.lane (if x.oldDead then 5 else 3) x.spare
  refreshOutputs (d.raiseOnce (if x.oldDead then 0x74 else 0x73) x.lane)

/-- The old path of a lane under swap fails: at once to an aligned spare, else when alignment completes. -/
def oldPathFails (d : Strand) (n : Nat) : Strand :=
  match d.lanes.swaps.find? fun x => decide (x.old = n) && !x.swapped with
  | none => d
  | some x => if x.ready then swapTakeLane d x else d.setSwap { x with oldDead := true }

/-- A receive lane goes DOWN. -/
def laneLost (d : Strand) (n : Nat) : Strand :=
  let d := d.setLaneState n 5
  let d := oldPathFails (wantSwap d 0 (d.laneNo n)) n
  refreshOutputs (d.setLane n { d.lane n with locked := false, goodRun := 0, badRun := 0, release := none })

/-- Loss of signal, outside electrical idle. -/
def losDetectOp (d : Strand) (n : Nat) : Strand :=
  if d.laneRec n && (decide (d.laneState n = 1) || decide (d.laneState n = 2)) then
    let d := d.setLane n { d.lane n with los := true }
    (laneLost (d.bump (0x3100 + n) 0x02 1) n).raiseOnce 0x70 (d.laneNo n)
  else d

/-- The signal has been present for 1 µs. -/
def losClearOp (d : Strand) (n : Nat) : Strand := d.setLane n { d.lane n with los := false }

/-- Loss of lock of the CDR or of codewords. -/
def lolOp (d : Strand) (n : Nat) : Strand :=
  if d.laneRec n && d.laneUp n then (laneLost (d.bump (0x3100 + n) 0x03 1) n).raiseOnce 0x71 (d.laneNo n) else d

/-- The receive eye margin is measured anew (R270): the spec gives no value. -/
def rxMargin (d : Strand) (n : Nat) : Strand :=
  let f := d.freeNat
  f.2.put (0x3100 + n) 0x09 (f.1 % 65536)

/-- A lane that is training, or DOWN and retraining, is up; an internal lane trains from the start. Its lock comes
from the codewords that it decodes (R272), and its release point from the first of them. -/
def laneTrainedOp (d : Strand) (n : Nat) : Strand :=
  let x := d.lane n
  let st := d.laneState n
  if d.laneRec n && (decide (st = 1) || decide (st = 5) || decide (st = 0 ∧ 26 ≤ n)) && !x.los then
    let d := d.setLane n { x with badRun := 0, release := none, eiNext := false, txIdle := false }
    refreshOutputs ((rxMargin d n).setLaneState n 2)
  else d

/-! ### Codewords (R272, R281) -/

/-- Release time of a codeword: `i` codewords after the release point. -/
def releaseTime (base c i : Nat) : Nat := base + i * 2 ^ 48 / max c 1

/-- The number nearest to `est` that is `r` modulo 256. -/
def nearSeq (est r : Nat) : Nat := est + (r + 384 - est % 256) % 256 - 128

/-- The release of a codeword in fixed-latency mode: a late one fixes a new release point, 4 ns after its arrival.
After electrical idle `step`, the codewords that CW_SEQ has gone on by, places the codeword in its slot. -/
def cwRelease (d : Strand) (n : Nat) (wasIdle : Bool) (step : Nat) : Strand :=
  let c := cwRate d n
  let x := d.lane n
  let fresh := d.now + nsTime 4
  if c = 0 then d
  else match x.release with
  | none => d.setLane n { x with release := some (fresh, 0) }
  | some (base, i) =>
    let i := if wasIdle then nearSeq ((d.now - base) * c / 2 ^ 48) ((i + step) % 256) else i + 1
    if d.now ≤ releaseTime base c i then d.setLane n { x with release := some (base, i) }
    else (d.setLane n { x with release := some (fresh, 0) }).raiseOnce 0x78 (d.laneNo n)

/-- A codeword of a spare comes more than 4 ns after the release time of its copy on the old path (R286). -/
def spareLate (d : Strand) (n : Nat) (x : SwapSt) : Bool :=
  decide (n = x.spare) && decide (cwRate d x.old ≠ 0) && match (d.lane x.old).release with
    | none => false
    | some (base, i) => decide (releaseTime base (cwRate d x.old) i + nsTime 4 < d.now)

/-- A spare under swap is aligned once it is locked, its CW_SEQ matches the old path's and it is in time for the
release, or the old path is dead. -/
def swapAlign (d : Strand) (n : Nat) : Strand :=
  match d.lanes.swaps.find? fun x => decide (x.spare = n) || decide (x.old = n) with
  | none => d
  | some x =>
    let s := d.lane x.spare
    let o := d.lane x.old
    if x.mirror && !x.ready && !x.swapped && s.locked &&
        (x.oldDead || decide (s.cwSeq = o.cwSeq) && !s.resync && !o.resync && !(spareLate d n x)) then
      let y := { x with ready := true }
      let d := swapStatus (d.setSwap y) x.lane 2 x.spare
      if x.oldDead then swapTakeLane d y else d
    else d

/-- A codeword arrives. -/
def codewordOp (d : Strand) (n : Nat) (dec : CwDecode) (seq : Nat) : Strand :=
  let st := d.laneState n
  if !(d.laneRec n) ∨ !(decide (st = 1) || decide (st = 2) || decide (st = 5)) then d
  else
    let i := 0x3100 + n
    let d := d.bump i 0x04 1
    let d := match dec with
      | .ok => d
      | .corrected k => (d.bump i 0x05 1).bump i 0x07 k
      | .uncorrectable => d.bump i 0x06 1
    let x := d.lane n
    let good := decide (dec ≠ .uncorrectable)
    if x.locked then
      let fresh := good && x.resync
      let bad := !good || (!x.resync && decide (seq % 256 ≠ x.cwSeq))
      let run := if bad then x.badRun + 1 else 0
      let d := d.setLane n { x with badRun := run, cwSeq := (if fresh then seq + 1 else x.cwSeq + 1) % 256,
                                    resync := x.resync && !good }
      if 8 ≤ run then lolOp d n
      else swapAlign (if x.resync && !good then d else cwRelease d n fresh ((seq + 257 - x.cwSeq) % 256)) n
    else
      let run := if !good then 0 else if x.goodRun ≠ 0 ∧ seq % 256 = x.cwSeq then x.goodRun + 1 else 1
      let d := d.setLane n { x with goodRun := run, cwSeq := (seq + 1) % 256, locked := decide (4 ≤ run), badRun := 0,
                                    resync := false }
      if 4 ≤ run then swapAlign (cwRelease d n false 0) n else d

/-- The once-a-second check of corrected symbol errors (R270). -/
def berCheckOp (d : Strand) (n : Nat) : Strand :=
  if !(d.laneRec n) then d
  else
    let x := d.lane n
    let cur := d.get (0x3100 + n) 0x07
    let run := if d.get 0x3002 0x03 < cur - x.symSec then x.berRun + 1 else 0
    let d := rxMargin (d.setLane n { x with symSec := cur, berRun := run }) n
    if 3 ≤ run then wantSwap (d.raiseOnce 0x72 (d.laneNo n)) 1 (d.laneNo n) else d

/-! ### IDLE frames and electrical idle (R268, R277) -/

/-- A pair or internal lane that carries no traffic of a plan and idles as a spare. -/
def Strand.isSpare (d : Strand) (n : Nat) : Bool :=
  if n < 26 then decide (d.laneNo n = 0x7F) else !(d.laneInUse (d.laneNo n))

/-- The record whose codewords a record sends: a spare that mirrors sends those of the lane under swap (R286). -/
def idleRec (d : Strand) (n : Nat) : Nat :=
  match d.lanes.swaps.find? fun x => decide (x.spare = n) && x.mirror && !x.swapped with
  | some x => x.old
  | none => n

/-- The body of an IDLE frame that a record sends, with the fields of its swap, SWAP_REQ on the spare only; `ei` and
`nak` as given. -/
def idleBody (g : Pkg) (d : Strand) (n : Nat) (ei nak : Bool) : List Byte :=
  let sw := d.lanes.swaps.find? fun x => (decide (x.spare = n) || decide (x.old = n)) && !x.swapped
  let b0 := b2n (d.lane n).locked + 2 * b2n ei + 32 * b2n nak + (match sw with
    | some x => 4 * b2n (x.init && decide (x.spare = n)) + 8 * b2n x.ready + 16 * b2n x.txAt.isSome
    | none => 0)
  let at_ := (sw.bind (·.txAt)).getD 0
  let lane := (sw.map (·.lane)).getD 0
  let r := idleRec d n
  natToBytes 1 b0 ++ natToBytes 1 at_ ++ natToBytes 1 (d.laneNo r % 128 + 128 * b2n (d.isSpare r)) ++
    natToBytes 1 (lane % 128) ++ natToBytes 2 g.deviceId ++ natToBytes 1 d.id.num ++ zeros 9

/-- A frame that belongs to one lane record is handed to it. -/
def sendOn (d : Strand) (n type : Nat) (body : List Byte) : Strand := transmit d n ⟨txClass type, type, false, 0, body⟩

/-- A record that runs Agush: that of an Agush lane, or a pair without a logical lane, which carries IDLE frames. -/
def Strand.idles (d : Strand) (n : Nat) : Bool := d.laneRec n && (decide (d.laneNo n = 0x7F) || d.agushLane (d.laneNo n))

/-- An IDLE frame is sent. -/
def idleForceOp (g : Pkg) (d : Strand) (n : Nat) : Strand :=
  if d.idles n && decide (d.laneState n = 2) && !(d.lane n).txIdle then sendOn d n 0 (idleBody g d n false false) else d

/-- IDLE_EN of a record's lane; internal lanes and spares idle too (R299). -/
def idleAllowed (d : Strand) (n : Nat) : Bool :=
  decide (26 ≤ n) || (decide (d.laneNo n < 24) && d.getBit 0x3000 (d.laneNo n) 6)

/-- A TIME frame is due within 10 µs: TIME_PER_S of them leave in a second, counted from the last one (R268, R275). -/
def timeDue (d : Strand) (n : Nat) : Bool :=
  match (d.lane n).txDeps.head? with
  | none => false
  | some p => decide (p.2 + secTime 1 / max 1 (d.get 0x3004 0x02) ≤ d.now + usTime 10)

/-- The transmitter has had nothing but IDLE frames to send for IDLE_HOLD_NS, and no TIME frame is due within 10 µs. -/
def mayIdle (d : Strand) (n : Nat) : Bool :=
  (d.lane n).wait.isEmpty && decide ((d.lane n).lastTx + nsTime (d.get 0x3004 0x01) ≤ d.now) && !(timeDue d n)

/-- The transmitter enters electrical idle after an IDLE frame with EI_NEXT. -/
def eiEnterOp (g : Pkg) (d : Strand) (n : Nat) : Strand :=
  if d.idles n && idleAllowed d n && d.laneUp n && !(d.lane n).txIdle && mayIdle d n then
    let d := departAt d n ⟨0, 0, false, 0, idleBody g d n true false⟩ (max d.now (d.lane n).busy)
    (d.setLane n { d.lane n with txIdle := true }).emit .laneSig n []
  else d

/-- The transmitter leaves electrical idle with a training burst. -/
def eiExitOp (d : Strand) (n : Nat) : Strand := leaveIdle d n

/-- A receiver in electrical idle sees the peer's training burst; numbering has gone on through the idle (R268). -/
def burstOp (d : Strand) (n : Nat) (relocked : Bool) (idleUs : Nat) : Strand :=
  if d.laneRec n && decide (d.laneState n = 3) then
    if 1000 < idleUs then
      refreshOutputs ((d.setLaneState n 1).setLane n { d.lane n with eiNext := false, locked := false })
    else if relocked then (d.setLaneState n 2).setLane n { d.lane n with eiNext := false, resync := true, badRun := 0 }
    else lolOp (d.setLane n { d.lane n with eiNext := false }) n
  else d

/-! ### Spare swap (R285 to R287) -/

/-- Spares that a lane could take, in order: pairs that the map leaves, or internal lanes toward the same strand that
no plan uses. -/
def sparesFor (d : Strand) (l : Nat) : List Nat :=
  if l < 24 then extSpares d
  else ((List.range 8).map ((l / 8) * 8 + ·)).filter fun n =>
    decide (n ≠ d.recOf l) && !(d.laneInUse (d.laneNo n)) && spareFree d n

/-- Eligible spares of an Agush lane (R285). -/
def eligible (d : Strand) (l : Nat) : List Nat := (sparesFor d l).filter (spareSuits d l)

/-- A lane moves to a spare without a hitless swap (R294, R298): the old pair is RETIRED. -/
def coldMove (d : Strand) (l spare : Nat) : Strand :=
  let old := d.recOf l
  let d := (mapLane d l spare).setLaneState spare 1
  (swapStatus ((d.setLaneState old 6).bump 0x3002 0x05 1) l 3 spare)

/-- A write of LANE_SWAP_REQUEST. -/
def swapRequestOp (d : Strand) (v : Nat) : Strand :=
  if (decide (v < 24) && decide (d.laneRate v ≠ 0)) || d.internalLane v then
    let w := if d.lanes.swapWant.contains v then d.lanes.swapWant else d.lanes.swapWant ++ [v]
    { d with lanes := { d.lanes with swapWant := w } }.answer 0x00
  else d.answer 0x02

/-- No eligible spare: the lane stays in service. -/
def sparesOut (d : Strand) (l : Nat) : Strand := d.raiseOnce 0x76 l

/-- A JESD204C link restarts (R298). -/
def jesdRestart (d : Strand) (j : Nat) : Strand :=
  let keep := fun (key : Nat) => decide (key / 4096 ≠ j)
  let d := { d with lanes := { d.lanes with jesdN := d.lanes.jesdN.filter fun x => keep x.1,
                                            jesdBuf := d.lanes.jesdBuf.filter fun x => keep x.1 } }
  (d.put 0x3601 j 2).raiseOnce 0x7D (0x60 + j)

/-- The initiator's decision on a lane for which a swap is called. -/
def swapStartOp (g : Pkg) (d : Strand) (l : Nat) : Strand :=
  if !(d.lanes.swapWant.contains l) ∨ (d.swapFor l).isSome then d
  else
    let d := { d with lanes := { d.lanes with swapWant := d.lanes.swapWant.filter fun x => decide (x ≠ l) } }
    if d.agushLane l then
      match eligible d l with
      | [] => sparesOut d l
      | s :: _ =>
        let o := d.recOf l
        let x : SwapSt := ⟨l, s, o, true, false, false, false, none, none, !(d.laneUp o), false, d.now⟩
        let d := { d with lanes := { d.lanes with swaps := d.lanes.swaps ++ [x] } }
        let d := swapStatus d l 1 s
        sendOn d s 0 (idleBody g d s false false)
    else if d.laneProto l = 2 then
      match sparesFor d l with
      | [] => sparesOut d l
      | s :: _ =>
        let js := (List.range 8).filter fun j => bit (d.jesd j) 0 && (jesdLanes (d.jesd j)).contains l
        js.foldl jesdRestart (coldMove d l s)
    else d

/-- A swap ends without effect: mirroring stops, the lane stays on its old pair (R287). -/
def swapAbort (d : Strand) (x : SwapSt) : Strand :=
  let d := { d with lanes := { d.lanes with swaps := d.lanes.swaps.filter fun y => decide (y.lane ≠ x.lane) } }
  (swapStatus d x.lane 4 x.spare).raiseOnce 0x75 x.lane

/-- The codeword at SWAP_AT: the receiver reads from its spare. -/
def swapSwitchOp (d : Strand) (l : Nat) : Strand :=
  match d.swapFor l with
  | none => d
  | some x => if x.ready && x.peerRdy && x.at_.isSome && !x.swapped then swapTakeLane d x else d

/-- Eight codewords later the old pair stops and is RETIRED. -/
def swapStopOp (d : Strand) (l : Nat) : Strand :=
  match d.swapFor l with
  | none => d
  | some x =>
    if x.swapped then
      let d := { d with lanes := { d.lanes with swaps := d.lanes.swaps.filter fun y => decide (y.lane ≠ l) } }
      ((d.setLane x.old {}).setLaneState x.old 6).emit .laneSig x.old []
    else d

/-- Alignment has not completed within 1 ms. -/
def swapTimeoutOp (d : Strand) (l : Nat) : Strand :=
  match d.swapFor l with
  | none => d
  | some x => if !x.swapped && !(x.ready && x.peerRdy) && decide (x.start + msTime 1 ≤ d.now) then swapAbort d x else d

/-- This strand's lane that the peer of a record calls by a lane-map number. -/
def laneOfPeer (d : Strand) (n l : Nat) : Option Nat :=
  ((List.range 24) ++ (List.range 32).map (0x20 + ·)).find? fun k =>
    let r := d.recOf k
    d.agushLane k && decide (peerOf d r = peerOf d n) && decide (d.getF (0x3100 + r) 0x0E 18 7 = l)

/-- CW_SEQ of the codeword that leaves now: fixed by the time in fixed-latency mode (R281), else a free value. -/
def txCwSeq (d : Strand) (n : Nat) : Nat × Strand :=
  if cwRate d n ≠ 0 then (d.now * cwRate d n / 2 ^ 48 % 256, d)
  else
    let f := d.freeNat
    (f.1 % 256, f.2)

/-- The responder's part of a request that came in on spare `n`. -/
def swapAsked (g : Pkg) (d : Strand) (n lane : Nat) : Strand :=
  let nak := fun (d : Strand) => sendOn d n 0 (idleBody g d n false true)
  match laneOfPeer d n lane with
  | none => nak d
  | some l =>
    match d.swapFor l with
    | some x => if x.init then d else d.setSwap { x with mirror := true }
    | none =>
      if (eligible d l).contains n then
        let o := d.recOf l
        let x : SwapSt := ⟨l, n, o, false, true, false, false, none, none, !(d.laneUp o), false, d.now⟩
        let d := { d with lanes := { d.lanes with swaps := d.lanes.swaps ++ [x] } }
        (swapStatus d l 1 n).emit .laneSig (512 + n) []
      else nak d

/-- SWAP_READY and SWAP_AT of the peer, and this end's SWAP_AT once both are ready. `copy` says that the frame is one
of the lane and not of an unused spare: on the spare, the peer mirrors the lane. -/
def swapHear (g : Pkg) (d : Strand) (n b0 at_ : Nat) (copy : Bool) : Strand :=
  match d.lanes.swaps.find? fun x => (decide (x.spare = n) || decide (x.old = n)) && !x.swapped with
  | none => d
  | some x =>
    if bit b0 5 ∧ x.init then swapAbort d x
    else
      let x := { x with mirror := x.mirror || (decide (x.spare = n) && copy), peerRdy := x.peerRdy || bit b0 3,
                        at_ := if bit b0 4 then some at_ else x.at_ }
      let d := d.setSwap x
      if x.ready && x.peerRdy && x.txAt.isNone then
        let c := txCwSeq d x.old
        let d := c.2.setSwap { x with txAt := some ((c.1 + 32) % 256) }
        sendOn d x.spare 0 (idleBody g d x.spare false false)
      else d

/-- A received IDLE frame (R277). -/
def idleRxOp (g : Pkg) (d : Strand) (n : Nat) (b : List Byte) : Strand :=
  let b0 := fieldAt b 0 1
  let b2 := fieldAt b 2 1
  let d := d.put (0x3100 + n) 0x0E (fieldAt b 4 2 + fieldAt b 6 1 % 4 * 2 ^ 16 + b2 % 128 * 2 ^ 18)
  let d := d.setLane n { d.lane n with spareIdle := bit b2 7, eiNext := bit b0 1 }
  let d := if bit b0 1 then d.setLaneState n 3 else d
  let d := if bit b0 2 then swapAsked g d n (fieldAt b 3 1 % 128) else d
  swapHear g d n b0 (fieldAt b 1 1) (!(bit b2 7))

/-! ### Tests of spares and of retired pairs (R271, R407) -/

/-- The hourly test of a spare pair. -/
def spareTestOp (d : Strand) (n errors : Nat) (trained : Bool) : Strand :=
  if n < 26 ∧ d.laneNo n = 0x7F ∧ d.laneState n ≠ 6 then
    (d.bump (0x3100 + n) 0x0C errors).setLane n { d.lane n with testOk := decide (errors = 0) && trained }
  else d

/-- The end of a test. A RETIRED pair, tested after its group was powered off and on, is a spare pair where it passes
(R407); in state TEST the checker of TEST_PATTERN has counted its bit errors (R271). -/
def prbsDoneOp (d : Strand) (n errors : Nat) (pass : Bool) : Strand :=
  let x := d.lane n
  if n < 26 ∧ d.laneState n = 6 ∧ x.retest then
    let d := (d.bump (0x3100 + n) 0x0C errors).setLane n { x with retest := false, testOk := pass }
    if pass then d.setLaneState n 1 else d
  else if d.laneRec n && decide (d.laneState n = 4) && decide (d.get (0x3100 + n) 0x0B ≠ 0) then
    d.bump (0x3100 + n) 0x0C errors
  else d

end Sys2Proof.Machine
end

