-- ==== Sys2Proof/Machine/TimingOps.lean ====
section
/-! DEFINITION. Time (R302 to R323): references and their qualification, selection, switches, steps and slews,
holdover, partition, the software loop, the pins. -/

namespace Sys2Proof.Machine

/-! ### Inputs (R306 to R308) -/

/-- TIME_STATE: 0 FREE_RUN, 1 ACQUIRING, 2 LOCKED, 3 HOLDOVER, 4 LOST (R310). -/
def Strand.timeState (d : Strand) : Nat := bits (d.get 0x2000 0x01) 0 3

/-- REF_SELECTED. -/
def Strand.refSel (d : Strand) : Nat := d.get 0x2000 0x04

/-- REF_CFG of an input. -/
def Strand.refCfg (d : Strand) (n : Nat) : Nat := d.get 0x2001 n

/-- Units of 0.5 ps of a length in ns. -/
def halfPs (ns : Nat) : Int := (ns * 2000 : Nat)

/-- A length in units of 0.5 ps in units of 2^-48 s. -/
def halfPsTime (h : Int) : Int := divNearest (h * 2 ^ 48) 2000000000000

/-- Lock phase threshold of an input in ns (R306). -/
def lockNs (n : Nat) : Nat := if n ≤ 1 then 2 else if n ≤ 3 then 20 else if n ≤ 7 then 1 else 50

/-- Floor of F0 of an input in ppt (R318). -/
def floorPpt (n : Nat) : Nat := if n = 2 ∨ n = 3 then 1000 else if n = 8 then 2000 else 100

/-- Strand 0 of a part whose TM pin is high. -/
def timingMaster (g : Pkg) (d : Strand) : Bool := g.straps.tm && decide (d.id.num = 0)

/-- An input is enabled, and its lane or port is there (R307). -/
def refPresent (d : Strand) (n : Nat) : Bool :=
  let c := d.refCfg n
  let s := bits c 8 7
  bit c 0 && (if 4 ≤ n ∧ n ≤ 7 then d.agushLane s
    else if n = 8 then decide (s < 24) && bit (d.ethPort s) 0 && bit (d.ethPort s) 9 else true)

/-- The input may be selected on this strand: the AGUSH inputs of a timing master never are (R307). -/
def refAllowed (g : Pkg) (d : Strand) (n : Nat) : Bool := !(timingMaster g d && decide (4 ≤ n) && decide (n ≤ 7))

/-- QUALIFIED. -/
def Strand.isQual (d : Strand) (n : Nat) : Bool := d.tm.qualified.contains n

/-- A candidate for selection: its conditions hold, and it is neither refused nor barred. -/
def candidate (g : Pkg) (d : Strand) (n : Nat) : Bool :=
  refPresent d n && refAllowed g d n && decide (smGet zeroAt d.tm.candSince n ≠ 0) && !(d.tm.refused.contains n)

/-- An input that takes part in a disagreement. -/
def inDispute (d : Strand) (n : Nat) : Bool := d.tm.disPairs.any fun x => decide (x.1 = n) || decide (x.2.1 = n)

/-- REF_STATUS of an input: 0 DISABLED, 1 ABSENT, 2 QUALIFYING, 3 QUALIFIED, 4 DISAGREE, 5 REFUSED. -/
def refStatus (g : Pkg) (d : Strand) (n : Nat) : Nat :=
  if refAllowed g d n = false then 5
  else if bit (d.refCfg n) 0 = false then 0
  else if d.tm.refused.contains n then 5
  else if smGet zeroAt d.tm.candSince n = 0 ∨ refPresent d n = false then 1
  else if inDispute d n then 4
  else if d.isQual n then 3 else 2

/-- REF_STATUS of every input follows. -/
def showStatus (g : Pkg) (d : Strand) : Strand := (List.range 9).foldl (fun d n => d.put 0x2002 n (refStatus g d n)) d

/-! ### Disagreement and the choice (R312) -/

/-- Rank of an input. -/
def refRank (d : Strand) (n : Nat) : Nat := bits (d.refCfg n) 1 3

/-- Candidates of the lowest rank. -/
def refGroup (g : Pkg) (d : Strand) : List Nat :=
  let c := (List.range 9).filter (candidate g d)
  let low := c.foldl (fun a n => min a (refRank d n)) 8
  c.filter fun n => decide (refRank d n = low)

/-- Two inputs of a group disagree. -/
def groupDisputes (d : Strand) (l : List Nat) : Bool :=
  d.tm.disPairs.any fun x => l.contains x.1 && l.contains x.2.1

/-- The reference that R312 selects, given the one in force. -/
def chooseRef (g : Pkg) (d : Strand) (cur : Nat) : Option Nat :=
  let l := refGroup g d
  if l.contains cur then some cur
  else if groupDisputes d l then none
  else l.head?

/-- A REF10 input with PAIR and its PPS count as one reference (R312). -/
def onePair (d : Strand) (a b : Nat) : Bool := decide (min a b < 2) && decide (max a b = min a b + 2) &&
    bit (d.refCfg (min a b)) 4

/-- Disagreements after a measurement of input `n`: a pair begins beyond FQ_TOL_PPB, and ends once it has stayed
within half of it for QUAL_HOLDOFF_MS. -/
def disputesAfter (g : Pkg) (d : Strand) (n : Nat) : List (Nat × Nat × Nat) :=
  let tol : Int := d.get 0x2005 0x02
  let f := fun k => smGet (fun _ => (0 : Int)) d.tm.freqPpb k
  let others := (List.range 9).filter fun k => decide (k ≠ n) && candidate g d k && d.tm.measured.contains k &&
    !(onePair d k n)
  let rest := d.tm.disPairs.filter fun x => decide (x.1 ≠ n) && decide (x.2.1 ≠ n)
  rest ++ others.filterMap fun k =>
    let a := min n k
    let b := max n k
    let df := (f a - f b).natAbs
    match d.tm.disPairs.find? fun x => decide (x.1 = a) && decide (x.2.1 = b) with
    | none => if tol < df then some (a, b, 0) else none
    | some x =>
      if 2 * (df : Int) ≤ tol then
        let since := if x.2.2 = 0 then d.now + 1 else x.2.2
        if since - 1 + msTime (d.get 0x2005 0x01) ≤ d.now then none else some (a, b, since)
      else some (a, b, 0)

/-! ### State changes (R310, R311, R318, R320) -/

/-- HOPS follows the selected input (R320). -/
def showHops (g : Pkg) (d : Strand) : Strand :=
  let n := d.refSel
  let h := if timingMaster g d then 0
    else if 4 ≤ n ∧ n ≤ 7 then
      let p := (d.lane (d.recOf (bits (d.refCfg n) 8 7))).peerHops
      if p + 1 < 32 then p + 1 else 0xFF
    else 0xFF
  d.put 0x2000 0x06 h

/-- History exists: LOCKED for HOLD_HIST_S without a break at some time since reset (R318). -/
def historyNow (d : Strand) : Bool :=
  d.tm.history || (decide (d.timeState = 2) && decide (d.tm.lockedAt + secTime (d.get 0x2005 0x06) ≤ d.now))

/-- A new timing state: its source, the event, what LOCKED and LOST leave. -/
def timeTo (g : Pkg) (d : Strand) (s : Nat) : Strand :=
  let old := d.timeState
  let hist := historyNow d
  if s = old then showHops g d
  else
    let d := { d with tm := { d.tm with history := hist && decide (s ≠ 4) } }
    let d := d.put 0x2000 0x01 s
    let d := if s = 2 then { d with tm := { d.tm with lockedAt := d.now, todKnown := true, partNow := false } } else d
    let d := if s = 1 then { d with tm := { d.tm with acqAt := d.now } } else d
    let d := if s = 3 then { d with tm := { d.tm with holdAt := d.now } } else d
    let far := !(timingMaster g d) && (decide (s = 3) || decide (s = 4)) && decide (4 ≤ d.tm.holdRef) &&
      decide (d.tm.holdRef ≤ 7)
    let d := { d with tm := { d.tm with partNow := d.tm.partNow || far } }
    let d := (d.raiseIf (decide (s = 3)) 0x83 d.tm.holdRef).raiseIf (decide (s = 4)) 0x84 d.tm.holdRef
    (showHops g d).postTimeState

/-- The loop follows another input, or none (0x0F); LOOP_OWNER follows it (R316). Its errors are not yet in range. -/
def setRef (d : Strand) (n : Nat) : Strand :=
  { ((d.put 0x2000 0x04 n).put 0x2000 0x0B (if d.get 0x2006 0x01 = 1 then 2 else if n = 8 then 1 else 0)) with
    tm := { d.tm with inRange := if n = d.refSel then d.tm.inRange else 0 } }

/-- The switch phase: 0 NONE, 1 QUALIFY, 2 SLEW, with its target. -/
def setSwitch (d : Strand) (phase : Nat) (target : Option Nat) : Strand :=
  { d.put 0x2000 0x05 phase with tm := { d.tm with target := target } }

/-- Holdover begins after input `n`: U0, F0 and the start are fixed (R318). The rms fluctuation of the loop is a value
that the spec does not state. -/
def holdBegin (g : Pkg) (d : Strand) (n : Nat) : Strand :=
  let f := d.freeNat
  let d := { f.2 with tm := { f.2.tm with holdAt := d.now, holdU0 := lockNs n, holdF0 := 2 * f.1 + floorPpt n, holdRef := n } }
  timeTo g d 3

/-- The current reference is lost while LOCKED: HOLDOVER with history, else FREE_RUN. -/
def refLost (g : Pkg) (d : Strand) : Strand :=
  let n := d.refSel
  if historyNow d then setRef (holdBegin g d n) 0x0F else timeTo g (setRef d 0x0F) 0

/-- Holdover uncertainty in ns at time `t` (R318). -/
def holdModel (d : Strand) (t : Nat) : Nat :=
  let e := t - d.tm.holdAt
  d.tm.holdU0 + ceilDiv (2 * d.tm.holdF0 * e * 2 ^ 48 + d.get 0x2005 0x04 * e * e) (2000 * 2 ^ 96)

/-- What a slew has moved by time `t`, in units of 0.5 ps, at TIME_SLEW_NS_S (R304). -/
def slewMoved (d : Strand) (t : Nat) : Int :=
  let m : Int := ((t - d.tm.slewAt) * d.get 0x2005 0x07 * 2000 / 2 ^ 48 : Nat)
  if 0 ≤ d.tm.slewLeft then min d.tm.slewLeft m else max d.tm.slewLeft (-m)

/-- Error of a switch still to slew, in units of 0.5 ps (R304, R313). -/
def slewRest (d : Strand) : Int := (d.tm.slewLeft - slewMoved d d.now).natAbs

/-- HOLD_UNC in ns: the model, or in a SLEW phase the remaining error plus the target's threshold; SOFT_UNC_NS under a
software loop; 0 outside HOLDOVER (R102, R313, R316). -/
def timeUnc (d : Strand) : Nat :=
  if d.timeState ≠ 3 then 0
  else if d.get 0x2006 0x01 = 1 then d.get 0x2006 0x05
  else if d.get 0x2000 0x05 = 2 then
    ceilDiv (slewRest d).toNat 2000 + lockNs (d.tm.target.getD 0)
  else holdModel d d.now

/-! ### The pins and OUT_OFS (R323) -/

/-- This strand drives a pin. -/
def drivesPins (d : Strand) : Bool := d.getBit 0x2008 0x01 0 && !d.tm.pinHeld

/-- This strand drives a pin and a pin is enabled. -/
def pinsEnabled (d : Strand) : Bool := drivesPins d && (d.getBit 0x2008 0x01 1 || d.getBit 0x2008 0x01 2)

/-- PPS_OUT (4) or EPOCH_OUT (5) asserted or not, at the level that POL gives. -/
def timePin (d : Strand) (n : Nat) (on : Bool) : Strand := d.pin n (on != d.getBit 0x2008 0x01 3)

/-- OUT_OFS up to now: it has moved toward 0 at PIN_SLEW_NS_S, and while a pin is enabled every slew has been added to
it. OUT_OFS_PS shows it. -/
def outOfsDecay (d : Strand) : Strand :=
  let moved : Int := ((d.now - d.tm.outAt) * d.get 0x2008 0x05 * 2000 / 2 ^ 48 : Nat)
  let o := d.tm.outOfs
  let o := if 0 ≤ o then max 0 (o - moved) else min 0 (o + moved)
  let o := if pinsEnabled d then o + (slewMoved d d.now - slewMoved d d.tm.outAt) else o
  { d.putInt 0x2008 0x04 64 (divNearest o 2) with tm := { d.tm with outOfs := o, outAt := d.now } }

/-- A step of the timescale is added to OUT_OFS while a pin is enabled. -/
def pinsMoved (d : Strand) (h : Int) : Strand :=
  if pinsEnabled d then
    let d := outOfsDecay d
    { d with tm := { d.tm with outOfs := d.tm.outOfs + h } }
  else d

/-- The timescale slews by `h` units of 0.5 ps from now on, or no more where it is 0. -/
def slewBy (d : Strand) (h : Int) : Strand :=
  let d := outOfsDecay d
  { d with tm := { d.tm with slewLeft := h, slewAt := d.now } }

/-! ### Selection and switches (R312, R313) -/

/-- Starts or goes on with a switch to `x`, or ends the one under way where `x` is the current reference. -/
def switchTo (d : Strand) (x : Nat) : Strand :=
  if x = d.refSel then setSwitch d 0 none else setSwitch d 1 (some x)

/-- Selection runs (R312): what each state makes of the choice (R311, R313). -/
def reselect (g : Pkg) (d : Strand) : Strand :=
  let cur := d.refSel
  let slewing := decide (d.get 0x2000 0x05 = 2)
  let d := if d.get 0x2006 0x01 = 1 then d
    else match d.timeState with
    | 2 =>
      if slewing then d
      else match chooseRef g d cur with
      | some x => if d.isQual cur || decide (x = cur) then switchTo d x else switchTo (refLost g d) x
      | none => setSwitch (refLost g d) 0 none
    | 3 =>
      if slewing then d
      else match chooseRef g d 0x0F with
      | some x => setSwitch d 1 (some x)
      | none => setSwitch d 0 none
    | 1 =>
      match chooseRef g d cur with
      | some x =>
        if x = cur ∧ d.isQual x then d
        else if d.isQual x then setRef { d with tm := { d.tm with narrow := 0, acqAt := d.now } } x
        else if d.isQual cur then d
        else timeTo g (setRef d 0x0F) d.tm.acqFrom
      | none => timeTo g (setRef d 0x0F) d.tm.acqFrom
    | s =>
      match chooseRef g d 0x0F with
      | some x =>
        if d.isQual x then
          timeTo g (setRef { d with tm := { d.tm with acqFrom := s, narrow := 0 } } x) 1
        else d
      | none => d
  showStatus g (showHops g d)

/-- The conditions of an enabled input begin to hold. -/
def refPresentOp (g : Pkg) (d : Strand) (n : Nat) : Strand :=
  if refPresent d n && decide (smGet zeroAt d.tm.candSince n = 0) then
    reselect g { d with tm := { d.tm with candSince := smSet zeroAt d.tm.candSince n (d.now + 1) } }
  else d

/-- A break of an input's conditions (R308): it stops being a candidate, and selection runs. -/
def refBreakOp (g : Pkg) (d : Strand) (n : Nat) : Strand :=
  if smGet zeroAt d.tm.candSince n = 0 then d
  else
    let was := d.isQual n
    let x := decide (d.tm.target = some n)
    let slewing := decide (d.get 0x2000 0x05 = 2)
    let d := { d with tm := { d.tm with candSince := smSet zeroAt d.tm.candSince n 0,
                                        qualified := d.tm.qualified.filter fun k => decide (k ≠ n),
                                        refused := d.tm.refused.filter fun k => decide (k ≠ n),
                                        measured := d.tm.measured.filter fun k => decide (k ≠ n),
                                        disPairs := d.tm.disPairs.filter fun p => decide (p.1 ≠ n) && decide (p.2.1 ≠ n) } }
    let d := d.raiseIf was 0x80 n
    let d := if x && slewing then
        let d := setSwitch (slewBy d 0) 0 none
        if d.timeState = 2 then refLost g d else setRef d 0x0F
      else if slewing ∧ d.timeState = 2 ∧ d.tm.holdRef = n then holdBegin g d n
      else if x then setSwitch d 0 none else d
    reselect g d

/-- An input's hold-off has passed: it is QUALIFIED. -/
def refQualifyOp (g : Pkg) (d : Strand) (n : Nat) : Strand :=
  let s := smGet zeroAt d.tm.candSince n
  if refPresent d n && decide (s ≠ 0) && !(d.isQual n) && decide (s - 1 + msTime (d.get 0x2005 0x01) ≤ d.now) then
    reselect g { d with tm := { d.tm with qualified := d.tm.qualified ++ [n] } }
  else d

/-- Both errors of the input that the loop follows are in range for LOCKED, or are not (R311): the phase error `h`
below its lock threshold, the frequency error below 1 ppb. -/
def rangeSeen (d : Strand) (h : Int) : Strand :=
  let ok := decide ((h.natAbs : Int) < halfPs (lockNs d.refSel)) && decide ((d.getInt 0x2000 0x09 32).natAbs < 1000)
  { d with tm := { d.tm with inRange := if ok then (if d.tm.inRange = 0 then d.now + 1 else d.tm.inRange) else 0 } }

/-- The end of an averaging interval: outside the window of a REF10 or PPS input is a break; disagreements follow. -/
def freqMeasureOp (g : Pkg) (d : Strand) (n : Nat) (ppb : Int) : Strand :=
  if 8 < n ∨ smGet zeroAt d.tm.candSince n = 0 then d
  else if n ≤ 3 ∧ d.get 0x2005 0x03 * 1000 < ppb.natAbs then refBreakOp g d n
  else
    let d := { d with tm := { d.tm with freqPpb := smSet (fun _ => (0 : Int)) d.tm.freqPpb n ppb,
                                        measured := (n :: d.tm.measured).dedup } }
    let d := if n = d.refSel then rangeSeen (d.putInt 0x2000 0x09 32 (ppb * 1000)) (2 * d.getInt 0x2000 0x08 64) else d
    let was := d.tm.disPairs
    let d := { d with tm := { d.tm with disPairs := disputesAfter g d n } }
    let d := d.raiseIf (d.tm.disPairs.any fun x => !(was.any fun y => decide (y.1 = x.1) && decide (y.2.1 = x.2.1))) 0x82 n
    reselect g d

/-! ### Steps (R304, R305) -/

/-- Both pins are held deasserted, and TIME_OUT_STOP is raised (R323). -/
def pinsHold (d : Strand) : Strand :=
  let d := timePin (timePin d 4 false) 5 false
  { d with tm := { d.tm with pinHeld := true, ppsFin := 0, epochFin := 0 } }.raise 0x8B d.refSel

/-- A step is permitted: `some false` by STEP_OK, `some true` by TIME_STEP_ARM. -/
def stepPermit (d : Strand) : Option Bool :=
  if !d.hasPlan && !(d.getBit 0x2008 0x01 0) then some false else if d.tm.stepArm then some true else none

/-- A step by `h` units of 0.5 ps waits for the boundary. -/
def stepWait (d : Strand) (h : Int) (arm ends tod : Bool) : Strand :=
  { d with tm := { d.tm with stepBy := some h, stepArmed := arm, stepEnds := ends, todStep := tod,
                             stepArm := d.tm.stepArm && !arm } }

/-- In ACQUIRING, an error beyond STEP_THRESH_NS is stepped where that is permitted. -/
def acquireStep (d : Strand) (n : Nat) (h : Int) : Strand :=
  if d.timeState = 1 ∧ d.refSel = n ∧ d.tm.stepBy.isNone ∧ halfPs (d.get 0x2005 0x09) < h.natAbs then
    match stepPermit d with
    | some arm => stepWait d h arm false false
    | none => d.raise 0x88 n
  else d

/-- The loop takes second phase from a PPS: that of the selected REF10 input with PAIR (R307). -/
def pairedPps (d : Strand) (n : Nat) : Bool :=
  (decide (n = 2) || decide (n = 3)) && decide (d.refSel + 2 = n) && bit (d.refCfg d.refSel) 4

/-- The phase error of the input that the loop follows. -/
def phaseSeen (d : Strand) (n : Nat) (h : Int) : Strand :=
  if n = d.refSel ∨ pairedPps d n = true then
    acquireStep (rangeSeen (d.putInt 0x2000 0x08 64 (divNearest h 2)) h) d.refSel h
  else d

/-- Metadata of everything that blocks in flight have made takes INVALID. -/
def taintInFlight (d : Strand) : Strand :=
  let inv := fun (b : List Byte) => b.take 3 ++ [(b.getD 3 0#8) ||| 4#8] ++ b.drop 4
  let staged := d.ing.staged.map fun x => { x with bytes := inv x.bytes }
  let metas := d.ing.dlMeta.map fun x => (x.1, 256 + ((x.2 % 256) ||| 4))
  let d := { d with ing := { d.ing with staged := staged, dlMeta := metas } }
  (d.cells.map (·.1)).foldl (fun d p =>
    let c := d.cell p
    let tiles := (c.tiles.map (·.1)).foldl (fun c s => c.setTile s ((c.tile s).flag stInvalid true)) c
    let part := fun (q : Part) => { q with md := q.md ||| 4 }
    d.setCell p { tiles with marks := c.marks.map (fun x => (x.1, x.2.map fun k => { k with md := k.md ||| 4 })),
                             outQ := c.outQ.map fun w => { w with parts := w.parts.map part } }) d

/-- Pending commits, swaps and EPOCH-class writes over a step to a new time whose first boundary is `e` (R304, R305). -/
def stepPending (d : Strand) (e : Nat) : Strand :=
  let d := match d.plan.pend with
    | some b => if b ≤ e then commitRefuse d 3 3 else d
    | none => d
  let late := d.work.swaps.filter fun s => s.named && decide (s.epoch ≤ e)
  let rest := (d.work.swaps.filter fun s => !(s.named && decide (s.epoch ≤ e))).map fun s =>
    if s.named then s else { s with epoch := e }
  let d := { d with work := { d.work with swaps := rest }, pendW := d.pendW.map fun w => { w with due := e } }
  if late.isEmpty then d else d.bump 0x5700 0x04 late.length

/-- The step is taken at the end of a boundary of the old time. -/
def stepApply (g : Pkg) (d : Strand) : Strand :=
  match d.tm.stepBy with
  | none => d
  | some h =>
    let t := ((d.now : Int) + halfPsTime h).toNat
    let d := if pinsEnabled d && decide (halfPs 100000 < h.natAbs) then pinsHold d else pinsMoved d h
    let d := d.raiseIf d.tm.stepArmed 0x89 d.refSel
    let d := if d.tm.stepArmed then taintInFlight d else d
    let tm := d.tm
    let d := { d with now := t, sageBase := d.sageBase + (d.now : Int) - t,
                      tm := { tm with stepBy := none, stepArmed := false, stepEnds := false, todStep := false,
                                      history := false, todKnown := tm.todStep || tm.todLoaded,
                                      todLoaded := tm.todStep || tm.todLoaded, lockedAt := t, inRange := 0,
                                      slewLeft := tm.slewLeft - slewMoved d d.now, slewAt := t, outAt := t } }
    let d := stepPending d (ceilDiv t (2 ^ 38))
    if tm.stepEnds then (timeTo g (setSwitch d 0 none) 2).raise 0x81 d.refSel else d

/-! ### Switches (R313) -/

/-- The SLEW phase begins on error `err`: the input is refused, the strand steps, or the timescale slews. -/
def slewStartOp (g : Pkg) (d : Strand) (err : Int) : Strand :=
  match d.tm.target with
  | none => d
  | some x =>
    if d.get 0x2000 0x05 ≠ 1 ∨ d.isQual x = false then d
    else if halfPs (d.get 0x2005 0x08) < err.natAbs then
      match stepPermit d with
      | some arm => stepWait (setRef (d.putInt 0x2000 0x08 64 (divNearest err 2)) x) err arm true false
      | none =>
        let d := (d.raise 0x86 x).raise 0x88 x
        reselect g (setSwitch { d with tm := { d.tm with refused := (x :: d.tm.refused).dedup } } 0 none)
    else
      let cur := d.refSel
      let d := slewBy { d with tm := { d.tm with holdRef := if d.timeState = 2 then cur else d.tm.holdRef } } err
      showHops g (setRef (setSwitch (d.putInt 0x2000 0x08 64 (divNearest err 2)) 2 (some x)) x)

/-- The remaining error is within the lock threshold: LOCKED. -/
def switchDoneOp (g : Pkg) (d : Strand) : Strand :=
  match d.tm.target with
  | none => d
  | some x =>
    if d.get 0x2000 0x05 = 2 ∧ slewRest d ≤ halfPs (lockNs x) then
      let d := setSwitch (slewBy d 0) 0 none
      reselect g ((timeTo g d 2).raise 0x81 x)
    else d

/-- The strand knows the TAI second (R309). -/
def todKnown (d : Strand) : Bool := d.tm.todKnown || (decide (4 ≤ d.refSel) && decide (d.refSel ≤ 8))

/-- Highest LOOP_BW_MHZ of an input (R314): one tenth of its phase comparisons, at most 1 kHz; the highest Sync rate
of R317 is 128 per second. -/
def loopMax (d : Strand) (n : Nat) : Nat :=
  if n ≤ 1 then 1000000 else if n ≤ 3 then 100
  else if n ≤ 7 then (if d.fixedLat (bits (d.refCfg n) 8 7) then 1000000 else 100 * d.get 0x3004 0x02) else 12800

/-- The bandwidth at which the loop follows an input for good, B_nom (R314). -/
def loopNom (d : Strand) (n : Nat) : Nat :=
  min (d.get 0x2004 (if n ≤ 1 then 0 else if n ≤ 3 then 1 else if n ≤ 7 then 2 else 3)) (loopMax d n)

/-- The acquisition is wide and has something to narrow (R315). -/
def wideAcq (g : Pkg) (d : Strand) : Bool := g.straps.tm && decide (loopNom d d.refSel ≠ loopMax d d.refSel)

/-- Both errors have been in range for 4 s. -/
def inRange4 (d : Strand) : Bool := decide (d.tm.inRange ≠ 0) && decide (d.tm.inRange - 1 + secTime 4 ≤ d.now)

/-- LOCKED from ACQUIRING. -/
def lockOp (g : Pkg) (d : Strand) : Strand :=
  if d.timeState = 1 ∧ todKnown d ∧ inRange4 d ∧ (wideAcq g d = false ∨ 15 ≤ d.tm.narrow) then timeTo g d 2 else d

/-- One step of the narrowing of R315, every 2 s: after `narrow` of them the bandwidth is B0 times r to that power. -/
def narrowOp (g : Pkg) (d : Strand) : Strand :=
  if d.timeState = 1 ∧ g.straps.tm ∧ d.tm.narrow < 15 ∧ d.tm.acqAt + secTime (2 * (d.tm.narrow + 1)) ≤ d.now then
    { d with tm := { d.tm with narrow := d.tm.narrow + 1 } }
  else d

/-- The holdover uncertainty exceeds HOLD_LIMIT_NS. -/
def holdLimitOp (g : Pkg) (d : Strand) : Strand :=
  if d.timeState = 3 ∧ d.get 0x2006 0x01 ≠ 1 ∧ d.get 0x2000 0x05 ≠ 2 ∧ d.get 0x2005 0x05 < holdModel d d.now
      then reselect g (timeTo g d 4) else d

/-- ACQUIRING without the TAI second. -/
def todMissingOp (d : Strand) : Strand := d.raiseIf (decide (d.timeState = 1) && !(todKnown d)) 0x87 d.refSel

/-! ### Writes (R304, R307 to R309, R316) -/

/-- A write of REF_CFG. -/
def refCfgOp (g : Pkg) (d : Strand) (n v : Nat) : Strand :=
  let v := bits v 0 5 + bits v 8 7 * 2 ^ 8
  let s := bits v 8 7
  let bad := bit v 0 && (
    (inR 4 7 n && (!(d.agushLane s) || [4, 5, 6, 7].any fun k =>
      decide (k ≠ n) && bit (d.refCfg k) 0 && decide (bits (d.refCfg k) 8 7 = s))) ||
    (decide (n = 8) && !(decide (s < 24) && bit (d.ethPort s) 9)))
  if bad then d.answer 0x02
  else
    let same := decide (bits v 8 7 = bits (d.refCfg n) 8 7) && bit v 0
    let d := (d.put 0x2001 n v).answer 0x00
    let d := { d with tm := { d.tm with refused := d.tm.refused.filter fun k => decide (k ≠ n) } }
    if same then reselect g d else reselect g (refBreakOp g d n)

/-- A write of QUAL_HOLDOFF_MS. -/
def qualHoldOp (d : Strand) (v : Nat) : Strand :=
  if inR 100 60000 v && perSecondOk (d.get 0x3004 0x02) v then (d.put 0x2005 0x01 v).answer 0x00 else d.answer 0x02

/-- A PPS input from which a TOD_LOAD would take its second: the selected one, or that of the selected REF10 input. -/
def todPps (d : Strand) : Option Nat :=
  let n := d.refSel
  if n = 2 ∨ n = 3 then some n
  else if n < 2 ∧ bit (d.refCfg n) 4 then some (n + 2) else none

/-- The strand's count of the second that begins at the next edge of a PPS. -/
def nextSecond (d : Strand) : Nat := d.now / 2 ^ 48 + 1

/-- A write of TOD_LOAD. -/
def todLoadOp (d : Strand) (v : Nat) : Strand :=
  match todPps d with
  | none => d.answer 0x02
  | some n =>
    if !(d.isQual n) then d.answer 0x02
    else if v ≠ nextSecond d ∧ (stepPermit d).isNone then (d.raise 0x88 n).answer 0x01
    else ({ d with tm := { d.tm with tod := some v } }).answer 0x00

/-- A write of 1 to TIME_STEP_ARM: one step is permitted, and refused inputs are candidates again. -/
def stepArmOp (g : Pkg) (d : Strand) (v : Nat) : Strand :=
  if v % 2 = 0 then d.answer 0x00
  else (reselect g { d with tm := { d.tm with stepArm := true, refused := [] } }).answer 0x00

/-- A write of SLEW_MAX_NS: inputs that were refused are candidates again (R313). -/
def slewMaxOp (g : Pkg) (d : Strand) (v : Nat) : Strand :=
  if 400000 < v then d.answer 0x02
  else
    let d := { d.put 0x2005 0x08 v with tm := { d.tm with refused := [] } }
    (reselect g d).answer 0x00

/-- A write of TIME_SLEW_NS_S: what is left to slew goes on at the new rate. -/
def slewRateOp (d : Strand) (v : Nat) : Strand :=
  if 10 ≤ v ∧ v ≤ 10000 then ((slewBy d (d.tm.slewLeft - slewMoved d d.now)).put 0x2005 0x07 v).answer 0x00
  else d.answer 0x02

/-- A write of LOOP_MODE. -/
def loopModeOp (g : Pkg) (d : Strand) (v : Nat) : Strand :=
  let old := d.get 0x2006 0x01
  if 1 < v then d.answer 0x02
  else if v = old then d.answer 0x00
  else
    let d := d.put 0x2006 0x01 v
    let d := if v = 1 then
        let keep := d.refSel
        let d := { d with tm := { d.tm with holdRef := if keep = 0x0F then d.tm.holdRef else keep } }
        timeTo g (setRef (setSwitch d 0 none) 0x0F) (d.get 0x2006 0x04)
      else match chooseRef g d 0x0F with
        | some x => setSwitch d 1 (some x)
        | none => reselect g d
    (showStatus g (setRef d d.refSel)).answer 0x00

/-- A write of FREQ_ADJ. -/
def freqAdjOp (d : Strand) (v : Nat) : Strand :=
  let x := toSigned 64 v
  if 56294995342 < x.natAbs then d.answer 0x02
  else
    let d := (d.put 0x2006 0x02 v).answer 0x00
    if d.get 0x2006 0x01 = 1 then { d with tm := { d.tm with freqOff := x } } else d

/-- A write of PHASE_ADJ_PS: a slew under a software loop. -/
def phaseAdjOp (d : Strand) (v : Nat) : Strand :=
  let h := 2 * toSigned 64 v
  if d.get 0x2006 0x01 = 1 then
    (slewBy d (d.tm.slewLeft - slewMoved d d.now + h)).answer 0x00
  else d.answer 0x00

/-- A write of SOFT_STATE. -/
def softStateOp (g : Pkg) (d : Strand) (v : Nat) : Strand :=
  if v = 1 ∨ 4 < v then d.answer 0x02
  else
    let d := (d.put 0x2006 0x04 v).answer 0x00
    if d.get 0x2006 0x01 = 1 then timeTo g d v else d

/-! ### Edges, TIME frames and PTP (R306, R309, R317) -/

/-- A capture of an input's edge or frame (R324). -/
def refCapture (d : Strand) (n : Nat) : Strand := d.put 0x2003 n (time80 d.now)

/-- An edge of REF10A or REF10B with its phase error. -/
def ref10Op (g : Pkg) (d : Strand) (n : Nat) (h : Int) : Strand :=
  if n < 2 ∧ bit (d.refCfg n) 0 then phaseSeen (refPresentOp g (refCapture d n) n) n h else d

/-- A TOD_LOAD is applied at the leading edge of its PPS: the named second, by a step where it differs. -/
def todApply (d : Strand) (n : Nat) : Strand :=
  match d.tm.tod with
  | none => d
  | some s =>
    if todPps d ≠ some n then d
    else
      let count := (d.now + 2 ^ 47) / 2 ^ 48
      let d := { d with tm := { d.tm with tod := none } }
      if s = count then { d with tm := { d.tm with todKnown := true, todLoaded := true } }
      else match stepPermit d with
        | some arm => stepWait d (((s : Int) - count) * 2000000000000) arm false true
        | none => d.raise 0x88 n

/-- A leading edge of a PPS against the one before it, on the timebase: more than FQ_WIN_PPM away from 1 s is a break,
and the conditions begin to hold anew (R308). -/
def ppsSpaced (g : Pkg) (d : Strand) (n : Nat) : Strand :=
  let t : Int := d.sageBase + (d.now : Int)
  let off := (t - smGet (fun _ => (0 : Int)) d.tm.edgeAt n - (2 ^ 48 : Nat)).natAbs
  let d := if smGet zeroAt d.tm.candSince n ≠ 0 ∧ d.get 0x2005 0x03 * 2 ^ 48 < off * 1000000 then refBreakOp g d n else d
  { d with tm := { d.tm with edgeAt := smSet (fun _ => (0 : Int)) d.tm.edgeAt n t } }

/-- A leading edge of PPSA or PPSB with its phase error. -/
def ppsOp (g : Pkg) (d : Strand) (n : Nat) (h : Int) : Strand :=
  if (n = 2 ∨ n = 3) ∧ bit (d.refCfg n) 0 then
    todApply (phaseSeen (refPresentOp g (ppsSpaced g (refCapture d n) n) n) n h) n
  else d

/-- What the PTP servo sees of the chosen time transmitter (R317). -/
def ptpOp (g : Pkg) (d : Strand) (m : PtpMsg) : Strand :=
  if d.sageUp = false ∨ !(refPresent d 8) ∨ m.domain ≠ bits (d.get 0x2007 0x01) 0 7 then d
  else
    let d := refCapture d 8
    if m.timedOut || !m.ptpTimescale || decide (d.get 0x2007 0x03 < m.clockClass) then refBreakOp g d 8
    else
      let h := 2 * m.offsetPs - d.getInt 0x2007 0x02 32
      phaseSeen (refPresentOp g d 8) 8 h

/-- The sage sends a delay request of its servo on the port of the PTP input. -/
def ptpDelayReqOp (d : Strand) : Strand :=
  let p := bits (d.refCfg 8) 8 7
  if d.sageUp && refPresent d 8 && d.getBit 0x3401 p 0 then
    let d := { d with tm := { d.tm with ptpReq := d.tm.ptpReq + 1 } }
    (d.bump 0x3402 p 1).emit .ether p []
  else d

/-! ### Boundary and pins (R321, R323) -/

/-- The partition is sampled (R321). -/
def partitionSample (d : Strand) : Strand :=
  let p := d.tm.partNow
  let d := d.raiseIf (p && !d.tm.partition) 0x85 d.tm.holdRef
  { d.put 0x2000 0x07 (b2n p) with tm := { d.tm with partition := p } }

/-- Pulses whose width has passed end. -/
def pinsFall (d : Strand) : Strand :=
  let d := if d.tm.ppsFin ≠ 0 ∧ d.tm.ppsFin ≤ d.now then { timePin d 4 false with tm := { d.tm with ppsFin := 0 } } else d
  if d.tm.epochFin ≠ 0 ∧ d.tm.epochFin ≤ d.now then { timePin d 5 false with tm := { d.tm with epochFin := 0 } } else d

/-- PPS_OUT pulses at a second of the output time. -/
def ppsOutOp (d : Strand) : Strand :=
  let d := pinsFall d
  if drivesPins d && d.getBit 0x2008 0x01 1 then
    { timePin d 4 true with tm := { d.tm with ppsFin := d.now + usTime (d.get 0x2008 0x02) } }
  else d

/-- EPOCH_OUT pulses at the boundaries that its divider picks. -/
def epochOutOp (d : Strand) : Strand :=
  let d := pinsFall d
  if drivesPins d && d.getBit 0x2008 0x01 2 && decide (epochOf d.now % (d.getF 0x2008 0x01 16 10 + 1) = 0) then
    { timePin d 5 true with tm := { d.tm with epochFin := d.now + nsTime (d.get 0x2008 0x03) } }
  else d

/-- HOLD_ELAPSED_S at a boundary. -/
def holdElapsed (d : Strand) : Strand :=
  d.put 0x2000 0x0A (if d.timeState = 3 ∨ d.timeState = 4 then (d.now - d.tm.holdAt) / 2 ^ 48 else 0)

end Sys2Proof.Machine
end

