-- ==== Sys2Proof/Machine/FrameOps.lean ====
section
/-! DEFINITION. Received Agush frames and their dispatch (R273 to R277, R279, R280), the TIME frame and what it
measures (R282 to R284, R306, R308, R320), and the loss of an AGUSH or PTP input with its lane or port. -/

namespace Sys2Proof.Machine

/-! ### The check of a frame (R273, R274) -/

/-- Length of the body of a frame of a TYPE, from the body's first bytes; none where TYPE or length is bad. -/
def frameBodyLen (type len : Nat) (b : List Byte) : Option Nat :=
  let n := match type with
    | 0 => 16
    | 1 => len - 12
    | 2 => 16 + 16 * fieldAt b 3 1
    | 3 => 32
    | 4 => 32
    | _ => fieldAt b 0 2
  let ok := match type with
    | 0 => true
    | 1 => inR 288 1056 n
    | 2 => inR 1 64 (fieldAt b 3 1)
    | 3 => true
    | 4 => true
    | 5 => inR 16 16384 n
    | _ => false
  if ok && decide (ceilDiv (12 + n) 4 * 4 = len) then some n else none

/-- A received frame. -/
structure RxFrame where
  type   : Nat
  bonded : Bool
  bseq   : Nat
  body   : List Byte
  deriving DecidableEq, Repr

/-- A frame that passes the checks of R274. -/
def frameCheck (b : List Byte) : Option RxFrame :=
  let len := fieldAt b 2 2
  let flags := fieldAt b 1 1
  if b.length ≠ len ∨ len < 28 ∨ 16400 < len ∨ len % 4 ≠ 0 ∨ fieldAt b 0 1 / 16 ≠ 1 ∨ 3 < flags ∨
      crc16 (b.take 6) ≠ fieldAt b 6 2 then none
  else
    match frameBodyLen (fieldAt b 0 1 % 16) len (b.drop 8) with
    | none => none
    | some n =>
      let body := (b.drop 8).take n
      if crc32 body = fieldAt b (8 + n) 4 then some ⟨fieldAt b 0 1 % 16, bit flags 0, fieldAt b 4 2, body⟩ else none

/-! ### SUM frames (R276, R81) -/

/-- One record of a SUM frame: kept for its slot, or discarded where its slot has passed. -/
def sumRecordIn (d : Strand) (r : SumRec) : Strand :=
  if r.samp < smGet zeroAt d.lanes.sumDone (sumKey r.ctx r.chan) then
    (d.bump 0x5800 0x07 1).raise 0x21 (d.physOf (bits (imgContext d.plan.active r.ctx) 16 8))
  else { d with lanes := { d.lanes with sums := d.lanes.sums ++ [r] } }

/-- A received SUM frame. -/
def sumRxOp (d : Strand) (n : Nat) (b : List Byte) : Strand :=
  let nb := max (fieldAt b 2 1) 1
  (List.range (fieldAt b 3 1)).foldl (fun d j =>
    sumRecordIn d ⟨d.endpointOf n, fieldAt b 0 2 % 4096 + j % nb, fieldAt b 4 2, fieldAt b 8 8 + j / nb, fieldAt b 6 1,
      (b.drop (16 + 16 * j)).take 16⟩) d

/-! ### DATA frames -/

/-- A block arrives at the gate at the time at which its last byte came in (R16), before it waited in a bond. -/
def dataRxOp (d : Strand) (n t : Nat) (b : List Byte) : Strand :=
  let now := d.now
  { blockArrivalOp { d with now := min t now } n false b with now := now }

/-! ### TIME frames (R282 to R284) -/

/-- A difference of two TIME80 values in units of 0.5 ps doubled: `2^-32 s` to `0.5 ps`, for half of it. -/
def t80Half (x : Int) : Int := divNearest (x * 1000000000000) 4294967296

/-- A measurement: the offset θ and the inbound delay, in units of 0.5 ps. -/
structure TimeMeas where
  theta : Int
  dIn   : Int
  deriving DecidableEq, Repr

/-- The four times of R283 in units of 2^-32 s and ASYM in ps. -/
def timeMeasure (t1 t2 t3 t4 : Nat) (asym : Int) : TimeMeas :=
  let a : Int := (t2 : Int) - t1
  let b : Int := (t4 : Int) - t3
  ⟨t80Half (a - b) - asym, t80Half (a + b) - asym⟩

/-- LINK_RX_NS (R284), from the exact mean of the inbound delays (R453). -/
def linkRxNs (d : Strand) (n : Nat) (dIns : List Int) : Nat :=
  let k := dIns.length
  ceilDiv (sumI dIns + (k * (laneRxFixed (recRate d n) * 200 + 8000) : Nat)).toNat (2000 * k)

/-- Declared values of LINKS and remote entries on a lane (R284): those of its LANE, and those of its peer. -/
def declaredNs (d : Strand) (n : Nat) : List Nat :=
  let m := d.plan.active
  let l := d.laneNo n
  let links := (List.range (secCount m 14 0 16)).filterMap fun i =>
    let w := secEntry m 14 0 16 i
    if bits w 16 7 = l ∨ bits w 16 7 = d.endpointOf n then some (bits w 64 32) else none
  let remotes := (List.range (imgRemoteCount m)).filterMap fun i =>
    let e := imgRemote m i
    if bit e 24 && decide (bits e 0 18 = peerOf d n) then some (bits e 32 32) else none
  links ++ remotes

/-- The AGUSH input that a lane feeds. -/
def agushInput (d : Strand) (l : Nat) : Option Nat :=
  [4, 5, 6, 7].find? fun k => bit (d.refCfg k) 0 && decide (bits (d.refCfg k) 8 7 = l)

/-- A measurement's results in the dictionary. -/
def timeResult (d : Strand) (n : Nat) (r : TimeMeas) : Strand :=
  let l := d.laneNo n
  let x := d.lane n
  let ds := (r.dIn :: x.dIns).take 16
  let d := d.setLane n { x with theta := r.theta, dIns := ds }
  let rx := linkRxNs d n ds
  let d := d.putInt 0x3202 l 64 (divNearest r.theta 2)
  let d := d.put 0x3201 l (divNearest (sumI ds) (2 * ds.length)).toNat
  let d := d.put 0x3203 l rx
  if d.hasPlan && (declaredNs d n).any fun v => decide (v < rx) then d.raiseOnce 0x79 l else d

/-- What the AGUSH input of a lane takes from a TIME frame (R308). -/
def timeInput (g : Pkg) (d : Strand) (l : Nat) (echo : Bool) (r : Option TimeMeas) : Strand :=
  match agushInput d l with
  | none => d
  | some k =>
    let n := d.recOf l
    let x := d.lane n
    let d := refCapture d k
    if 32 ≤ x.peerHops ∨ x.peerState < 2 ∨ 4 < x.peerState ∨ d.laneUp n = false then refBreakOp g d k
    else
      let d := if echo then refPresentOp g d k else d
      let d := match r with
        | some m => if cwRate d n = 0 ∨ d.timeState = 1 then phaseSeen d k m.theta else d
        | none => d
      showHops g d

/-- The value nearest `theta` that is `raw` modulo `p`. -/
def unwrapNear (raw theta : Int) (p : Nat) : Int := raw + p * divNearest (theta - raw) p

/-- A codeword on a fixed-latency lane that feeds an AGUSH input (R306): its arrival against k/C + d_in of the peer's
time, known modulo 256 codewords and unwrapped to the value nearest the last θ, is the phase measurement. -/
def codewordPhase (d : Strand) (n seq : Nat) : Strand :=
  let c := cwRate d n
  let x := d.lane n
  match agushInput d (d.laneNo n) with
  | none => d
  | some k =>
    if c = 0 ∨ x.dIns.isEmpty ∨ smGet zeroAt d.tm.candSince k = 0 then d
    else
      let cw := 2000000000000 / c
      let raw := ((seq % 256 * cw : Nat) : Int) + divNearest (sumI x.dIns) x.dIns.length -
        divNearest (d.now * 2000000000000 : Nat) (2 ^ 48)
      phaseSeen d k (unwrapNear raw x.theta (256 * cw))

/-- A codeword of a lane, and what the timing unit takes of it: one decoded in its place gives a phase measurement. -/
def codewordIn (d : Strand) (n : Nat) (dec : CwDecode) (seq : Nat) : Strand :=
  let d := codewordOp d n dec seq
  if dec ≠ .uncorrectable ∧ (d.lane n).locked ∧ (d.lane n).badRun = 0 ∧ d.laneState n = 2 then codewordPhase d n seq else d

/-- A received TIME frame. -/
def timeRxOp (g : Pkg) (d : Strand) (n : Nat) (b : List Byte) : Strand :=
  let l := d.laneNo n
  if l = 0x7F then d
  else
    let s := fieldAt b 24 1
    let echo := bit s 5
    let t4 := time80 d.now
    let x := d.lane n
    let x := { x with echo := some (fieldAt b 0 2, t4), peerState := bits s 0 3, peerTm := bit s 3, peerPart := bit s 4,
                      peerRank := fieldAt b 25 1 % 8, peerHops := fieldAt b 26 1,
                      lastTime := if echo then some d.now else x.lastTime }
    let d := d.setLane n x
    let own := x.txDeps.find? fun p => decide (p.1 = fieldAt b 12 2) && decide (d.now ≤ p.2 + msTime 64)
    let r := if echo then own.map fun p =>
        timeMeasure (time80 p.2) (fieldAt b 14 10) (fieldAt b 2 10) t4 (d.getInt 0x3200 l 32) else none
    let d := match r with
      | some m => timeResult d n m
      | none => d
    let two := timingMaster g d && x.peerTm && decide (x.peerHops = 0) && decide (peerOf d n % 65536 ≠ g.deviceId)
    let d := d.raiseIf two 0x8A ((agushInput d l).getD 0x0F)
    if two then showHops g d else timeInput g d l echo r

/-- The body of a TIME frame that is due; SEQ and T_DEP are written as it leaves. RANK without a reference, and the
echo without one, are values that the spec does not state. -/
def timeBody (g : Pkg) (d : Strand) (n : Nat) : List Byte × Strand :=
  let x := d.lane n
  let r := if d.refSel ≤ 8 then (refRank d d.refSel, d) else
    let f := d.freeNat
    (f.1 % 8, f.2)
  let e := match x.echo with
    | some p => (p, r.2)
    | none =>
      let f := r.2.freeNat
      ((f.1 % 2 ^ 16, f.1 / 2 ^ 16 % 2 ^ 80), f.2)
  let s := d.timeState + 8 * b2n g.straps.tm + 16 * b2n d.tm.partition + 32 * b2n x.echo.isSome
  (zeros 12 ++ natToBytes 2 e.1.1 ++ natToBytes 10 e.1.2 ++
    natToBytes 1 s ++ natToBytes 1 r.1 ++ natToBytes 1 (d.get 0x2000 0x06) ++ zeros 5, e.2)

/-- A TIME frame falls due, and leaves at the codeword boundary that its turn gives it. -/
def timeTxOp (g : Pkg) (d : Strand) (n : Nat) : Strand :=
  if d.laneRec n && d.laneUp n && d.agushLane (d.laneNo n) then
    let b := timeBody g d n
    sendOn (leaveIdle b.2 n) n 4 b.1
  else d

/-! ### Dispatch and bonds (R275, R280) -/

/-- A frame goes to what its TYPE names, having arrived at time `t`. -/
def frameTake (g : Pkg) (d : Strand) (n type t : Nat) (body : List Byte) : Strand :=
  match type with
  | 0 => idleRxOp g d n body
  | 1 => dataRxOp d n t body
  | 2 => sumRxOp d n body
  | 3 => trigFrameOp g d body
  | 4 => timeRxOp g d n body
  | _ => d

/-- The strand with a bond replaced. -/
def Strand.setBond (d : Strand) (b : Nat) (x : BondSt) : Strand :=
  { d with lanes := { d.lanes with bonds := smSet (fun _ => ({} : BondSt)) d.lanes.bonds b x } }

/-- A bond's state. -/
def Strand.bond (d : Strand) (b : Nat) : BondSt := smGet (fun _ => ({} : BondSt)) d.lanes.bonds b

/-- Delivers the waiting frames of a bond whose turn has come. -/
def bondDrain (g : Pkg) (b : Nat) : Nat → Strand → Strand
  | 0, d => d
  | fuel + 1, d =>
    let x := d.bond b
    match x.waiting.find? fun w => decide (w.seq = x.nextRx) with
    | none => d.setBond b { x with since := x.waiting.foldl (fun a w => min a w.at_) d.now }
    | some w =>
      let d := d.setBond b { x with nextRx := (x.nextRx + 1) % 65536, waiting := x.waiting.erase w }
      bondDrain g b fuel (frameTake g d w.n w.type w.at_ w.body)

/-- A bonded frame: delivered in its turn, kept until then, or lost where it comes too late. -/
def bondRx (g : Pkg) (d : Strand) (b n : Nat) (f : RxFrame) : Strand :=
  let x := d.bond b
  if 32768 ≤ serialSub 16 f.bseq x.nextRx then d
  else
    let x := { x with since := if x.waiting.isEmpty then d.now else x.since,
                      waiting := x.waiting ++ [⟨f.bseq, d.now, n, f.type, f.body⟩] }
    bondDrain g b (x.waiting.length + 1) (d.setBond b x)

/-- The lowest BSEQ that waits, as a distance from the next one expected. -/
def bondGap (x : BondSt) : Nat := x.waiting.foldl (fun a w => min a (serialSub 16 w.seq x.nextRx)) 65535

/-- A missing BSEQ has been waited for 200 ns. -/
def bondTimeoutOp (g : Pkg) (d : Strand) (b : Nat) : Strand :=
  let x := d.bond b
  if x.waiting.isEmpty ∨ d.now < x.since + nsTime 200 then d
  else bondDrain g b (x.waiting.length + 1) (d.setBond b { x with nextRx := (x.nextRx + bondGap x) % 65536 })

/-- A discarded frame (R274). -/
def frameDiscard (d : Strand) (n : Nat) : Strand := (d.bump (0x3100 + n) 0x08 1).raiseOnce 0x77 (d.laneNo n)

/-- Fill words at a frame start are skipped (R273). -/
def skipFill : Nat → List Byte → List Byte
  | 0, b => b
  | fuel + 1, b => if 4 ≤ b.length ∧ bytesToNat (b.take 4) = 0 then skipFill fuel (b.drop 4) else b

/-- A received frame, after any fill; a record that carries no logical lane takes IDLE frames only, one that runs
another protocol none. -/
def frameRxOp (g : Pkg) (d : Strand) (n : Nat) (bad : Bool) (b : List Byte) : Strand :=
  let b := skipFill b.length b
  if d.idles n = false ∨ d.laneState n ≠ 2 ∨ b.isEmpty then d
  else match frameCheck b with
  | none => frameDiscard d n
  | some f =>
    if bad then frameDiscard d n
    else if f.type ≠ 0 ∧ d.agushLane (d.laneNo n) = false then d
    else
      let e := d.endpointOf n
      if f.bonded && decide (f.type = 1 ∨ f.type = 2 ∨ f.type = 5) && decide (0x40 ≤ e ∧ e < 0x50) then
        bondRx g d (e - 0x40) n f
      else frameTake g d n f.type d.now f.body

/-- A body of one TYPE received on a record that carries frames. -/
def bodyRxOp (g : Pkg) (d : Strand) (n type len : Nat) (body : List Byte) : Strand :=
  if d.idles n && decide (d.laneState n = 2) && decide (body.length = len) &&
      (decide (type = 0) || d.agushLane (d.laneNo n)) then frameTake g d n type d.now body else d

/-- A received SUM body. -/
def sumBodyOp (g : Pkg) (d : Strand) (n : Nat) (body : List Byte) : Strand :=
  if inR 1 64 (fieldAt body 3 1) then bodyRxOp g d n 2 (16 + 16 * fieldAt body 3 1) body else d

/-- A member of a bond is DOWN and no swap replaces it. -/
def bondDegradedOp (d : Strand) (b l : Nat) : Strand :=
  if d.bondOn b && (d.bondMembers b).contains l && d.memberLost l then
    (refreshOutputs d).raiseOnce 0x7A (0x40 + b)
  else d

/-! ### Inputs that lose their lane or port (R307, R308) -/

/-- AGUSH and PTP inputs whose lane or port no longer bears them break. -/
def refsRecheck (g : Pkg) (d : Strand) : Strand :=
  [4, 5, 6, 7, 8].foldl (fun d k =>
    let l := bits (d.refCfg k) 8 7
    if smGet zeroAt d.tm.candSince k ≠ 0 ∧ (refPresent d k = false ∨ (k < 8 ∧ d.laneUp (d.recOf l) = false)) then
      refBreakOp g d k
    else d) (showStatus g d)

end Sys2Proof.Machine
end

