-- ==== Sys2Proof/Machine/LinkOps.lean ====
section
/-! DEFINITION. Ethernet ports and datagrams (R289 to R294) and JESD204C links (R295 to R298). -/

namespace Sys2Proof.Machine

/-! ### Datagrams (R291, R292) -/

/-- Bytes of a number, most significant first (network byte order). -/
def netBytes (n v : Nat) : List Byte := (natToBytes n v).reverse

/-- Big-endian number at an offset. -/
def netField (b : List Byte) (o n : Nat) : Nat := bytesToNat ((b.drop o).take n).reverse

/-- Ones' complement sum of the 16-bit words of a list. -/
def onesSum (b : List Byte) : Nat :=
  let s := (chunksOf 2 b.length b).foldl (fun a w => a + netField (w ++ zeros (2 - w.length)) 0 2) 0
  let f := fun (x : Nat) => x % 65536 + x / 65536
  f (f (f s))

/-- Internet checksum of a list. -/
def inetSum (b : List Byte) : Nat := 65535 - onesSum b

/-- A UDP checksum: 0 is sent as 0xFFFF. -/
def udpSum (b : List Byte) : Nat := if inetSum b = 0 then 65535 else inetSum b

/-- The UDP header and payload of a flow; `pseudo` is the pseudo-header of the checksum, none where it is 0. -/
def udpPart (f : Nat) (pseudo : Option (List Byte)) (p : List Byte) : List Byte :=
  let len := 8 + p.length
  let h := netBytes 2 (bits f 96 16) ++ netBytes 2 (bits f 112 16) ++ netBytes 2 len
  let sum := match pseudo with
    | none => 0
    | some x => udpSum (x ++ h ++ zeros 2 ++ p)
  h ++ netBytes 2 sum ++ p

/-- The Ethernet frame, without FCS, of a packet on a flow with an IPv4 identification. The port's MAC begins with
[23:16] (R290); that DST_MAC does too is a DESIGN CHOICE (assumption log 66), for R291 does not say. -/
def flowFrame (port f ident : Nat) (p : List Byte) : List Byte :=
  let len := 8 + p.length
  let mac := natToBytes 6 (bits f 16 48) ++ natToBytes 6 (bits port 16 48)
  let tag := if bit f 6 then netBytes 2 0x8100 ++ netBytes 2 (bits f 64 3 * 2 ^ 13 + bits f 67 12) else []
  let tos := bits f 80 6 * 4
  if bit f 7 then
    let addrs := netBytes 16 (bits f 256 128) ++ netBytes 16 (bits f 384 128)
    mac ++ tag ++ netBytes 2 0x86DD ++ netBytes 4 (6 * 2 ^ 28 + tos * 2 ^ 20) ++ netBytes 2 len ++ netBytes 1 17 ++
      netBytes 1 (bits f 88 8) ++ addrs ++ udpPart f (some (addrs ++ netBytes 4 len ++ zeros 3 ++ netBytes 1 17)) p
  else
    let addrs := netBytes 4 (bits f 256 32) ++ netBytes 4 (bits f 384 32)
    let h := netBytes 1 0x45 ++ netBytes 1 tos ++ netBytes 2 (20 + len) ++ netBytes 2 ident ++ netBytes 2 0x4000 ++
      netBytes 1 (bits f 88 8) ++ netBytes 1 17
    let sum := inetSum (h ++ zeros 2 ++ addrs)
    mac ++ tag ++ netBytes 2 0x0800 ++ h ++ netBytes 2 sum ++ addrs ++
      udpPart f (if bit f 8 then some (addrs ++ zeros 1 ++ netBytes 1 17 ++ netBytes 2 len) else none) p

/-- A packet leaves as one UDP datagram of a flow, with the value of the flow under which it closed. -/
def flowSend (d : Strand) (fl f : Nat) (p : List Byte) : Strand :=
  let port := bits f 0 5
  let ident := smGet zeroAt d.lanes.ipId fl
  let d := { d with lanes := { d.lanes with ipId := smSet zeroAt d.lanes.ipId fl ((ident + 1) % 65536) } }
  (d.bump 0x3402 port 1).emit .ether port (flowFrame (d.ethPort port) f ident p)

/-! ### Received frames (R289, R293) -/

/-- The PTP message of a frame that a port with PTP_EN accepts. -/
def ptpPayload (c : Nat) (b : List Byte) : Option (List Byte) :=
  let et := netField b 12 2
  if !(bit c 9) then none
  else if et = 0x88F7 then some (b.drop 14)
  else if bit c 10 then
    if et = 0x86DD ∧ netField b 20 1 = 17 ∧ netField b 38 16 = bits c 128 128 ∧
        (netField b 56 2 = 319 ∨ netField b 56 2 = 320) then some (b.drop 62) else none
  else if et = 0x0800 ∧ netField b 14 1 = 0x45 ∧ netField b 23 1 = 17 ∧ netField b 30 4 = bits c 128 32 ∧
      (netField b 36 2 = 319 ∨ netField b 36 2 = 320) then some (b.drop 42) else none

/-- A received Ethernet frame: PTP goes to the sage, with the capture of a Sync; any other is counted. -/
def ethRxOp (d : Strand) (p : Nat) (b : List Byte) : Strand :=
  let c := d.ethPort p
  if !(d.getBit 0x3401 p 0) then d
  else match ptpPayload c b with
  | none => d.bump 0x3403 p 1
  | some m =>
    if bit (d.refCfg 8) 0 && decide (bits (d.refCfg 8) 8 7 = p) && decide (netField m 0 1 % 16 = 0) then refCapture d 8
    else d

/-! ### Ports (R294) -/

/-- Every lane of a port takes a state. -/
def portLaneState (d : Strand) (p v : Nat) : Strand :=
  (portLanes (d.ethPort p)).foldl (fun d l =>
    if d.laneState (d.recOf l) = 6 then d else d.setLaneState (d.recOf l) v) d

/-- A port loses its link and trains again. -/
def portDrop (d : Strand) (p : Nat) : Strand := refreshOutputs ((portLaneState d p 1).put 0x3401 p 2)

/-- A lane swap of a port. -/
def ethSwapOp (d : Strand) (p l : Nat) : Strand :=
  let c := d.ethPort p
  if bit c 0 && (portLanes c).contains l then
    match sparesFor d l with
    | [] => sparesOut d l
    | s :: _ => (portDrop (coldMove d l s) p).raiseOnce 0x7B l
  else d

/-- The link of a port drops for another reason. -/
def ethDownOp (d : Strand) (p : Nat) : Strand :=
  if d.getBit 0x3401 p 0 then (portDrop d p).raiseOnce 0x7C (bits (d.ethPort p) 4 5) else d

/-- Link training of a port completes. -/
def ethUpOp (d : Strand) (p : Nat) : Strand :=
  if bit (d.ethPort p) 0 && !(d.getBit 0x3401 p 0) then
    refreshOutputs ((portLaneState d p 2).put 0x3401 p 1)
  else d

/-! ### JESD204C (R296 to R298) -/

/-- Samples of each stream in an extended multiblock. -/
def jesdCount (c : Nat) : Nat := 2048 * jesdE c * jesdL c / max 1 (jesdM c * jesdNp c)

/-- Bytes of a sample code in the operand of an edge. -/
def jesdWidth (c : Nat) : Nat := if jesdFmt c = 4 then 1 else if jesdFmt c = 2 then 4 else 2

/-- Number of the first sample that edge `k` releases, relative to ORIGIN; none off the grid. -/
def jesdFirstSample (c e k : Nat) (adj : Int) : Option Int :=
  let r := jesdKbps c * 1000
  let den : Nat := r * 1000000000000 * 1024
  let t : Int := (k * 2112 * jesdE c * 1000000000000 * 1024 + bits c 96 32 * r * 1024 : Nat) -
    (stOrigin e * r * 1000000000000 : Nat)
  let q : Nat := den * stDen e
  let x := t * stNum e
  if q = 0 then none else if x % (q : Int) = 0 then some (x / (q : Int) - adj) else none

/-- Payload of a block of sample codes (R98): 12-bit samples pack two to three bytes. -/
def jesdPayload (c : Nat) (l : List Nat) : List Byte :=
  if jesdFmt c = 3 then
    (chunksOf 2 l.length l).flatMap fun p => natToBytes 3 (p.headD 0 % 4096 + (p.drop 1).headD 0 % 4096 * 4096)
  else l.flatMap (natToBytes (jesdWidth c))

/-- One sample of a stream: a block begins at a multiple of 256 and goes to the gate when it is full. -/
def jesdSample (j i s e : Nat) (d : Strand) (n : Int) (v : Nat) : Strand :=
  let key := 4096 * j + i
  let c := d.jesd j
  if n < 0 then d
  else
    let n := n.toNat
    let buf := smGet (fun _ => ([] : List Nat)) d.lanes.jesdBuf key
    let buf := if n % 256 = 0 then [v] else if buf.length = n % 256 then buf ++ [v] else []
    let full := decide (buf.length = 256)
    let d := { d with lanes := { d.lanes with
                jesdN := smSet zeroAt d.lanes.jesdN key (n + 2),
                jesdBuf := smSet (fun _ => ([] : List Nat)) d.lanes.jesdBuf key (if full then [] else buf) } }
    if full then
      blockArrivalOp d (0x60 + j) false
        (blockHeader s (jesdFmt c) 0 (stTime e (n / 256)) (n / 256) 0 ++ jesdPayload c buf)
    else d

/-- The samples of one stream at an edge. -/
def jesdStreamEdge (j k : Nat) (codes : Nat → Nat → Nat) (d : Strand) (i : Nat) : Strand :=
  let c := d.jesd j
  let s := jesdBase c + i
  let e := imgStream d.plan.active s
  if !(d.hasPlan && stValid e && decide (stLane e = 0x60 + j)) then d
  else match jesdFirstSample c e k (d.getInt 0x3602 j 32) with
  | none => d
  | some n0 =>
    let key := 4096 * j + i
    let go := decide (smGet zeroAt d.lanes.jesdN key = (n0 + 1).toNat)
    let d := if go then d else
      { d with lanes := { d.lanes with jesdBuf := smSet (fun _ => ([] : List Nat)) d.lanes.jesdBuf key [] } }
    (List.range (jesdCount c)).foldl (fun (d : Strand) (x : Nat) => jesdSample j i s e d (n0 + (x : Int)) (codes x i)) d

/-- A local extended multiblock edge: `samples` holds, for each sample in turn, the code of every stream. -/
def jesdEdgeOp (d : Strand) (j k : Nat) (samples : List Byte) : Strand :=
  let c := d.jesd j
  let w := jesdWidth c
  let codes := fun x i => fieldAt samples ((x * jesdStreams c + i) * w) w
  if bit c 0 && d.getBit 0x3601 j 0 then (List.range (jesdStreams c)).foldl (jesdStreamEdge j k codes) d else d

/-- A link goes down and retrains. -/
def jesdDownOp (d : Strand) (j : Nat) : Strand :=
  if bit (d.jesd j) 0 && d.getBit 0x3601 j 0 then jesdRestart d j else d

/-- A link has regained lock on all its lanes. -/
def jesdUpOp (d : Strand) (j : Nat) : Strand :=
  if bit (d.jesd j) 0 && !(d.getBit 0x3601 j 0) then
    let d := (jesdLanes (d.jesd j)).foldl (fun d l =>
      if d.laneState (d.recOf l) = 6 then d else d.setLaneState (d.recOf l) 2) d
    d.put 0x3601 j 1
  else d

/-- A CRC-12 error: counted and raised; the seventeenth in 1 ms takes the link down. -/
def jesdCrcOp (d : Strand) (j : Nat) : Strand :=
  if bit (d.jesd j) 0 then
    let d := (d.bump 0x3603 j 1).raiseOnce 0x7E (0x60 + j)
    let l := d.now :: (smGet (fun _ => ([] : List Nat)) d.lanes.jesdCrc j).filter fun t => decide (d.now < t + msTime 1)
    let down := decide (16 < l.length)
    let d := { d with lanes := { d.lanes with
      jesdCrc := smSet (fun _ => ([] : List Nat)) d.lanes.jesdCrc j (if down then [] else l) } }
    if down then jesdDownOp d j else d
  else d

end Sys2Proof.Machine
end

