-- ==== Sys2Proof/Machine/PowerOps.lean ====
section
/-! DEFINITION. Power domains (R410 to R413), regulators (R408, R418), retests of cells and lanes (R406, R407). -/

namespace Sys2Proof.Machine

/-! ### Domains (R410 to R412) -/

/-- Wake latency of a domain in µs (R410). -/
def wakeUs (n : Nat) : Nat :=
  if n < 3 then 30 else if n = 3 then 15 else if n < 0x0C then 12 else if n = 0x0C then 20 else if n = 0x0D then 25
  else if n = 0x0E then 10 else if n = 0x0F then 60 else if n = 0x40 then 200 else if n = 0x41 then 2000
  else if n = 0x42 then 50 else 20

/-- Sets a strand domain's state. -/
def Strand.setDomain (d : Strand) (n v : Nat) : Strand := d.put 0x2401 n v

/-- The state of a shared domain (R425). -/
def Pkg.domain (g : Pkg) (n : Nat) : Nat := g.get 0x2604 (n - 0x40)

/-- Sets a shared domain's state. -/
def Pkg.setDomain (g : Pkg) (n v : Nat) : Pkg := g.put 0x2604 (n - 0x40) v

/-- The package monitor has power: it monitors the feeds, XIN and the store-die temperature (R9, R410). -/
def Pkg.monitored (g : Pkg) : Bool := decide (g.domain 0x42 = 2)

/-- Physical pairs of a lane group (R262). -/
def groupPairs (n : Nat) : List Nat := (List.range 26).filter fun k => decide (laneGroup k = n)

/-- Physical cells of a cell domain. -/
def domainCells (dom : Nat) : List Nat := (List.range 34).map (34 * dom + ·)

/-- A pair is enabled, under test or in a loopback. -/
def pairNeeded (d : Strand) (k : Nat) : Bool :=
  (decide (d.laneNo k < 24) && decide (d.laneRate (d.laneNo k) ≠ 0)) || decide (d.laneState k = 4) ||
    decide (d.get (0x3100 + k) 0x0A ≠ 0) || (d.lane k).retest ||
    d.lanes.swaps.any fun x => decide (x.spare = k) || decide (x.old = k)

/-- A cell of a domain has a role, is TESTING or under self-test. -/
def cellsNeeded (d : Strand) (dom : Nat) : Bool :=
  let inDom := fun l => decide (d.physOf l < 272) && decide (d.physOf l / 34 = dom)
  (d.hasPlan && (List.range 256).any fun l => inDom l && (imgRole d.plan.active l || imgRole (d.planOf l) l)) ||
    (decide (d.shadowState = 5) && (List.range 256).any fun l => inDom l && imgRole d.shadowImage l) ||
    (domainCells dom).any fun p => decide (d.cellState p = 3) || d.pow.selfTest.contains p ||
      d.work.splices.any fun x => decide (x.old = p)

/-- A condition of R412 keeps a strand domain on. -/
def domainNeeded (d : Strand) (n : Nat) : Bool :=
  if n < 3 then (groupPairs n).any (pairNeeded d)
  else if 4 ≤ n ∧ n < 0x0C then cellsNeeded d (n - 4)
  else decide (d.stState = 1) || decide (d.stState = 2)

/-- Heat or sleep holds a strand domain off. -/
def heldOff (d : Strand) (n : Nat) : Bool :=
  d.pow.stripOff || d.pow.thermOff.contains n || decide (d.get 0x2400 0x01 ≠ 0)

/-! ### What a domain loses with its power (R90, R125, R210) -/

/-- A lane group without power: its pairs are OFF but for the RETIRED ones. -/
def loseLanes (d : Strand) (n : Nat) : Strand :=
  refreshOutputs ((groupPairs n).foldl (fun d k =>
    let x := d.lane k
    let d := d.setLane k { testOk := x.testOk, retest := x.retest, symSec := x.symSec }
    if d.laneState k = 6 then d else d.setLaneState k 0) d)

/-- Ingest without power: blocks in staging, chains and delay-line metadata are lost, the numbering goes on. -/
def loseIngest (d : Strand) : Strand :=
  { d with ing := { next := d.ing.next, dly := d.ing.dly, pen := d.ing.pen, penFrom := d.ing.penFrom, taken := d.ing.taken,
                    closed := d.ing.closed, gapAt := d.ing.gapAt } }

/-- Braid and queues without power: packets, beats and corner-turn engines are lost. -/
def loseQueues (d : Strand) : Strand :=
  let d := { d with q := {}, beats := [], ctWords := [], ct := [], ctPos := [], descJ := [] }
  if d.hasPlan then
    let r := imgPool d.plan.active
    refreshOutputs (poolInit d ((r.map (·.base)).getD 0) ((r.map (·.cells)).getD 0))
  else d

/-- Contents that a strand domain loses with its power. -/
def loseDomain (d : Strand) (n : Nat) : Strand :=
  if n < 3 then loseLanes d n
  else if n = 3 then loseIngest d
  else if n < 0x0C then { d with cells := d.cells.filter fun x => decide (x.1 / 34 ≠ n - 4) }
  else if n = 0x0C then loseQueues d
  else if n = 0x0E then { outputsOff d with trig := {} }
  else d

/-- A strand domain goes off, to OFF (0) or, held off after a failure, FAILED (3). -/
def domainOff (d : Strand) (n st : Nat) : Strand :=
  let d := { d.setDomain n st with pow := { d.pow with wakeBy := smSet zeroAt d.pow.wakeBy n 0 } }
  loseDomain d n

/-- A domain begins to wake; without XIN no control pair or lane group does (R415). -/
def wakeDomain (g : Pkg) (d : Strand) (n : Nat) : Strand :=
  if d.domain n = 1 ∨ d.domain n = 2 then d
  else if (n < 3 ∨ n = 0x0F) ∧ g.get 0x2601 0x01 ≠ 0 then d.raise 0xB7 n
  else { d.setDomain n 1 with pow := { d.pow with wakeBy := smSet zeroAt d.pow.wakeBy n (d.sage + usTime (2 * wakeUs n)) } }

/-- Domains that nothing keeps on are powered off (R412). -/
def autoOff (d : Strand) : Strand :=
  if d.getBit 0x2400 0x02 0 then
    (List.range 16).foldl (fun d n => if d.domain n = 2 ∧ domainNeeded d n = false then domainOff d n 0 else d) d
  else d

/-! ### Commands on domains -/

/-- A write of DOMAIN_REQ. -/
def domainReqOp (g : Pkg) (d : Strand) (n v : Nat) : Strand :=
  if 1 < v then d.answer 0x02
  else if v = 1 then (if heldOff d n then d else wakeDomain g d n).answer 0x00
  else if domainNeeded d n then d.answer 0x01
  else (if d.domain n = 0 then d else domainOff d n 0).answer 0x00

/-- The sage wakes a domain that a condition or a pending plan needs; one that failed waits for the ladder. -/
def domainWakeOp (g : Pkg) (d : Strand) (n : Nat) : Strand :=
  if n < 16 ∧ d.getBit 0x2400 0x02 0 ∧ d.domain n = 0 ∧ domainNeeded d n ∧ heldOff d n = false then wakeDomain g d n else d

/-- Lanes of a group that has power: enabled lanes and spare pairs train, RETIRED pairs are tested. -/
def lanesUp (d : Strand) (n : Nat) : Strand :=
  (groupPairs n).foldl (fun d k =>
    if d.laneState k = 6 then d.setLane k { d.lane k with retest := true }
    else if d.laneNo k = 0x7F ∨ d.laneRate (d.laneNo k) ≠ 0 then d.setLaneState k 1
    else d) d

/-- Cells of a domain that has power: those with a role take their images, FAILED ones are tested. -/
def cellsUp (d : Strand) (dom : Nat) : Strand :=
  let ls := (List.range 256).filter fun l => d.hasPlan && decide (d.physOf l / 34 = dom) && imgRole (d.planOf l) l
  let d := ls.foldl (fun d l => loadBanks d [] (d.planOf l) l) d
  let d := if ls.isEmpty then d else setGates d
  let failed := (domainCells dom).filter fun p => decide (d.cellState p = 4)
  { d with pow := { d.pow with selfTest := (failed ++ d.pow.selfTest).dedup } }

/-- A waking strand domain reaches power-good after `us` µs. -/
def domainGoodOp (d : Strand) (n us : Nat) : Strand :=
  if n < 16 ∧ d.domain n = 1 then
    let d := (d.setDomain n 2).put 0x2403 n (min us 0xFFFF)
    let d := { d with pow := { d.pow with wakeBy := smSet zeroAt d.pow.wakeBy n 0 } }
    if n < 3 then lanesUp d n else if 4 ≤ n ∧ n < 0x0C then cellsUp d (n - 4) else d
  else d

/-- Twice the wake latency has passed without power-good. -/
def domainLateOp (d : Strand) (n : Nat) : Strand :=
  if n < 16 ∧ d.domain n = 1 ∧ smGet zeroAt d.pow.wakeBy n ≤ d.sage then (domainOff d n 3).raise 0xB7 n else d

/-- A domain that is on loses power-good. -/
def domainLossOp (d : Strand) (n : Nat) : Strand :=
  if n < 16 ∧ d.domain n = 2 then (domainOff d n 3).raise 0xB7 n else d

/-! ### Shared domains (R410, R412, R413) -/

/-- A strand is asleep: 1 SLEEP_RETAIN, 2 SLEEP_OFF (R423). -/
def Strand.sleep (d : Strand) : Nat := d.get 0x2400 0x01

/-- A condition of R412 keeps a shared domain on, given the strands. -/
def sharedNeeded (g : Pkg) (ds : List Strand) (n : Nat) : Bool :=
  if n = 0x40 then !(bit (g.get 0x2602 0x02) 0 && ds.all fun d => decide (d.sleep ≠ 0))
  else if n = 0x41 then bit (g.get 0x2602 0x01) 0 || ds.any fun d => decide (d.sleep ≠ 2)
  else true

/-! ### Regulators (R408, R418) -/

/-- Rating of a phase in units of 0.1 A: CELL, LANE, CORE, STORE, HOST. -/
def phaseRating (r : Nat) : Nat := [25, 8, 10, 6, 4].getD r 0

/-- REG_STATUS after a phase has failed. -/
def phaseLost (v : Nat) : Nat :=
  if 0 < bits v 8 8 then setBits v 8 8 (bits v 8 8 - 1) else setBits v 0 8 (bits v 0 8 - 1)

/-- Profiles of the ACTIVE plan whose estimated current fits `n` phases of a regulator. -/
def fitting (d : Strand) (r n peak : Nat) : Nat :=
  let m := d.plan.active
  let l := imgProfiles m
  let ok := fun p => decide (peak * (imgProfile m p).cclk ≤ n * phaseRating r * max d.plan.cclk 1)
  ((List.range l.length).find? ok).getD (l.length - 1)

/-- A phase of a strand's regulator fails: a spare replaces it, or the strand is limited to a profile that fits. -/
def phaseFailOp (d : Strand) (r dom peak : Nat) : Strand :=
  if 3 ≤ r then d
  else
    let v := d.get 0x2412 r
    let d := d.put 0x2412 r (phaseLost v)
    if 0 < bits v 8 8 then (d.raise 0xB5 dom).raiseIf (decide (bits v 8 8 = 1)) 0xB6 dom
    else if d.hasPlan then
      let p := fitting d r (bits v 0 8 - 1) peak
      let cap := d.get 0x2413 0x01
      d.put 0x2413 0x01 (if cap = 0xFF then p else max cap p)
    else d

/-! ### Retests (R406, R407) -/

/-- A domain is powered off and on again. -/
def cycleDomain (g : Pkg) (d : Strand) (n : Nat) : Strand := wakeDomain g (domainOff d n 0) n

/-- A write of RETEST_CELL_DOMAIN. -/
def retestCellsOp (g : Pkg) (d : Strand) (dom : Nat) : Strand :=
  if 8 ≤ dom then d.answer 0x02
  else if d.hasPlan && (List.range 256).any fun l => decide (d.physOf l / 34 = dom) && imgRole d.plan.active l then
    d.answer 0x01
  else (cycleDomain g d (4 + dom)).answer 0x00

/-- A write of RETEST_LANE_GROUP. -/
def retestLanesOp (g : Pkg) (d : Strand) (n : Nat) : Strand :=
  if 3 ≤ n then d.answer 0x02
  else if (groupPairs n).any fun k => d.laneInUse (d.laneNo k) then d.answer 0x01
  else (cycleDomain g d n).answer 0x00

/-- The self-test of a FAILED cell whose domain was powered on, or of a TESTING one that no splice uses, ends. -/
def cellTestOp (d : Strand) (p : Nat) (pass : Bool) : Strand :=
  let st := d.cellState p
  let used := d.work.splices.any fun x => decide (x.spare = p) || decide (x.old = p)
  if p < 272 ∧ (st = 4 ∧ d.pow.selfTest.contains p ∨ st = 3 ∧ used = false) then
    let d := { d with pow := { d.pow with selfTest := d.pow.selfTest.filter fun x => decide (x ≠ p) } }
    let role := if d.logicalOf p = 0xFFFF then 0 else if d.hasRole p then 1 else 2
    setCellState d p (if pass then role else 4)
  else d

end Sys2Proof.Machine
end

