-- ==== Sys2Proof/Machine/CtrlOps.lean ====
section
/-! DEFINITION. The control pair and SAFE (R394 to R400). -/

namespace Sys2Proof.Machine

/-! ### Health records (R397) -/

/-- CTRL_HEALTH of a unit. -/
def Strand.unitRec (d : Strand) (u : Nat) : Nat := d.get 0x2851 u

/-- STATE of a unit: 0 ACTIVE, 1 STANDBY, 2 FENCED, 3 RESETTING, 4 TESTING, 5 REINTEGRATING, 6 INELIGIBLE. The model
keeps RESETTING through reset and self-test, and TESTING for a unit that has passed and waits (R398). -/
def Strand.unitState (d : Strand) (u : Nat) : Nat := bits (d.unitRec u) 0 8

/-- Sets STATE. -/
def setUnit (d : Strand) (u st : Nat) : Strand := d.putF 0x2851 u 0 8 st

/-- Sets LAST_TEST: 1 pass, 2 fail. -/
def setLastTest (d : Strand) (u : Nat) (pass : Bool) : Strand := d.putF 0x2851 u 8 8 (if pass then 1 else 2)

/-- Adds 1 to a counter of the record at bit `lo`, `n` bits wide, which saturates. -/
def bumpUnit (d : Strand) (u lo n : Nat) : Strand :=
  d.putF 0x2851 u lo n (min (bits (d.unitRec u) lo n + 1) (2 ^ n - 1))

/-- CTRL_STATE: 0 PAIRED, 1 GAP, 2 SIMPLEX, 3 REINTEGRATING. -/
def Strand.ctrlState (d : Strand) : Nat := d.get 0x2850 0x01

/-- CTRL_ACTIVE. -/
def Strand.activeUnit (d : Strand) : Nat := d.get 0x2850 0x02

/-- CTRL_HEALTH as it reads: a unit's reset takes 100 µs, then it is TESTING. -/
def unitShown (d : Strand) (u : Nat) : Nat :=
  if d.unitState u = 3 ∧ d.flt.fenceAt ≠ 0 ∧ d.flt.fenceAt - 1 + usTime 100 ≤ d.sage then setBits (d.unitRec u) 0 8 4
  else d.unitRec u

/-! ### SAFE (R400) -/

/-- The strand enters SAFE: TRIG_OUT is deasserted, STRAND_SAFE raised. -/
def enterSafe (d : Strand) (fit : Bool) : Strand :=
  if d.stState = 1 then
    let d := (outputsOff (d.put 0x2850 0x06 2)).raiseAny 0x07
    { d with flt := { d.flt with unitFit := fit } }
  else d

/-- A write of 1 to SAFE_ENTER. -/
def safeEnterOp (d : Strand) (v : Nat) : Strand := (if v % 2 = 1 then enterSafe d d.flt.unitFit else d).answer 0x00

/-! ### Switch-over (R395, R396) -/

/-- A unit becomes ACTIVE. -/
def makeActive (d : Strand) (u : Nat) : Strand := bumpUnit ((setUnit d u 0).put 0x2850 0x02 u) u 96 16

/-- A fenced unit is reset, self-tested and re-integrated (R398). -/
def resetUnit (d : Strand) (u : Nat) : Strand :=
  { setUnit d u 3 with flt := { d.flt with fenceAt := d.sage + 1, copying := none, copied := false } }

/-- The outputs of the units differ: the arbiter selects the unit that alone is clean, else the active one. -/
def miscompareOp (d : Strand) (fail0 fail1 : Bool) : Strand :=
  if d.ctrlState ≠ 0 ∨ d.domain 0x0F ≠ 2 then d
  else
    let a := d.activeUnit
    let win := if fail0 && !fail1 then 1 else if fail1 && !fail0 then 0 else a
    let f := 1 - win
    let d := if fail0 then bumpUnit d 0 32 16 else d
    let d := if fail1 then bumpUnit d 1 32 16 else d
    let d := bumpUnit (setUnit d f 2) f 16 16
    let d := if win ≠ a then makeActive d win else d
    let d := (d.put 0x2850 0x01 2).raise 0x01 f
    { d with flt := { d.flt with missAt := d.now + 1 } }

/-- The sage's audit after a miscompare. -/
def auditOp (d : Strand) (pass0 pass1 : Bool) : Strand :=
  if d.flt.missAt = 0 then d
  else
    let a := d.activeUnit
    let f := 1 - a
    let ok := fun (u : Nat) => if u = 0 then pass0 else pass1
    let d := { d with flt := { d.flt with missAt := 0 } }
    if ok a then resetUnit d f
    else if ok f then (taintInFlight (resetUnit (makeActive d f) a)).raise 0x02 a
    else enterSafe d false

/-! ### Checks and tests (R397, R399) -/

/-- A standby is fenced and handled as in CONFIRM. -/
def standbyFails (d : Strand) (u : Nat) : Strand := (resetUnit (d.put 0x2850 0x01 2) u).raise 0x03 u

/-- The active unit fails while the strand is SIMPLEX. -/
def simplexFails (d : Strand) : Strand :=
  match d.flt.copying with
  | some u =>
    let d := setUnit { d with flt := { d.flt with copying := none, copied := false } } u 6
    enterSafe ((d.put 0x2850 0x01 2).raise 0x05 u) false
  | none => enterSafe (d.raise 0x06 d.activeUnit) false

/-- A unit's built-in checks fail and nothing miscompares. -/
def checkFailOp (d : Strand) (u : Nat) : Strand :=
  if 1 < u then d
  else
    let d := bumpUnit d u 32 16
    if d.unitState u = 1 ∧ d.ctrlState = 0 then standbyFails d u
    else if u = d.activeUnit ∧ d.ctrlState ≠ 0 ∧ d.stState = 1 then simplexFails d
    else d

/-- The periodic test of the standby. -/
def selfTestOp (d : Strand) (pass : Bool) : Strand :=
  let u := 1 - d.activeUnit
  if d.ctrlState = 0 ∧ d.unitState u = 1 then
    if pass then setLastTest (bumpUnit d u 64 32) u true
    else standbyFails (setLastTest (bumpUnit d u 48 16) u false) u
  else d

/-- The sage's audit of the active unit while SIMPLEX. -/
def simplexAuditOp (d : Strand) (pass : Bool) : Strand :=
  if d.ctrlState ≠ 0 ∧ d.stState = 1 ∧ pass = false then simplexFails d else d

/-! ### Re-integration (R398) -/

/-- The copy from the active unit begins. -/
def startCopy (d : Strand) (u : Nat) : Strand :=
  let d := (setUnit d u 5).put 0x2850 0x01 3
  { d with flt := { d.flt with copying := some u, copied := false, fenceAt := 0 } }

/-- A unit under reset and self-test finishes. In a strand reset, a unit that passes waits for STRAND_UP. -/
def unitTestOp (d : Strand) (u : Nat) (pass : Bool) : Strand :=
  if 1 < u ∨ d.unitState u ≠ 3 then d
  else
    let d := setLastTest { d with flt := { d.flt with fenceAt := 0 } } u pass
    if !pass then setUnit d u 6
    else if d.inReset then setUnit d u 4
    else if d.getBit 0x2850 0x03 0 then startCopy d u
    else setUnit d u 4

/-- A write of 1 to CTRL_REINTEG_START. -/
def reintegStartOp (d : Strand) (v : Nat) : Strand :=
  let u := 1 - d.activeUnit
  (if v % 2 = 1 ∧ d.unitState u = 4 ∧ d.inReset = false then startCopy d u else d).answer 0x00

/-- The copy is complete; mirroring goes on. -/
def copyDoneOp (d : Strand) : Strand :=
  if d.flt.copying.isSome then { d with flt := { d.flt with copied := true } } else d

/-- At a boundary a unit whose copy is complete joins lockstep. -/
def joinUnit (d : Strand) : Strand :=
  match d.flt.copying with
  | some u =>
    if d.flt.copied then
      let d := { d with flt := { d.flt with copying := none, copied := false } }
      ((setUnit d u 1).put 0x2850 0x01 0).raise 0x04 u
    else d
  | none => d

/-! ### Both units after a strand reset (R399) -/

/-- Both units are reset and tested. -/
def unitsReset (d : Strand) : Strand :=
  let d := setUnit (setUnit d 0 3) 1 3
  { d with flt := { d.flt with missAt := 0, fenceAt := d.sage + 1, copying := none, copied := false, unitFit := true } }

/-- The units that have not failed run the strand: both as a pair, one alone, or none, which leaves it in SAFE. -/
def unitsUp (d : Strand) : Strand :=
  let d := { d with flt := { d.flt with fenceAt := 0 } }
  let bad := fun (u : Nat) => decide (d.unitState u = 6)
  if bad 0 ∧ bad 1 then enterSafe (d.put 0x2850 0x01 2) false
  else if bad 0 then (setUnit d 1 0).put 0x2850 0x02 1 |>.put 0x2850 0x01 2
  else if bad 1 then (setUnit d 0 0).put 0x2850 0x02 0 |>.put 0x2850 0x01 2
  else (setUnit (setUnit d 0 0) 1 1).put 0x2850 0x02 0 |>.put 0x2850 0x01 0

end Sys2Proof.Machine
end

