-- ==== Sys2Proof/Machine/Sha256.lean ====
section
/-! DEFINITION. HMAC-SHA-256, which R379 names by FIPS 198-1: SHA-256 of FIPS 180-4 over bytes, and the keyed
hash. Words are natural numbers below 2^32, most significant byte first. The constants are computed from FIPS
180-4's definition of them: fractional bits of roots of the first primes. -/

namespace Sys2Proof.Machine

/-- Rotation of a 32-bit word to the right. -/
def rotr32 (x n : Nat) : Nat := (x / 2 ^ n) ||| (x % 2 ^ n * 2 ^ (32 - n))

/-- The number that bytes spell, most significant first. -/
def beNat (b : List Byte) : Nat := b.foldl (fun a x => a * 256 + x.toNat) 0

/-- `n` bytes of a number, most significant first. -/
def beBytes (n v : Nat) : List Byte := (natToBytes n v).reverse

/-- The primes up to 311: the first 64. -/
def shaPrimes : List Nat :=
  (List.range 312).filter fun p => 2 ≤ p && (List.range 18).all fun d => d < 2 || p ≤ d || p % d != 0

/-- The `k`-th root of `x`, rounded down, at least `r`: bits `n - 1` to 0 are tried from the top. -/
def rootFrom (k x : Nat) : Nat → Nat → Nat
  | 0, r => r
  | n + 1, r => rootFrom k x n (if (r + 2 ^ n) ^ k ≤ x then r + 2 ^ n else r)

/-- First 32 bits of the fractional part of the `k`-th root of a prime. -/
def rootBits (k p : Nat) : Nat := rootFrom k (p * 2 ^ (32 * k)) 37 0 % 2 ^ 32

/-- XOR of a word rotated right by each of some amounts. -/
def rotrXor (ns : List Nat) (x : Nat) : Nat := (ns.map (rotr32 x)).foldl Nat.xor 0

/-- The two histories that the eight working variables are windows of: `top` holds a, b, c, d and what was d before,
`low` holds e, f, g, h likewise, newest first. -/
structure ShaTrail where
  top : List Nat
  low : List Nat
  deriving DecidableEq, Repr

/-- One round: a word enters each history. -/
def ShaTrail.enter (t : ShaTrail) (k w : Nat) : ShaTrail :=
  let low := fun i => t.low.getD i 0
  let top := fun i => t.top.getD i 0
  let pick := Nat.lor (low 0 &&& low 1) (low 2 &&& (2 ^ 32 - 1 - low 0))
  let vote := Nat.lor (top 0 &&& (top 1 ||| top 2)) (top 1 &&& top 2)
  let mix := low 3 + rotrXor [6, 11, 25] (low 0) + pick + k + w
  { top := ((mix + rotrXor [2, 13, 22] (top 0) + vote) % 2 ^ 32) :: t.top
    low := ((top 3 + mix) % 2 ^ 32) :: t.low }

/-- The next word of the schedule, from the sixteen before it, oldest first. -/
def shaNext (w : List Nat) : Nat :=
  let at_ := fun i => w.getD i 0
  let far := rotrXor [7, 18] (at_ 1) ^^^ (at_ 1 / 2 ^ 3)
  let near := rotrXor [17, 19] (at_ 14) ^^^ (at_ 14 / 2 ^ 10)
  (at_ 0 + far + at_ 9 + near) % 2 ^ 32

/-- The rounds of one block: each takes its constant and the oldest word of a window of sixteen, which moves on. -/
def shaRounds : List Nat → List Nat → ShaTrail → ShaTrail
  | [], _, t => t
  | k :: ks, w, t => shaRounds ks (w.drop 1 ++ [shaNext w]) (t.enter k (w.headD 0))

/-- One block of 64 bytes on the eight words of the hash. -/
def shaBlock (h : List Nat) (b : List Byte) : List Nat :=
  let t := shaRounds (shaPrimes.map (rootBits 3)) ((chunksOf 4 16 b).map beNat) { top := h.take 4, low := h.drop 4 }
  List.zipWith (fun x y => (x + y) % 2 ^ 32) h (t.top.take 4 ++ t.low.take 4)

/-- SHA-256 of a message, 32 bytes: the message, a one bit, zeros to 8 bytes short of a block, its length in bits. -/
def sha256 (m : List Byte) : List Byte :=
  let padded := m ++ 0x80#8 :: zeros ((119 - m.length % 64) % 64) ++ beBytes 8 (8 * m.length)
  let h := (chunksOf 64 (padded.length / 64) padded).foldl shaBlock ((shaPrimes.take 8).map (rootBits 2))
  h.flatMap (beBytes 4)

/-- HMAC-SHA-256 with a key of at most 64 bytes. -/
def hmacSha256 (key m : List Byte) : List Byte :=
  let k := key ++ zeros (64 - key.length)
  sha256 (k.map (· ^^^ 0x5C#8) ++ sha256 (k.map (· ^^^ 0x36#8) ++ m))

end Sys2Proof.Machine
end

