-- ==== Sys2Proof/Machine/Protect.lean ====
section
/-! DEFINITION. Protection and level-0 sessions (R374 to R380): the table lookup, the effective level, the
challenge and response. -/

namespace Sys2Proof.Machine

/-! ### Protection table (R375) -/

/-- Entry `n` of the protection table. -/
def Strand.protEntryOf (d : Strand) (n : Nat) : Nat := d.get 0x1200 n

/-- Class bit of a requester in a protection entry. -/
def classBit : Requester → Nat
  | .lyd _ _ _ => 1
  | .host => 2
  | .pf4 => 2
  | .dbg => 3

/-- Whether an entry decides an access of a requester to an index (R376). -/
def protDecides (e : Nat) (rq : Requester) (index : Nat) : Bool :=
  bit e 0 && bit e (classBit rq) && decide (bits e 16 16 ≤ index) && decide (index ≤ bits e 32 16)

/-- The first entry that decides, in ascending order. -/
def Strand.protLookup (d : Strand) (rq : Requester) (index : Nat) : Option Nat :=
  ((List.range 32).map d.protEntryOf).find? fun e => protDecides e rq index

/-- The requester holds an open level-0 session (R378). -/
def Strand.hasSession (d : Strand) (rq : Requester) : Bool := d.mgmt.sessions.any fun s => decide (s.rq = rq)

/-- Effective level of an access under the deciding entry (R374). -/
def effLevel (e : Nat) (session : Bool) : Nat :=
  if bits e 8 2 ≠ 0 then bits e 8 2 else if session then 0 else 1

/-- The four locations that every class reaches (R376). -/
def openLoc (index sub : Nat) : Bool := decide (index = 0x1210) && decide (1 ≤ sub) && decide (sub ≤ 4)

/-- Whether protection grants an access to an entry of level `lv` (R374, R376). -/
def Strand.granted (d : Strand) (rq : Requester) (index sub lv : Nat) (isWrite : Bool) : Bool :=
  if openLoc index sub then true
  else if decide (0x1200 ≤ index) && decide (index ≤ 0x12FF) && d.hasSession rq then true
  else match d.protLookup rq index with
    | none => false
    | some e => decide (effLevel e (d.hasSession rq) ≤ lv) && (!isWrite || !(bit e 10))

/-! ### Sessions (R378) -/

/-- A request that needs level 0 restarts the holder's idle time. -/
def Strand.touchSession (d : Strand) (rq : Requester) : Strand :=
  { d with mgmt := { d.mgmt with sessions := d.mgmt.sessions.map fun s =>
      if s.rq = rq then { s with last := d.sage } else s } }

/-- Ends the session of a requester. -/
def Strand.endSession (d : Strand) (rq : Requester) : Strand :=
  { d with mgmt := { d.mgmt with sessions := d.mgmt.sessions.filter fun s => decide (s.rq ≠ rq) } }

/-- Ends every session. -/
def Strand.endSessions (d : Strand) : Strand := { d with mgmt := { d.mgmt with sessions := [] } }

/-- A lockout is in force (R379). -/
def Strand.lockedOut (d : Strand) : Bool :=
  match d.mgmt.lockUntil with
  | none => false
  | some t => decide (d.sage < t)

/-- A read of CHALLENGE: a fresh nonce bound to the requester (R379). -/
def challengeRead (g : Pkg) (d : Strand) (rq : Requester) : Strand :=
  if g.key.isNone then d.answer 0x01
  else if d.lockedOut then d.answer 0x04
  else
    let n := Config.nonce (4 * d.freeCtr + d.id.num) % 2 ^ 128
    let ns := d.mgmt.nonces.filter fun x => decide (x.rq ≠ rq)
    let d := { d with freeCtr := d.freeCtr + 1, mgmt := { d.mgmt with nonces := ⟨rq, n, d.sage⟩ :: ns } }
    d.answerData (natToBytes 16 n)

/-- Bytes 25 to 28 of the message: class, device or PF, strand. -/
def requesterBytes (k : Nat) : Requester → List Byte
  | .lyd ext dev st => natToBytes 1 0x01 ++ natToBytes 2 dev ++ natToBytes 1 (st + 0x80 * b2n ext)
  | .host => natToBytes 1 0x02 ++ natToBytes 2 k ++ zeros 1
  | .pf4 => natToBytes 1 0x02 ++ natToBytes 2 4 ++ zeros 1
  | .dbg => natToBytes 1 0x03 ++ zeros 3

/-- The 32-byte message of R379. -/
def challengeMessage (d : Strand) (rq : Requester) (nonce : Nat) : List Byte :=
  natToBytes 16 nonce ++ natToBytes 8 (d.get 0x1000 0x06) ++ natToBytes 1 d.id.num ++
    requesterBytes d.id.num rq ++ zeros 3

/-- The response that matches a nonce. -/
def expectedResponse (key : Nat) (d : Strand) (rq : Requester) (nonce : Nat) : List Byte :=
  (hmacSha256 (natToBytes 32 key) (challengeMessage d rq nonce)).take 16

/-- A RESPONSE that does not match: counted, and the third in a row starts a lockout (R379). -/
def responseFail (d : Strand) : Strand :=
  let d := ((d.bump 0x1210 0x06 1).raiseAnyOnce 0xAC).answer 0x02
  if d.mgmt.fails + 1 < 3 then { d with mgmt := { d.mgmt with fails := d.mgmt.fails + 1 } }
  else
    let len := d.get 0x1210 0x07
    let d := { d with mgmt := { d.mgmt with fails := 0, lockUntil := some (d.sage + secTime len) } }
    (d.put 0x1210 0x07 (min (2 * len) 2560)).raiseAnyOnce 0xAD

/-- A write of RESPONSE (R379). -/
def responseWrite (g : Pkg) (d : Strand) (rq : Requester) (value : List Byte) : Strand :=
  if d.lockedOut then d.answer 0x04
  else
    let ns := d.mgmt.nonces.filter fun x => decide (x.rq ≠ rq)
    let found := d.mgmt.nonces.find? fun x => decide (x.rq = rq)
    let d := { d with mgmt := { d.mgmt with nonces := ns } }
    match g.key, found with
    | some key, some x =>
      if decide (d.sage ≤ x.at_ + secTime 10) && decide (expectedResponse key d rq x.nonce = value) then
        let d := { d.endSession rq with mgmt := { (d.endSession rq).mgmt with
          sessions := ⟨rq, d.sage⟩ :: (d.endSession rq).mgmt.sessions, fails := 0 } }
        (d.put 0x1210 0x07 10).answer 0x00
      else responseFail d
    | _, _ => responseFail d

/-- The lockout's end. -/
def lockoutExpireOp (d : Strand) : Strand :=
  match d.mgmt.lockUntil with
  | none => d
  | some t => if t ≤ d.sage then { d with mgmt := { d.mgmt with lockUntil := none } } else d

/-- LEVEL0_IDLE_S without a request that needs level 0 ends the session (R378). -/
def sessionIdleOp (d : Strand) (rq : Requester) : Strand :=
  match d.mgmt.sessions.find? fun s => decide (s.rq = rq) with
  | none => d
  | some s => if s.last + secTime (d.get 0x1210 0x05) ≤ d.sage then d.endSession rq else d

/-! ### Changes of the table (R375) -/

/-- The bits of an entry that a write sets. -/
def protMask (v : Nat) : Nat :=
  bits v 0 4 + bits v 8 3 * 2 ^ 8 + bits v 16 32 * 2 ^ 16

/-- An entry a write may not hold. -/
def protBad (v : Nat) : Bool := decide (bits v 32 16 < bits v 16 16)

/-- A change of the table counts in PROT_GEN and raises PROT_CHANGE; PROT_TABLE shows the entries. -/
def Strand.protChanged (d : Strand) : Strand :=
  let t := bytesToNat (((List.range 32).map fun n => natToBytes 8 (d.protEntryOf n)).flatten)
  ((d.put 0x1201 0x01 t).bump 0x1201 0x02 1).raiseAnyOnce 0xAB

/-- A write of PROT_ENTRY. -/
def protEntryWrite (d : Strand) (n v : Nat) : Strand :=
  if protBad v then d.answer 0x02 else ((d.put 0x1200 n (protMask v)).protChanged).answer 0x00

/-- A write of PROT_TABLE: all 32 entries, in one cycle. -/
def protTableWrite (d : Strand) (value : List Byte) : Strand :=
  let vs := (List.range 32).map fun n => fieldAt value (8 * n) 8
  if vs.any protBad then d.answer 0x02
  else
    let d := (List.range 32).foldl (fun d n => d.put 0x1200 n (protMask (fieldAt value (8 * n) 8))) d
    d.protChanged.answer 0x00

end Sys2Proof.Machine
end

