-- ==== Sys2Proof/Machine/EgressOps.lean ====
section
/-! DEFINITION. Packets leaving on lanes, flows and DMA channels (R224, R230, R275, R292, R341 to R344), and the
configuration of DMA channels. -/

namespace Sys2Proof.Machine

/-! ### Lanes and flows -/

/-- The packet's blocks, without the header slot: each is a header and the payload of its FMT (R230). -/
def ctPieces : Nat → List Byte → List (List Byte)
  | 0, _ => []
  | n + 1, b =>
    if b.length < 32 then []
    else
      let k := 32 + blockBytes (fieldAt b 2 1)
      b.take k :: ctPieces n (b.drop k)

/-- A packet leaves on its output: a CT packet on a lane as one DATA frame for each block, any other as one PKT frame;
on a flow as one datagram. -/
def sendPacket (d : Strand) (o : OutId) (b : List Byte) : Strand :=
  if o.kind = 0 then
    if fieldAt b 2 1 % 16 = 5 then (ctPieces b.length (b.drop 16)).foldl (fun d x => sendFrame d o.id 1 x) d
    else sendFrame d o.id 5 b
  else if o.kind = 1 then flowSend d o.id (((d.output o).tx.map (·.flow)).getD (d.ethFlow o.id)) b
  else d

/-- A turn of an output that is not stalled; HOST_READ queues take none. -/
def turnOp (d : Strand) (o : OutId) : Strand :=
  if 3 ≤ o.kind ∨ d.outDown o then d
  else match outputTurn d o with
  | (some p, d) => sendPacket d o p.2
  | (none, d) => d

/-- The last byte of a packet has left a lane or a flow. -/
def packetDoneOp (d : Strand) (o : OutId) : Strand := if 2 ≤ o.kind then d else txDoneOp d o

/-- An output stalls, or goes on, as its lane, flow or channel is. -/
def stallOp (d : Strand) (o : OutId) : Strand := if d.outDown o then stallOutput d o else unstallOutput d o

/-! ### Conversion (R342) -/

/-- SRC_WIDTH or DST_WIDTH in bytes. -/
def dmaWidth (code : Nat) : Nat := 2 ^ code

/-- A swap of one element: 1 BYTE, 2 HALF. -/
def swapEl (s : Nat) (e : List Byte) : List Byte :=
  if s = 1 then e.reverse else if s = 2 then ((chunksOf 2 e.length e).reverse).flatten else e

/-- The body converted: padded, in source elements swapped, in destination elements swapped. -/
def dmaBody (cfg : Nat) (body : List Byte) : List Byte :=
  let ws := dmaWidth (bits cfg 1 2)
  let wd := dmaWidth (bits cfg 3 2)
  let m := max ws wd
  let b := body ++ zeros (ceilDiv body.length m * m - body.length)
  let b := ((chunksOf ws b.length b).map (swapEl (bits cfg 5 2))).flatten
  ((chunksOf wd b.length b).map (swapEl (bits cfg 7 2))).flatten

/-! ### Channels (R341, R343) -/

/-- A channel's rings and signalling. -/
def Strand.dmaCh (d : Strand) (c : Nat) : DmaCh := smGet (fun _ => ({} : DmaCh)) d.host.dma c

/-- The strand with a channel replaced. -/
def Strand.setDma (d : Strand) (c : Nat) (x : DmaCh) : Strand :=
  { d with host := { d.host with dma := smSet (fun _ => ({} : DmaCh)) d.host.dma c x } }

/-- DMA_CFG of a channel. -/
def Strand.dmaCfg (d : Strand) (c : Nat) : Nat := d.get (0x7000 + c) 0x01

/-- ENABLED. -/
def Strand.dmaOn (d : Strand) (c : Nat) : Bool := d.getBit (0x7000 + c) 0x0B 0

/-- A slot of the completion queue is free. -/
def cqRoom (d : Strand) (c : Nat) : Bool :=
  let i := 0x7000 + c
  decide (serialSub 32 (d.get i 0x07) (d.get i 0x08) < 2 ^ d.get i 0x05)

/-- Where a transfer of `n` bytes goes and how many bytes of the ring it takes; none without room. -/
def dmaPlace (d : Strand) (c n : Nat) : Option (Nat × Nat) :=
  let x := d.dmaCh c
  let size := d.get (0x7000 + c) 0x03
  let wrap := decide (size < x.off + n)
  let need := if wrap then size - x.off + n else n
  if x.used + need ≤ size ∧ cqRoom d c then some (if wrap then 0 else x.off, need) else none

/-- The completion record of a packet (R341). -/
def dmaRecord (d : Strand) (c off len : Nat) (wrapped bad : Bool) (b : List Byte) : List Byte :=
  let f := fieldAt b 2 1
  natToBytes 4 (d.get (0x7000 + c) 0x07) ++ natToBytes 2 (fieldAt b 4 2 % 2 ^ 14) ++
    natToBytes 1 (f % 16 + 16 * b2n (bit f 5 || bad) + 32 * b2n (bit f 6) + 64 * b2n wrapped) ++ zeros 1 ++
    natToBytes 4 off ++ natToBytes 4 len ++ natToBytes 2 (fieldAt b 0 2) ++ zeros 2 ++ natToBytes 4 (fieldAt b 8 4) ++
    natToBytes 4 (fracOf d.now) ++ natToBytes 4 (secLo d.now)

/-- One more record: the vector after INT_EVERY of them, else the hold time runs from the first. -/
def dmaSignal (d : Strand) (c : Nat) : Strand :=
  let x := d.dmaCh c
  let cfg := d.dmaCfg c
  if bits cfg 16 8 ≤ x.unsig + 1 then
    let d := d.setDma c { x with unsig := 0, firstAt := none }
    if bit cfg 9 then d.vector (3 + c) else d
  else d.setDma c { x with unsig := x.unsig + 1, firstAt := some (x.firstAt.getD d.now) }

/-- The link runs below the DMA_RATE of the ACTIVE plan's check (R344). -/
def linkDegraded (d : Strand) : Bool := d.hasPlan && decide (d.get 0x7100 0x01 < d.plan.rateActive)

/-- A packet is written with its record, and its cells are released. -/
def dmaWrite (d : Strand) (c : Nat) (t : TxPacket) (p : Nat × Nat) (bad : Bool) : Strand :=
  let i := 0x7000 + c
  let cfg := d.dmaCfg c
  let head := if linkDegraded d then
      t.bytes.take 2 ++ natToBytes 1 (setBit (fieldAt t.bytes 2 1) 5 true) ++ (t.bytes.take 16).drop 3
    else t.bytes.take 16
  let data := head ++ dmaBody cfg (t.bytes.drop 16)
  let x := d.dmaCh c
  let rec_ := dmaRecord d c p.1 data.length (decide (p.1 = 0) && decide (data.length < p.2)) bad head
  let slot := d.get i 0x04 + 32 * (d.get i 0x07 % 2 ^ d.get i 0x05)
  let d := d.emit .hostWrite (d.get i 0x02 + p.1) data
  let d := (d.emit .hostWrite (slot + 4) (rec_.drop 4)).emit .hostWrite slot (rec_.take 4)
  let d := d.setDma c { x with off := p.1 + data.length, used := x.used + p.2, recs := x.recs ++ [p.2], credit := false }
  let d := (d.put i 0x07 ((d.get i 0x07 + 1) % 2 ^ 32)).putBit i 0x0B 2 false
  let d := (d.bump i 0x09 1).bump i 0x0A data.length
  dmaSignal (txDoneOp d ⟨2, c⟩) c

/-- A posted-credit wait longer than CREDIT_WAIT_NS. -/
def creditStallOp (d : Strand) (c : Nat) : Strand :=
  if c < 16 ∧ d.dmaOn c then
    let d := (d.setDma c { d.dmaCh c with credit := true }).putBit (0x7000 + c) 0x0B 2 true
    (d.bump 0x1103 0x04 1).raise 0x97 c
  else d

/-- The packet in hand waits through a stall. -/
def markWaiting (d : Strand) (o : OutId) : Strand :=
  let x := d.output o
  d.setOutput o { x with tx := x.tx.map fun t =>
    { t with bytes := t.bytes.take 2 ++ natToBytes 1 (setBit (fieldAt t.bytes 2 1) 5 true) ++ t.bytes.drop 3 } }

/-- A channel writes the packet in hand, or takes one in its turn; without room the output stalls. -/
def dmaTransferOp (g : Pkg) (d : Strand) (c : Nat) (stall : Bool) : Strand :=
  let o : OutId := ⟨2, c⟩
  if 16 ≤ c ∨ d.dmaOn c = false ∨ g.hpUp = false then d
  else
    let d := if (d.output o).tx.isSome ∨ d.getBit (0x7000 + c) 0x0B 1 then d else turnOp d o
    match (d.output o).tx with
    | none => d
    | some t =>
      let cfg := d.dmaCfg c
      let n := 16 + (dmaBody cfg (t.bytes.drop 16)).length
      match dmaPlace d c n with
      | some p =>
        let d := if stall && !(d.dmaCh c).credit then creditStallOp d c else d
        dmaWrite d c t p (d.dmaCh c).credit
      | none =>
        if d.getBit (0x7000 + c) 0x0B 1 then d
        else (stallOutput (markWaiting (d.putBit (0x7000 + c) 0x0B 1 true) o) o).postDmaState c

/-- A write to a channel's completion queue doorbell. -/
def dmaCqOp (d : Strand) (c v : Nat) : Strand :=
  let i := 0x7000 + c
  let v := v % 2 ^ 32
  let n := serialSub 32 v (d.get i 0x08)
  if 16 ≤ c then d
  else if serialSub 32 (d.get i 0x07) (d.get i 0x08) < n then d.dbBad (2 + c) v c
  else
    let x := d.dmaCh c
    let d := d.setDma c { x with used := x.used - ((x.recs.take n).foldl (· + ·) 0), recs := x.recs.drop n }
    let d := d.put i 0x08 v
    if d.getBit i 0x0B 1 ∧ 0 < n then
      (unstallOutput (d.putBit i 0x0B 1 false) ⟨2, c⟩).postDmaState c
    else d

/-- INT_HOLD_US after the first record not yet signalled. -/
def dmaHoldOp (d : Strand) (c : Nat) : Strand :=
  let x := d.dmaCh c
  let cfg := d.dmaCfg c
  match x.firstAt with
  | some t =>
    if bits cfg 24 8 ≠ 0 ∧ t + usTime (bits cfg 24 8) ≤ d.now then
      let d := d.setDma c { x with unsig := 0, firstAt := none }
      if bit cfg 9 then d.vector (3 + c) else d
    else d
  | none => d

/-- A channel is disabled: the packet in transfer is dropped, the counts and the next sequence are undefined. -/
def dmaDisableOp (d : Strand) (c : Nat) : Strand :=
  let i := 0x7000 + c
  if 16 ≤ c ∨ d.dmaOn c = false then d
  else
    let o : OutId := ⟨2, c⟩
    let drop := (d.output o).tx.isSome
    let d := (txDoneOp d o).raiseIf drop 0x98 c
    let d := ((d.putBit i 0x01 0 false).put i 0x0B 0).setDma c {}
    let a := d.freeNat
    let b := a.2.freeNat
    let e := b.2.freeNat
    let d := ((e.2.put i 0x09 a.1).put i 0x0A b.1).put i 0x07 e.1
    (if d.hasPlan then stallOutput d o else d).postDmaState c

/-- A channel is enabled: sequences, offset and counts start. -/
def dmaEnable (d : Strand) (c : Nat) : Strand :=
  let i := 0x7000 + c
  let s := d.get i 0x06
  let d := ((((d.put i 0x07 s).put i 0x08 s).put i 0x09 0).put i 0x0A 0).put i 0x0B 1
  (unstallOutput (d.setDma c {}) ⟨2, c⟩).postDmaState c

/-- A DMA_CFG value is legal: no reserved swap, HALF on elements of 4 bytes or more, INT_EVERY not 0. -/
def dmaCfgOk (v : Nat) : Bool :=
  let sw := fun (w s : Nat) => decide (s ≤ 1) || (decide (s = 2) && decide (2 ≤ w))
  sw (bits v 1 2) (bits v 5 2) && sw (bits v 3 2) (bits v 7 2) && decide (bits v 16 8 ≠ 0)

/-- A write of DMA_CFG. -/
def dmaCfgOp (d : Strand) (c v : Nat) : Strand :=
  let i := 0x7000 + c
  let v := v % 2 ^ 32 - bits v 10 6 * 2 ^ 10
  let old := d.dmaCfg c
  if !(dmaCfgOk v) then d.answer 0x02
  else if bit old 0 && decide (v / 2 ≠ old / 2) then d.answer 0x01
  else if bit old 0 && !(bit v 0) then (dmaDisableOp d c).answer 0x00
  else if !(bit old 0) && bit v 0 then (dmaEnable (d.put i 0x01 v) c).answer 0x00
  else (d.put i 0x01 v).answer 0x00

/-- Every channel is disabled. -/
def dmaAllOff (d : Strand) : Strand := (List.range 16).foldl dmaDisableOp d

/-! ### Journal and resets (R335, R338, R339) -/

/-- The journal entry of a command with a result. -/
def journalWrite (d : Strand) (desc : List Byte) (result : Nat) : Strand :=
  let s := d.get 0x1100 0x04
  d.put 0x1102 (s % 256) (bytesToNat (natToBytes 4 s ++ (desc.drop 4).take 1 ++ natToBytes 1 result ++ (desc.drop 6).take 2 ++
    natToBytes 4 (fracOf d.now) ++ natToBytes 4 (secLo d.now)))

/-- C advances past a command. -/
def advanceC (d : Strand) : Strand :=
  { d.put 0x1100 0x04 ((d.get 0x1100 0x04 + 1) % 2 ^ 32) with host := { d.host with cmd := {} } }

/-- A strand reset abandons the command in execution. -/
def abandonCmd (d : Strand) : Strand :=
  match d.host.cmd.cur with
  | none => { d with host := { d.host with cmd := {} } }
  | some desc => advanceC (journalWrite d desc 0x08)

/-- Both queues are disabled. -/
def queuesOff (d : Strand) : Strand := (d.put 0x1100 0x03 0).put 0x1101 0x03 0

/-- An FLR of the strand's PF: queues and channels disabled, held events discarded, the session of the PF ended, the
running command loses its host accesses. -/
def flrOp (d : Strand) : Strand :=
  let d := (dmaAllOff (queuesOff d)).endSession .host
  { d with host := { d.host with win := {}, held := [], lost := false,
                                 cmd := { d.host.cmd with noHost := d.host.cmd.cur.isSome } } }

/-- The window of a PF after an FLR. -/
def Pkg.flr4 (g : Pkg) : Pkg := { g with win4 := {} }

end Sys2Proof.Machine
end

