-- ==== Sys2Proof/Machine/ResetOps.lean ====
section
/-! DEFINITION. Strand reset, STRAND_UP and sleep (R401, R406, R423), device reset (R421, R422), OTP patches (R354). -/

namespace Sys2Proof.Machine

/-! ### What a strand reset keeps (R401) -/

/-- Indices whose values a strand reset keeps whatever their access. -/
def keptIndex (i : Nat) : Bool :=
  (decide (0x1000 ≤ i) && decide (i ≤ 0x12FF)) || (decide (0x2800 ≤ i) && decide (i ≤ 0x2FFF)) ||
    (decide (0x5100 ≤ i) && decide (i ≤ 0x520F)) || (decide (0x3100 ≤ i) && decide (i ≤ 0x313F)) ||
    [0x2400, 0x2401, 0x2411, 0x2412, 0x2413, 0x6811, 0x7100].contains i

/-- A location keeps its value over a strand reset: kept ranges, and every entry that is not RO. -/
def keptLoc (key : Nat) : Bool :=
  keptIndex (key / 256) || match dictFind (key / 256) (key % 256) with
    | some r => decide (r.access ≠ 0)
    | none => false

/-- ENABLE of every DMA_CFG and DRIVE of PIN_CFG are cleared. -/
def enablesOff (d : Strand) : Strand :=
  (List.range 16).foldl (fun d c => d.putBit (0x7000 + c) 0x01 0 false) ((queuesOff d).putBit 0x2008 0x01 0 false)

/-- Dictionary values after a strand reset. -/
def resetRegs (d : Strand) : Strand := enablesOff { d with regs := d.regs.filter fun x => keptLoc x.1 }

/-! ### CELL_MAP (R406) -/

/-- The physical cell that a logical cell takes: its own under R24, else the lowest free spare, else none. -/
def rebuiltCell (d : Strand) (taken : List Nat) (l : Nat) : Nat :=
  let p := baseCell l
  if d.cellState p ≠ 4 then p
  else
    let free := fun (q : Nat) => decide (d.cellState q ≠ 4) && !(taken.contains q)
    (([34 * (l / 32) + 32, 34 * (l / 32) + 33]).find? free).getD 0xFFFF

/-- The map as a list, logical cell 0 first. -/
def rebuiltMap (d : Strand) : List Nat :=
  (List.range 256).foldl (fun (m : List Nat) l => m ++ [rebuiltCell d m l]) []

/-- Sets STATE and LOGICAL of a physical cell from a map. -/
def showCell (m : List Nat) (d : Strand) (p : Nat) : Strand :=
  let l := m.findIdx fun q => decide (q = p)
  let d := d.put (0x5100 + p) 0x02 (if l < 256 then l else 0xFFFF)
  if d.cellState p = 4 then d else d.put (0x5100 + p) 0x01 (if l < 256 then 2 else 0)

/-- CELL_MAP, STATE, LOGICAL and CELL_SPARES_FREE rebuilt. -/
def rebuildCells (d : Strand) : Strand :=
  let m := rebuiltMap d
  let d := (List.range 256).foldl (fun d l => d.put 0x5300 l (m.getD l 0xFFFF)) d
  let d := (List.range 272).foldl (showCell m) d
  d.put 0x5000 0x03 ((List.range 272).filter fun p => decide (d.cellState p = 0)).length

/-! ### The parts of a strand -/

/-- LANE_STATE of a record after a reset, as LANE_CFG sets. -/
def laneRestart (d : Strand) (n : Nat) : Nat :=
  let on := n < 26 ∧ d.domain (laneGroup n) = 2 ∧ (d.laneNo n = 0x7F ∨ d.laneRate (d.laneNo n) ≠ 0)
  if on then 1 else 0

/-- Lanes, ports and links retrain. -/
def resetLanes (d : Strand) : Strand :=
  let keep := fun (x : Nat × LaneDyn) => (x.1, ({ testOk := x.2.testOk, retest := x.2.retest } : LaneDyn))
  let d := { d with lanes := { lane := (d.lanes.lane.map keep).filter fun x => decide (x.2 ≠ ({} : LaneDyn)) } }
  let recs := (List.range 26) ++ (List.range 32).map (0x20 + ·)
  let d := recs.foldl (fun d n => if d.laneState n = 6 then d else d.setLaneState n (laneRestart d n)) d
  let d := (List.range 24).foldl (fun d p => if bit (d.ethPort p) 0 then d.put 0x3401 p 2 else d) d
  (List.range 8).foldl (fun d j => if bit (d.jesd j) 0 then d.put 0x3601 j 2 else d) d

/-- No plan is active; the slot that held the ACTIVE plan is SHADOW, STALE (R155, R401). -/
def resetPlans (d : Strand) (had keep : Bool) (slot shadow : Nat) : Strand :=
  let d := { d with plan := { baseMap := [], cclk := d.plan.cclk },
                    work := { eccTimes := d.work.eccTimes, marginLow := d.work.marginLow, activeFor := d.work.activeFor } }
  if had then (d.put 0x6810 0x07 (1 - slot)).setShadow 6
  else (d.put 0x6810 0x07 slot).setShadow (if keep ∧ shadow = 6 then 6 else 0)

/-- TRIG_OUT pins take the level that the reset values give them. -/
def trigPinsLow (d : Strand) : Strand :=
  (List.range 4).foldl (fun d n => if (d.tout n).high != d.getBit 0x7801 n 3 then d.pin n false else d) d

/-- Strand time restarts at 0, with the frequency of the timebase kept; the always-on domain's time goes on. -/
def restartTime (d : Strand) : Strand :=
  { d with sageBase := d.sageBase + d.now, now := 0, tm := { freqOff := d.tm.freqOff } }

/-- A pending write takes effect at the next boundary. -/
def atNext (w : PendWrite) : PendWrite := { w with due := 0 }

/-- An access that the strand's reset cuts off: its effect may or may not have taken place (R331). -/
def cutAsk (a : Ask) : Ask := if isPackageLoc (locKey a.f.index a.f.subindex) then a else { a with cut := 0x08 }

/-- Accesses that wait for the dictionary, and held loads, end with INTERRUPTED. -/
def cutAccesses (d : Strand) : Strand :=
  let win := d.host.win
  let cut := win.busy && decide (win.pendRes = 0xFF) && !(isPackageLoc (locKey (bits win.addr 0 16) (bits win.addr 16 8)))
  { d with mgmt := { d.mgmt with asks := (d.mgmt.asks ++ d.mgmt.queue).map cutAsk, queue := [] },
           host := { d.host with win := if cut then { win with pendRes := 0x08 } else win } }

/-- What a reset and a sleep share: everything outside the always-on domain starts anew; pending EPOCH-class writes
wait for the first boundary; `keep` says that a STALE slot stays (R423). -/
def restartStrand (d : Strand) (keep : Bool) : Strand :=
  let had := d.hasPlan
  let slot := d.get 0x6810 0x07
  let shadow := d.shadowState
  let d := trigPinsLow (cutAccesses d)
  let d := resetPlans (resetRegs d) had keep slot shadow
  let d := { d with cells := [], dbg := {}, beats := [], ctWords := [], ct := [], ctPos := [], descJ := [],
                    ing := { dly := keptDelays d.ing.dly }, q := {}, trig := {}, store := { d.store with repair := [] },
                    pendW := d.pendW.map atNext,
                    pow := { d.pow with coolSince := [], peak := none } }
  let d := { d with host := { d.host with dma := [] } }
  restartTime (resetLanes (rebuildCells (d.put 0x2850 0x06 0)))

/-- Events that the collector's strobe left for the reset: WIRE_BAD and what was raised once in the epoch are cleared. -/
def clearWires (d : Strand) : Strand :=
  let d := { d with flt := { d.flt with onceDone := [] } }
  (List.range 192).foldl (fun d s => d.putBit 0x2810 s 3 false) d

/-- RECOVERY_RESET: INSTANCE is the ladder function whose step 3 the reset is (R393, R402); for any other reset the
spec gives none. -/
def raiseReset (d : Strand) : Strand :=
  match d.flt.ladders.find? fun l => l.busy && decide (l.step = 3) with
  | some l => d.raise 0x0A l.fn
  | none => d.raiseAny 0x0A

/-- A strand reset (R339, R401); PF4 raises vector 2. -/
def strandResetOp (d : Strand) : Strand :=
  let d := abandonCmd d
  let d := (restartStrand d false).endSessions
  let d := clearWires (d.bump 0x1103 0x01 1)
  let body := eventBody d 0x05 (d.get 0x1103 0x01) (d.get 0x1100 0x04)
  let d := { d with host := { d.host with held := [body], lost := false },
                    flt := { d.flt with resetReq := false, unitFit := true } }
  (raiseReset (unitsReset d)).emit .vector (256 * 4 + 2) []

/-! ### STRAND_UP (R401, R402) -/

/-- Domains that a strand in RUN keeps on (R412). -/
def runDomains : List Nat := [0x03, 0x0C, 0x0D, 0x0E, 0x0F]

/-- Ladders whose strand reset was in progress complete their step. -/
def laddersUp (d : Strand) : Strand :=
  let end_ := d.sage + secTime (d.get 0x2860 0x02)
  let f := fun (l : Ladder) => if l.busy && decide (l.step = 3) then { l with busy := false, until_ := end_ } else l
  { d with flt := { d.flt with ladders := d.flt.ladders.map f } }

/-- RECOVERY_RECOMMIT: the sage checks the STALE image (R401, R423). -/
def recommitStart (d : Strand) : Strand :=
  if d.getBit 0x2860 0x03 0 ∧ d.shadowState = 6 then
    let d := (d.setShadow 2).put 0x6001 0x01 1
    { d with plan := { d.plan with recommit := true } }
  else d

/-- A strand that is asleep or that heat holds in reset cannot come up, nor can one whose control pair is off or
without clocks while XIN_STATUS is not OK (R415, R420). -/
def mayStart (g : Pkg) (d : Strand) : Bool :=
  d.inReset && decide (d.sleep = 0) && !d.pow.stripOff && g.xinOk &&
    (decide (g.get 0x2601 0x01 = 0) || decide (d.domain 0x0F = 2))

/-- STRAND_UP rises and PF4 raises vector 2; the strand runs on the units that have passed. -/
def strandUpOp (g : Pkg) (d : Strand) : Strand :=
  if mayStart g d then
    let d := runDomains.foldl (fun d n => if d.domain n = 2 then d else (d.setDomain n 2).put 0x2403 n (wakeUs n)) d
    (setCclk (recommitStart (laddersUp (unitsUp (d.put 0x2850 0x06 1))))).emit .vector (256 * 4 + 2) []
  else d

/-! ### Sleep (R210, R423) -/

/-- Every strand domain goes off. -/
def allDomainsOff (d : Strand) : Strand := (List.range 16).foldl (fun d n => domainOff d n 0) d

/-- Contents of the store partition are lost, with both plan slots: ACTIVE_GEN returns to 0, and what the plan ran
ends (R210). -/
def loseStore (d : Strand) : Strand :=
  let d := storeLost { d with store := { d.store with rowCe := [] } }
  let d := ((resetPlans d false false 0 0).put 0x6000 0x06 0).put 0x4003 0x03 0
  { d with
      beats := [], ctWords := [], ct := [], ctPos := [], descJ := [], ing := { dly := keptDelays d.ing.dly }, q := {},
      trig := { d.trig with units := [], olds := [], raised := [] } }

/-- A write of STRAND_POWER. A strand that wakes without a good XIN raises PWR_DOMAIN_FAIL for its control pair
(R415). -/
def strandPowerOp (g : Pkg) (d : Strand) (v : Nat) : Strand :=
  let old := d.sleep
  if 2 < v then d.answer 0x02
  else if v = old then d.answer 0x00
  else if v = 0 then
    let d := { d.put 0x2400 0x01 0 with sageBase := d.sageBase + d.now, now := 0 }
    ((unitsReset d).raiseIf (decide (g.get 0x2601 0x01 ≠ 0)) 0xB7 0x0F).answer 0x00
  else if d.hasPlan then d.answer 0x01
  else
    let d := (allDomainsOff (restartStrand (abandonCmd d) true)).put 0x2400 0x01 v
    (if v = 2 then loseStore d else d).answer 0x00

/-! ### OTP patches (R354) -/

/-- A patch slot: the image followed by its CRC-32. -/
def patchGood (b : List Byte) : Bool :=
  decide (4 ≤ b.length) && decide (fieldAt b (b.length - 4) 4 = crc32 (b.take (b.length - 4)))

/-- The sage applies the programmed slots in ascending order; a bad one is skipped. -/
def applyPatches (g : Pkg) (d : Strand) : Strand :=
  let d := (d.put 0x1000 0x09 0).put 0x1000 0x0A 1
  (List.range 32).foldl (fun d n =>
    match smGet (fun _ => ([] : List Byte)) g.patches n with
    | [] => d
    | b => if patchGood b then d.put 0x1000 0x09 n else (d.put 0x1000 0x0A 2).raiseAnyOnce 0xA1) d

/-! ### Device reset (R391, R421) -/

/-- What a device reset keeps of a strand: FAULT_FIRST goes to FAULT_PREV_FIRST where the always-on domain stays
powered, and the numbering of free values goes on. -/
def strandCold (g : Pkg) (keepFirst : Bool) (d : Strand) : Strand :=
  let e := { Strand.reset d.id with freeCtr := d.freeCtr }
  let e := if keepFirst then e.put 0x2800 0x03 (d.get 0x2800 0x01) else e
  applyPatches g e

/-- What a device reset keeps of the package: OTP, pins and feeds. -/
def pkgCold (g : Pkg) (straps : Straps) : Pkg :=
  { State.reset.pkg with key := g.key, patches := g.patches, straps := straps, xinOk := g.xinOk, feeds := g.feeds,
                         pwrEn := g.pwrEn, porN := g.porN, testEn := g.testEn, perstN := g.perstN,
                         jtagIr := g.jtagIr, jtagBsr := g.jtagBsr, jtagPins := g.jtagPins, jtagDr := g.jtagDr }

end Sys2Proof.Machine
end

