-- ==== Sys2Proof/Machine/ThermOps.lean ====
section
/-! DEFINITION. Thermal sensors, grade, shutdown and restart (R419, R420). Temperatures are in units of 0.1 °C. -/

namespace Sys2Proof.Machine

/-- Power domain of a sensor. -/
def sensorDomain (s : Nat) : Nat :=
  if s < 8 then 4 + s else if s = 8 then 0x03 else if s = 9 then 0x0C else if s = 10 then 0x00 else if s = 11
      then 0x0F else 0x0D

/-- The other sensors of the cell-domain class that have a reading and are not left out. -/
def classPeers (d : Strand) (s : Nat) : List Nat :=
  if s < 8 then (List.range 8).filter fun k =>
    decide (k ≠ s) && d.pow.sampled.contains k && !(d.pow.sensorBad.contains k) else []

/-- A reading differs by more than 5 °C from the mean of the other sensors of its class. -/
def readingOff (d : Strand) (s : Nat) (t : Int) : Bool :=
  let l := classPeers d s
  let sum := sumI (l.map fun k => d.getInt 0x2411 k 16)
  !l.isEmpty && decide (50 * l.length < (t * l.length - sum).natAbs)

/-- The epoch count of the always-on domain, which runs on in a reset. -/
def sageEpoch (d : Strand) : Nat := d.sage / 2 ^ 38

/-- A grade is or is not at or below THERM_RESTART: the dwell of R420 starts, runs on or ends. -/
def restartDwell (d : Strand) (grade : Int) : Strand :=
  let run := if grade ≤ d.getInt 0x2410 0x04 16 then (if d.pow.restRun = 0 then sageEpoch d + 1 else d.pow.restRun) else 0
  { d with pow := { d.pow with restRun := run } }

/-- A sensor at 165 °C or more: a strand reset, every switched domain held off. -/
def thermTrip (d : Strand) : Strand :=
  if d.pow.stripOff then d
  else
    let d := (allDomainsOff d).raise 0xBA 0xFF
    { d with pow := { d.pow with stripOff := true, restRun := 0 }, flt := { d.flt with resetReq := true } }

/-- A sensor is sampled; the one on the store die only while the package monitor has power (R9). -/
def thermSampleOp (g : Pkg) (d : Strand) (s : Nat) (t : Int) (selfOk : Bool) : Strand :=
  if 13 ≤ s ∨ (s = 12 ∧ g.domain 0x42 ≠ 2) then d
  else
    let bad := !selfOk || readingOff d s t
    let new := bad && !(d.pow.sensorBad.contains s)
    let d := d.putInt 0x2411 s 16 t
    let d := { d with pow := { d.pow with sampled := (s :: d.pow.sampled).dedup } }
    let d := if new then { d.raise 0xBB (sensorDomain s) with
      pow := { d.pow with sensorBad := s :: d.pow.sensorBad } } else d
    let d := if d.pow.sensorBad.contains s then d
      else if d.pow.stripOff then restartDwell d (t + 20)
      else { d with pow := { d.pow with peak := some (max t (d.pow.peak.getD t)) } }
    if 1650 ≤ t then thermTrip d else d

/-- Step 4 of R13: the grade of the epoch just ended. Without a reading in the epoch it stays. -/
def formGrade (d : Strand) : Strand :=
  match d.pow.peak with
  | none => d
  | some p =>
    let old := d.getInt 0x2410 0x01 16
    let d := d.putInt 0x2410 0x01 16 (p + 20)
    let d := if old ≤ 1500 ∧ 1500 < p + 20 then d.raiseAny 0xB9 else d
    restartDwell { d with pow := { d.pow with peak := none } } (p + 20)

/-- The comparator of a cell domain whose sensor reads 155 °C or more powers it off. -/
def thermOffOp (d : Strand) (n : Nat) : Strand :=
  if 4 ≤ n ∧ n < 0x0C ∧ 1550 ≤ d.getInt 0x2411 (n - 4) 16 ∧ d.pow.thermOff.contains n = false then
    let d := (domainOff d n 0).raise 0xBA n
    { d with pow := { d.pow with thermOff := n :: d.pow.thermOff, restRun := 0 } }
  else d

/-- The grade has been at or below THERM_RESTART for THERM_DWELL_MS. -/
def restartDue (d : Strand) : Bool :=
  decide (d.pow.restRun ≠ 0) && decide (d.get 0x2410 0x03 * 1024 ≤ (sageEpoch d + 1 - d.pow.restRun) * 1000)

/-- A domain or, with 0xFF, the strand that heat shut down may run again. -/
def thermRestartOp (g : Pkg) (d : Strand) (n : Nat) : Strand :=
  if restartDue d = false then d
  else if n = 0xFF then { d with pow := { d.pow with stripOff := false } }
  else if d.pow.thermOff.contains n && !d.pow.stripOff then
    let d := { d with pow := { d.pow with thermOff := d.pow.thermOff.filter fun x => decide (x ≠ n) } }
    if domainNeeded d n then wakeDomain g d n else d
  else d

end Sys2Proof.Machine
end

