-- ==== Sys2Proof/Machine/LadderOps.lean ====
section
/-! DEFINITION. The recovery ladder (R402, R403) and the re-initialisations of BLOCK_RESET (R393). -/

namespace Sys2Proof.Machine

/-! ### Actions -/

/-- The lane records of an external lane, an internal lane or a bond's members that are not up. -/
def laneRecords (d : Strand) (l : Nat) : List Nat :=
  if 0x40 ≤ l ∧ l < 0x50 then ((d.bondMembers (l - 0x40)).map d.recOf).filter fun n => !(d.laneUp n)
  else if l < 24 ∨ (0x20 ≤ l ∧ l < 0x40) then [d.recOf l] else []

/-- A record trains again, unless it is off, under test or RETIRED. -/
def retrainRec (d : Strand) (n : Nat) : Strand :=
  if d.laneState n = 0 ∨ d.laneState n = 4 ∨ d.laneState n = 6 then d
  else (d.setLaneState n 1).setLane n { d.lane n with locked := false, goodRun := 0, badRun := 0, release := none }

/-- Retrain of a lane or bond. -/
def retrainLane (d : Strand) (l : Nat) : Strand := refreshOutputs ((laneRecords d l).foldl retrainRec d)

/-- Retrain of the Ethernet port that starts at a lane, or of a JESD204C link at `0x60 + j`. -/
def retrainLink (d : Strand) (l : Nat) : Strand :=
  if 0x60 ≤ l then jesdDownOp d (l - 0x60)
  else match (List.range 24).find? fun p => bit (d.ethPort p) 0 && decide (bits (d.ethPort p) 4 5 = l) with
  | some p => portDrop d p
  | none => d

/-- A spare swap is called for, whatever LANE_SWAP_AUTO says. -/
def callSwap (d : Strand) (l : Nat) : Strand :=
  if (d.lanes.swapWant.contains l) then d
  else { d with lanes := { d.lanes with swapWant := d.lanes.swapWant ++ [l] } }

/-- The trigger tables are reloaded, and `last[]` and `dead_until` of every unit cleared as at a commit (R250, R403). -/
def clearUnits (d : Strand) : Strand :=
  let f := fun (x : Nat × UnitSt) => (x.1, { x.2 with last := [], dead := none })
  let g := fun (l : SMap UnitSt) => (l.map f).filter fun x => decide (x.2 ≠ ({} : UnitSt))
  tablesReload { d with trig := { d.trig with units := g d.trig.units,
                                              olds := d.trig.olds.map fun x => { x with units := g x.units } } }

/-- The command engine fetches C anew. -/
def restartFetch (d : Strand) : Strand :=
  { d.putBit 0x1100 0x06 2 false with host := { d.host with cmd := { d.host.cmd with tries := 0 } } }

/-- The command engine and the event writer restart; held events are kept. -/
def restartEngines (d : Strand) : Strand := (restartFetch d).drainEvents

/-- The first row of a bank with an uncorrectable word, for the soft repair of ladder step 2. -/
def badRow (d : Strand) (bank : Nat) : Option Nat :=
  ((d.store.ecc.filter fun x => decide (x.2 = 1)).map fun x => x.1 / 1024).find? fun r => decide (rowBank r = bank)

/-- The standby is reset and re-integrated; an INELIGIBLE unit stays so (R399). -/
def resetStandby (d : Strand) : Strand :=
  let u := 1 - d.activeUnit
  if d.unitState u = 6 ∨ d.inReset then d else resetUnit (d.put 0x2850 0x01 2) u

/-- SHADOW is emptied; a commit that waits on it does not take place. -/
def dropShadow (d : Strand) : Strand :=
  { (emptySlot d).setShadow 0 with plan := { d.plan with pend := none, recommit := false } }

/-- The power domain of a ladder function. -/
def ladderDomain (d : Strand) (fn inst : Nat) : Option Nat :=
  if fn = 1 then (if inst < 272 then some (4 + inst / 34) else none)
  else if fn = 2 then some 0x03 else if fn = 3 then some 0x0D else if fn = 4 then some 0x0C
  else if fn = 5 then some 0x0E
  else if fn = 6 ∨ fn = 7 then
    if 0x60 ≤ inst then some (laneGroup (d.recOf (jesdFirst (d.jesd (inst - 0x60)))))
    else if 0x40 ≤ inst then some (laneGroup (d.recOf ((d.bondMembers (inst - 0x40)).headD 0)))
    else if inst < 24 then some (laneGroup (d.recOf inst)) else none
  else if fn = 0x0B ∧ inst < 16 then some inst
  else none

/-! ### Steps (R403) -/

/-- Ladder function that a source starts. -/
def ladderFn (src : Nat) : Option Nat :=
  if src = 0x03 then some 0x0
  else if [0x10, 0x11, 0x13, 0x14].contains src then some 0x1
  else if src = 0x35 ∨ src = 0x36 then some 0x2
  else if 0x52 ≤ src ∧ src ≤ 0x54 then some 0x3
  else if [0x50, 0x51, 0x58, 0x59, 0x5A].contains src then some 0x4
  else if src = 0x65 ∨ src = 0x66 then some 0x5
  else if [0x70, 0x71, 0x72, 0x78, 0x7A].contains src then some 0x6
  else if src = 0x7C ∨ src = 0x7D then some 0x7
  else if src = 0x84 ∨ src = 0x8A then some 0x8
  else if [0x90, 0x94, 0x99].contains src then some 0x9
  else if src = 0xA4 then some 0xA
  else if src = 0xB5 ∨ src = 0xB7 then some 0xB
  else none

/-- Whether the table gives a function a step. -/
def ladderHas (fn step : Nat) : Bool :=
  if step = 1 then [3, 5, 6, 7, 8, 9, 0xA].contains fn
  else if step = 2 ∨ step = 3 then true
  else decide (step = 4) && [1, 2, 3, 4, 5, 6, 7, 0xB].contains fn

/-- The next step after `n` that the table gives. -/
def nextStep (fn n : Nat) : Option Nat := ([1, 2, 3, 4].filter fun s => decide (n < s)).find? (ladderHas fn)

/-- Step 1. -/
def retryAct (g : Pkg) (d : Strand) (fn inst : Nat) : Strand :=
  if fn = 6 then retrainLane d inst
  else if fn = 7 then retrainLink d inst
  else if fn = 8 then reselect g d
  else if fn = 9 then restartFetch d
  else d

/-- Step 2. -/
def reinitAct (d : Strand) (fn inst : Nat) : Strand :=
  if fn = 0 then resetStandby d
  else if fn = 1 then (if inst < 272 then (spliceAsk d inst true).1 else d)
  else if fn = 2 then { d with ing := { d.ing with reload := true } }
  else if fn = 3 then (match badRow d (inst - 0x8000) with | some r => repairStart d r | none => d)
  else if fn = 4 then (if inst < 0x8000 then flushQueue d inst else d)
  else if fn = 5 then clearUnits d
  else if fn = 6 then callSwap d inst
  else if fn = 7 then (if inst < 0x60 then callSwap d inst else retrainLink d inst)
  else if fn = 9 then restartEngines d
  else d

/-- The action of a step. -/
def stepAct (g : Pkg) (d : Strand) (fn inst step : Nat) : Strand :=
  if step = 1 then retryAct g d fn inst
  else if step = 2 then reinitAct d fn inst
  else if step = 3 then { d with flt := { d.flt with resetReq := true } }
  else match ladderDomain d fn inst with
    | some n => cycleDomain g d n
    | none => d

/-- LADDER_STEP of a function: the highest step of its instances. -/
def showLadder (d : Strand) (fn : Nat) : Strand :=
  d.put 0x2861 fn ((d.flt.ladders.filter fun l => decide (l.fn = fn)).foldl (fun a l => max a l.step) 0)

/-- The ladder of an instance. -/
def Strand.ladder (d : Strand) (fn inst : Nat) : Option Ladder :=
  d.flt.ladders.find? fun l => decide (l.fn = fn) && decide (l.inst = inst)

/-- Sets the ladder of an instance; step 0 removes it. -/
def Strand.setLadder (d : Strand) (l : Ladder) : Strand :=
  let rest := d.flt.ladders.filter fun x => !(decide (x.fn = l.fn) && decide (x.inst = l.inst))
  showLadder { d with flt := { d.flt with ladders := if l.step = 0 then rest else rest ++ [l] } } l.fn

/-- The sage takes the step after `cur`, or finds none left. Step 3 raises RECOVERY_RESET with the strand reset that
it takes (R401). -/
def ladderTake (g : Pkg) (d : Strand) (fn inst cur : Nat) : Strand :=
  let top := d.get 0x2860 0x01
  if top = 0 then d
  else match nextStep fn cur with
    | some s =>
      if s ≤ top then
        let d := (d.raiseIf (decide (s ≠ 3)) (0x07 + s) fn).setLadder ⟨fn, inst, s, true, 0⟩
        stepAct g d fn inst s
      else d.raise 0x0C fn
    | none => d.raise 0x0C fn

/-- A starting source of an instance is captured, with or without an NMI reaction. -/
def ladderFault (g : Pkg) (d : Strand) (src inst : Nat) (nmi : Bool) : Strand :=
  match ladderFn src with
  | none => d
  | some fn =>
    match d.ladder fn inst with
    | none => if nmi then ladderTake g d fn inst 0 else d
    | some l =>
      if l.busy then d
      else if d.sage < l.until_ then ladderTake g d fn inst l.step
      else
        let d := d.setLadder { l with step := 0 }
        if nmi then ladderTake g d fn inst 0 else d

/-- The effect of a step is complete; a strand reset completes at STRAND_UP. -/
def ladderDoneOp (d : Strand) (fn inst : Nat) : Strand :=
  match d.ladder fn inst with
  | some l =>
    if l.busy && decide (l.step ≠ 3) then
      d.setLadder { l with busy := false, until_ := d.sage + secTime (d.get 0x2860 0x02) } else d
  | none => d

/-- An instance has stayed clean for LADDER_WINDOW_S. -/
def ladderCleanOp (d : Strand) (fn inst : Nat) : Strand :=
  match d.ladder fn inst with
  | some l => if !l.busy && decide (l.until_ ≤ d.sage) then d.setLadder { l with step := 0 } else d
  | none => d

/-! ### BLOCK_RESET (R393) -/

/-- The re-initialisation of a group. -/
def blockReset (g : Pkg) (d : Strand) (src inst : Nat) : Strand :=
  match src / 16 with
  | 0x0 => resetStandby d
  | 0x1 => if inst < 272 then (spliceAsk d inst false).1 else d
  | 0x3 => { d with ing := { d.ing with reload := true } }
  | 0x4 => dropShadow d
  | 0x5 => if inst < 0x8000 then flushQueue d inst else d
  | 0x6 => { d with trig := { d.trig with reload := true } }
  | 0x7 => if 0x60 ≤ inst then retrainLink d inst else retrainLane d inst
  | 0x8 => reselect g d
  | 0x9 => restartEngines d
  | _ => d

end Sys2Proof.Machine
end

