-- ==== Sys2Proof/Machine/FaultOps.lean ====
section
/-! DEFINITION. The fault collector (R383 to R391): sampling, escalation, records, reactions and its pins. -/

namespace Sys2Proof.Machine

/-! ### Sampling (R384) -/

/-- Sources of the store periphery in group 0x5. -/
def storeSource (src : Nat) : Bool := (decide (0x52 ≤ src) && decide (src ≤ 0x56))

/-- Lane group of a lane-map number, for a lane of a physical pair. -/
def groupOfLane (d : Strand) (l : Nat) : Option Nat := if l < 24 then some (laneGroup (d.recOf l)) else none

/-- The collector samples a source: its domain has power and is not in reset. -/
def sampledSource (g : Pkg) (d : Strand) (src inst : Nat) : Bool :=
  let grp := src / 16
  if grp = 0x0 ∨ grp = 0x4 ∨ grp = 0xA ∨ grp = 0xB then true
  else if d.inReset then false
  else if grp = 0x1 ∨ grp = 0x2 then decide (272 ≤ inst) || decide (d.domain (4 + inst / 34) = 2)
  else if grp = 0x3 then decide (d.domain 0x03 = 2)
  else if grp = 0x5 then decide (d.domain (if storeSource src then 0x0D else 0x0C) = 2)
  else if grp = 0x6 then decide (d.domain 0x0E = 2)
  else if grp = 0x7 then match groupOfLane d inst with
    | some n => decide (d.domain n = 2)
    | none => true
  else if grp = 0x8 then decide (d.domain 0x0F = 2)
  else decide (g.domain 0x40 = 2)

/-! ### Pins (R389, R390) -/

/-- Asserts or releases ERR_N. -/
def setErrN (d : Strand) (b : Bool) : Strand :=
  if d.getBit 0x2840 0x03 0 = b then d else (d.putBit 0x2840 0x03 0 b).pin 6 b

/-- Asserts or releases INT_N. -/
def setIntN (d : Strand) (b : Bool) : Strand :=
  if d.getBit 0x2840 0x03 1 = b then d else (d.putBit 0x2840 0x03 1 b).pin 7 b

/-- An ERR_N reaction: the minimum starts anew and a waiting release is cancelled. -/
def errReact (d : Strand) : Strand :=
  setErrN { d with flt := { d.flt with errUntil := d.sage + usTime (d.get 0x2840 0x01), errRelease := false } } true

/-- A write of 1 to ERR_N_RELEASE. -/
def errReleaseOp (d : Strand) (v : Nat) : Strand :=
  (if v % 2 = 0 ∨ d.getBit 0x2840 0x03 0 = false then d
   else if d.flt.errUntil ≤ d.sage then setErrN d false
   else { d with flt := { d.flt with errRelease := true } }).answer 0x00

/-- The minimum width has passed. -/
def errMinOp (d : Strand) : Strand :=
  if d.flt.errRelease ∧ d.flt.errUntil ≤ d.sage then setErrN { d with flt := { d.flt with errRelease := false } } false else d

/-- INT_N stays asserted while a group that took an INT reaction is PENDING. -/
def refreshInt (d : Strand) : Strand := setIntN d ((List.range 12).any fun k => d.getBit 0x2801 k 1)

/-! ### Records (R391) -/

/-- Sources that end the promise (R392 and the tables that it names: R66, R125, R188, R234, R261, R301, R325, R351). -/
def promiseSources : List Nat :=
  [0x02, 0x05, 0x06, 0x07, 0x09, 0x0A, 0x0B, 0x10, 0x11, 0x13, 0x14, 0x15, 0x35, 0x36, 0x45, 0x46,
   0x50, 0x51, 0x52, 0x53, 0x57, 0x58, 0x59, 0x5A, 0x65, 0x66] ++
  [0x7A, 0x7B, 0x7C, 0x89, 0x96, 0x97, 0x98, 0x99, 0xB2, 0xB7, 0xBA]

/-- What a capture makes of a source: `epoch` is EPOCH_ID of its record, `time` the strand time of the capture. -/
structure Taken where
  src   : Nat
  inst  : Nat
  sev   : Nat
  esc   : Bool
  react : Nat
  epoch : Nat
  time  : Nat
  deriving DecidableEq, Repr

/-- A fault record of 32 bytes, as a number. -/
def faultRecord (d : Strand) (k : Taken) : Nat :=
  k.src + (k.sev + 4 * b2n k.esc + 8) * 2 ^ 8 + k.inst * 2 ^ 16 + k.react * 2 ^ 32 + d.id.num * 2 ^ 40 +
    k.epoch % 2 ^ 58 * 2 ^ 64 + time80 k.time * 2 ^ 128

/-- FAULT_LAST takes the record; FAULT_FIRST takes it when empty, else notes OVERFLOW. -/
def recordFault (d : Strand) (k : Taken) : Strand :=
  let r := faultRecord d k
  let d := d.put 0x2800 0x02 r
  if k.sev = 0 then d
  else if d.getBit 0x2800 0x01 11 then d.putBit 0x2800 0x01 12 true
  else d.put 0x2800 0x01 r

/-! ### Reactions (R388, R389) -/

/-- A package source (R383). -/
def packageSource (src : Nat) : Bool := decide (0xB0 ≤ src) && decide (src ≤ 0xB4)

/-- The INT reaction. -/
def intReact (d : Strand) (k : Taken) : Strand :=
  let d := d.post 0x04 (k.src + k.sev * 2 ^ 8 + b2n k.esc * 2 ^ 10 + k.inst * 2 ^ 16) (k.epoch % 2 ^ 58)
  let d := if packageSource k.src then { d with flt := { d.flt with pkgInt := true } } else d.vector 1
  if k.sev = 0 then d else setIntN (d.putBit 0x2801 (k.src / 16) 1 true) true

/-- The reactions of a captured fault, in their order. -/
def react (g : Pkg) (d : Strand) (k : Taken) : Strand :=
  let r := k.react
  let d := if bit r 0 then intReact d k else d
  let d := if bit r 2 then errReact d else d
  let d := ladderFault g d k.src k.inst (bit r 1)
  let d := if bit r 3 then blockReset g d k.src k.inst else d
  let d := if bit r 4 then { d with flt := { d.flt with resetReq := true } } else d
  if bit r 5 then { d with flt := { d.flt with devReq := true } } else d

/-- The reaction byte of a group at a severity; DEVICE_RESET of a strand source is a STRAND_RESET. -/
def reactByte (d : Strand) (src sev : Nat) : Nat :=
  let r := d.get (0x2820 + src / 16) sev
  if bit r 5 && !(packageSource src) then setBit (setBit r 5 false) 4 true else r

/-- EPOCH_ID of a source's record (R391): the epoch of its condition, which is the first affected one, where it ends
the promise (R19; DEDUCED, assumption log 65), otherwise the epoch of capture. -/
def recordEpoch (d : Strand) (src time : Nat) : Nat := epochOf (if promiseSources.contains src then d.now else time)

/-- One captured fault is processed (R385 to R388). The capture falls at most 977 ns after the condition. -/
def capture (g : Pkg) (d : Strand) (f : Nat × Nat) : Strand :=
  let cfg := d.get 0x2810 f.1
  if bit cfg 3 then d
  else
    let d := d.bump 0x2830 f.1 1
    if bit cfg 2 then d
    else
      let w := d.freeNat
      let d := w.2
      let grp := f.1 / 16
      let own := bits cfg 0 2
      let esc := decide (own ≠ 0) && d.getBit 0x2801 grp 0
      let sev := if esc then min 3 (own + 1) else own
      let time := d.now + w.1 % (nsTime 977 + 1)
      let k : Taken := ⟨f.1, f.2, sev, esc, reactByte d f.1 sev, recordEpoch d f.1 time, time⟩
      let d := recordFault d k
      let d := if own ≠ 0 then d.putBit 0x2801 grp 0 true else d
      let d := if esc then d.putBit 0x2801 grp 2 true else d
      react g d k

/-- One sample: every source at (1, 0) that is sampled is captured, in ascending order, and all rails return to
(0, 1). -/
def sampleRails (g : Pkg) (d : Strand) : Strand :=
  let fs := d.flt.rails.filter fun f => sampledSource g d f.1 f.2
  fs.foldl (capture g) { d with flt := { d.flt with rails := [] } }

/-- Samples until every rail is idle; `n` bounds their number. Faults that the last of them leaves stay at (1, 0). -/
def sampleN (g : Pkg) : Nat → Strand → Strand
  | 0, d => d
  | n + 1, d => if d.flt.rails.isEmpty then d else sampleN g n (sampleRails g d)

/-- What a command leaves to the collector: samples, then a strand reset that is called for, and the samples after it. -/
def collect (g : Pkg) (d : Strand) : Strand :=
  let d := sampleN g 6 d
  if d.flt.resetReq ∧ d.flt.devReq = false then sampleN g 4 (strandResetOp d) else d

/-! ### Wires and writes (R384, R386 to R391) -/

/-- Two samples in a row read a rail pair as (0, 0) or (1, 1). -/
def railFaultOp (g : Pkg) (d : Strand) (src : Nat) : Strand :=
  if 192 ≤ src ∨ d.getBit 0x2810 src 3 ∨ sampledSource g d src 0xFFFF = false then d
  else (d.putBit 0x2810 src 3 true).raise 0x00 src

/-- A write of FAULT_WIRE_RETEST. -/
def wireRetestOp (d : Strand) (v : Nat) : Strand :=
  if 192 ≤ v then d.answer 0x02 else (d.putBit 0x2810 v 3 false).answer 0x00

/-- A write of FAULT_CFG: SEVERITY and MASK; sources 0x05 to 0x07 stay FATAL and unmasked. -/
def faultCfgOp (d : Strand) (src v : Nat) : Strand :=
  if 5 ≤ src ∧ src ≤ 7 ∧ bits v 0 3 ≠ 3 then d.answer 0x02
  else (d.putF 0x2810 src 0 3 (bits v 0 3)).answer 0x00

/-- A write of FAULT_REACT: DEVICE_RESET in group 0xB only. -/
def faultReactOp (d : Strand) (grp sev v : Nat) : Strand :=
  if bit v 5 ∧ grp ≠ 0x0B then d.answer 0x02 else (d.put (0x2820 + grp) sev (bits v 0 6)).answer 0x00

/-- A write of FAULT_GROUP_STATUS: 1 to PENDING acknowledges the group. -/
def groupAckOp (d : Strand) (grp v : Nat) : Strand :=
  if bit v 0 then (refreshInt (d.put 0x2801 grp 0)).answer 0x00 else d.answer 0x00

/-- A write of 1 to FAULT_FIRST_CLEAR. -/
def firstClearOp (d : Strand) (v : Nat) : Strand := (if v % 2 = 1 then d.put 0x2800 0x01 0 else d).answer 0x00

/-- A write of 1 to FAULT_CNT_CLEAR. -/
def faultCntClearOp (d : Strand) (v : Nat) : Strand :=
  (if v % 2 = 1 then d.clearSubs 0x2830 (List.range 192) else d).answer 0x00

end Sys2Proof.Machine
end

