-- ==== Sys2Proof/Machine/LydFrames.lean ====
section
/-! DEFINITION. Frames of the Lanyard (R356 to R358) and the answers to accesses that complete later. A node's ports
are 0 UPSTREAM and 1 DOWNSTREAM; the part's ports are UPSTREAM of strand 0 and DOWNSTREAM of strand 3. -/

namespace Sys2Proof.Machine

/-- CRC of a Lanyard frame appended (R356). -/
def lydCrc (b : List Byte) : List Byte := b ++ natToBytes 4 (crc32 b)

/-- The bytes of a Lanyard frame, CRC included. -/
def lydBytes (f : LydFrame) : List Byte :=
  lydCrc (natToBytes 1 (f.type + 16) ++
    natToBytes 1 (b2n f.resp + 2 * b2n f.srcExt + 4 * b2n f.allStrands) ++
    natToBytes 2 f.dstDev ++ natToBytes 1 f.dstStrand ++ natToBytes 1 f.srcStrand ++
    natToBytes 2 f.srcDev ++ natToBytes 2 f.seq ++ natToBytes 2 f.index ++ natToBytes 1 f.subindex ++
    natToBytes 1 f.status ++ natToBytes 2 f.len ++ f.payload)

/-- Reads a frame from the bytes between its delimiters; the LEN of a READ request is the number of bytes wanted, and
it carries no payload (R357). None where the length does not fit or its CRC is wrong. -/
def lydParse (b : List Byte) : Option LydFrame :=
  let h := fun (o n : Nat) => fieldAt b o n
  let len := h 14 2 % 512
  let carried := if h 0 1 % 16 = 1 ∧ bit (h 1 1) 0 = false then 0 else len
  let body := b.take (16 + carried)
  if b.length = 20 + carried ∧ len ≤ 256 ∧ b = lydCrc body then
    some { type := h 0 1 % 16, resp := bit (h 1 1) 0, srcExt := bit (h 1 1) 1, allStrands := bit (h 1 1) 2,
           dstDev := h 2 2, dstStrand := h 4 1 % 4, srcStrand := h 5 1 % 4, srcDev := h 6 2, seq := h 8 2,
           index := h 10 2, subindex := h 12 1, status := h 13 1, len := len, payload := body.drop 16 }
  else none

/-- Whether a port of the node has a neighbour: only the part's own ports can be without a link (R358). -/
def lydLinked (g : Pkg) (d : Strand) (port : Nat) : Bool :=
  if port = 0 then d.id ≠ .s0 || g.upLink else d.id ≠ .s3 || g.downLink

/-- Sends a frame out of a port of the node; a port without a link drops it (R358). -/
def lydSend (g : Pkg) (d : Strand) (port : Nat) (b : List Byte) : Strand :=
  if lydLinked g d port then d.emit .lanyard port b else d

/-- A frame that a node originates: ENUM, ENUM_REPORT or BEACON with a 16-byte payload. The header fields that R356
ties to a request, and SRC_DEV of a part without a device ID, are free values. -/
def ownSend (g : Pkg) (d : Strand) (port type : Nat) (payload : List Byte) : Strand :=
  let w := d.freeNat
  let x := w.1
  lydSend g w.2 port (lydBytes {
    type := type, resp := false, srcExt := false, allStrands := false, dstDev := x % 65536,
    dstStrand := x / 2 ^ 16 % 4, srcStrand := d.id.num, srcDev := g.devId.getD (x / 2 ^ 18 % 65536),
    seq := x / 2 ^ 34 % 65536, index := x / 2 ^ 50 % 65536, subindex := x / 2 ^ 66 % 256, status := 0,
    len := 16, payload := payload })

/-- SERIAL as 8 bytes. -/
def serialBytes (d : Strand) : List Byte := natToBytes 8 (d.get 0x1000 0x06)

/-- The payload of an ENUM frame (R363). -/
def enumPayload (seg pos : Nat) (serial : List Byte) : List Byte :=
  natToBytes 1 seg ++ natToBytes 2 pos ++ zeros 5 ++ serial

/-! ### Answers -/

/-- The response to a request (R356, R357). -/
def responseTo (g : Pkg) (d : Strand) (f : LydFrame) (code : Nat) (data : List Byte) : LydFrame :=
  { type := f.type, resp := true, srcExt := false, allStrands := false, dstDev := f.srcDev, dstStrand := f.srcStrand,
    srcStrand := d.id.num, srcDev := g.deviceId, seq := f.seq, index := f.index, subindex := f.subindex,
    status := code, len := data.length, payload := data }

/-- The requester table keeps the response that a requester's last request got (R359). -/
def tableKeep (l : List ReqEntry) (rq : Requester) (seq : Nat) (b : List Byte) : List ReqEntry :=
  l.map fun e => if e.rq = rq ∧ e.seq = seq then { e with resp := b } else e

/-- A broadcast is counted when it fails (R360). -/
def bcastResult (d : Strand) (code : Nat) : Strand :=
  if code = 0 then d else (d.bump 0x1141 0x09 1).put 0x1141 0x0A code

/-- Gives an access its answer where it came from. -/
def deliver (g : Pkg) (d : Strand) (a : Ask) (code : Nat) (data : List Byte) : Pkg × Strand :=
  if a.port ≤ 1 then
    if a.f.type = 4 then (g, bcastResult d code)
    else
      let b := lydBytes (responseTo g d a.f code data)
      (g, lydSend g { d with mgmt := { d.mgmt with table := tableKeep d.mgmt.table a.rq a.f.seq b } } a.port b)
  else if a.port = 2 then ({ g with dbgReg := lydBytes (responseTo g d a.f code data) }, d)
  else if a.port = 3 then
    (g, { d with host := { d.host with win := { d.host.win with pendRes := code, pendDat := data } } })
  else (g, d)

/-- Gives a list of accesses one answer. -/
def deliverAll (g : Pkg) (d : Strand) (l : List Ask) (code : Ask → Nat) : Pkg × Strand :=
  l.foldl (fun (x : Pkg × Strand) a => deliver x.1 x.2 a (code a) []) (g, d)

/-- Accesses that a reset has cut off get their answer. -/
def deliverCut (g : Pkg) (d : Strand) : Pkg × Strand :=
  let gone := d.mgmt.asks.filter fun a => decide (a.cut ≠ 0)
  let stay := d.mgmt.asks.filter fun a => decide (a.cut = 0)
  deliverAll g { d with mgmt := { d.mgmt with asks := stay } } gone fun a => a.cut

end Sys2Proof.Machine
end

