-- ==== Sys2Proof/Machine/Package.lean ====
section
/-! DEFINITION. The package: running a command on a strand, device reset, supply feeds, XIN, and the pins PWR_EN,
POR_N and TEST_EN (R383, R404, R414 to R417, R421, R422, R437). -/

namespace Sys2Proof.Machine

/-! ### Device reset (R421, R422) -/

/-- The part is without power or held in device reset. -/
def Pkg.inHold (g : Pkg) : Bool := !g.powered || !g.pwrEn || !g.porN || g.testEn

/-- A strand that finds no XIN at a cold start does not come up (R415). -/
def coldWithoutXin (d : Strand) : Strand :=
  (allDomainsOff (d.put 0x2850 0x06 0)).raise 0xB7 0x0F

/-- The state of a cold start, but for what a device reset keeps. -/
def coldStart (s : State) (straps : Straps) (keepFirst : Bool) : State :=
  let xin := s.pkg.get 0x2601 0x01
  let g := (pkgCold s.pkg straps).put 0x2601 0x01 xin
  let g := { g with xinOk := decide (xin = 0) }
  let f := fun (d : Strand) =>
    let d := strandCold g keepFirst d
    if xin = 0 then d else coldWithoutXin d
  { s with st0 := f s.st0, st1 := f s.st1, st2 := f s.st2, st3 := f s.st3, pkg := g }

/-! ### After a command -/

/-- The collector of a strand works; the INT that it took for a package source is left in `pkgInt`. Accesses that a
reset cut off get their answer. -/
def collectAt (s : State) (k : StrandId) : State :=
  let r := deliverCut s.pkg (collect s.pkg (s.strand k))
  { s with pkg := r.1 }.setStrand k r.2

/-- Clears the note of an INT for a package source. -/
def forgetInt (d : Strand) : Strand := { d with flt := { d.flt with pkgInt := false } }

/-- Strands in ascending order. -/
def allStrands : List StrandId := [.s0, .s1, .s2, .s3]

/-- PF4 vector 0, once for all the collectors that took an INT for a package source; a device reset that a collector
or a write calls for. -/
def settlePkg (s : State) : State :=
  let int := allStrands.any fun k => (s.strand k).flt.pkgInt
  let dev := allStrands.any fun k => (s.strand k).flt.devReq
  let s := { s with st0 := forgetInt s.st0, st1 := forgetInt s.st1, st2 := forgetInt s.st2, st3 := forgetInt s.st3 }
  let s := if int then { s with pkg := s.pkg.vector4 0 } else s
  if dev then coldStart s s.pkg.straps true else s

/-- A device ID taken in an enumeration: where it differs from the one in force, every strand clears its requester
table, whose holders lose their sessions, and raises LYD_ID_CHANGED (R363). -/
def idChanged (d : Strand) : Strand :=
  let keep := d.mgmt.sessions.filter fun x => match x.rq with | .lyd _ _ _ => false | _ => true
  ({ d with mgmt := { d.mgmt with table := [], sessions := keep } }).raiseOnce 0xA7 0

/-- The part takes the device ID that the command left in `newId`. -/
def takeNewId (s : State) : State :=
  match s.pkg.newId with
  | none => s
  | some i =>
    let same := decide (i = s.pkg.deviceId)
    let s := { s with pkg := { s.pkg with devId := some i, newId := none } }
    if same then s
    else allStrands.foldl collectAt { s with st0 := idChanged s.st0, st1 := idChanged s.st1, st2 := idChanged s.st2,
                                             st3 := idChanged s.st3 }

/-- What follows a command on a strand. -/
def settle (s : State) (k : StrandId) : State := settlePkg (takeNewId (collectAt s k))

/-- What follows a command that all strands see. -/
def settleAll (s : State) : State := settlePkg (allStrands.foldl collectAt s)

/-! ### Running a command -/

/-- A strand at the instant of a command. -/
def Strand.atTime (d : Strand) (t : Nat) : Strand := { d with now := max d.now t, out := [] }

/-- A command on a strand and the package; nothing happens while the part is without power or held in reset. -/
def onPart (s : State) (w : At) (f : Pkg → Strand → Pkg × Strand) : State :=
  if s.pkg.inHold then s
  else
    let r := f { s.pkg with out := [] } ((s.strand w.k).atTime w.t)
    settle ({ s with pkg := r.1 }.setStrand w.k r.2) w.k

/-- A command on a strand that reads the package. -/
def onStrandPkg (s : State) (w : At) (f : Pkg → Strand → Strand) : State := onPart s w fun g d => (g, f g d)

/-- A command on a strand. -/
def onStrand (s : State) (w : At) (f : Strand → Strand) : State := onPart s w fun g d => (g, f d)

/-- The strand's fast clocks run: it is out of reset and its control pair has power (R415). -/
def Strand.live (d : Strand) : Bool := !d.inReset && decide (d.domain 0x0F = 2)

/-- A command of the data plane: it needs the strand's clocks. -/
def onLive (s : State) (w : At) (f : Strand → Strand) : State := onStrand s w fun d => if d.live then f d else d

/-- The same for one that reads the package. -/
def onLivePkg (s : State) (w : At) (f : Pkg → Strand → Strand) : State :=
  onStrandPkg s w fun g d => if d.live then f g d else d

/-- Every strand of a state. -/
def State.mapStrands (s : State) (f : Strand → Strand) : State :=
  { s with st0 := f s.st0, st1 := f s.st1, st2 := f s.st2, st3 := f s.st3 }

/-! ### Feeds (R416, R417) -/

/-- Package source of a feed. -/
def feedSource : Feed → Nat
  | .vinA => 0xB0 | .vinB => 0xB1 | .vioA => 0xB3 | .vioB => 0xB4

/-- A package source is signalled to every collector. -/
def raiseAll (s : State) (src : Nat) : State :=
  settleAll ((s.mapStrands fun d => { d with out := [] }).mapStrands fun d => d.raiseAny src)

/-- A feed leaves its range; without the package monitor nothing sees it. -/
def feedOutOp (s : State) (f : Feed) : State :=
  if s.pkg.inHold ∨ s.pkg.feeds.contains f then s
  else
    let s := { s with pkg := { s.pkg with feeds := f :: s.pkg.feeds, out := [] } }
    if s.pkg.monitored then raiseAll s (feedSource f) else s

/-- Both VIN feeds are below the brown-out threshold. -/
def feedsLowOp (s : State) : State :=
  if s.pkg.inHold ∨ s.pkg.feedsLow then s
  else
    let s := { s with pkg := { s.pkg with feedsLow := true, out := [] } }
    if s.pkg.monitored then raiseAll s 0xB2 else s

/-- Both VIN feeds are in range. -/
def Pkg.vinOk (g : Pkg) : Bool := !(g.feeds.contains .vinA) && !(g.feeds.contains .vinB)

/-- A feed is in range again; a part whose regulators shut down starts when both VIN feeds are. -/
def feedInOp (s : State) (f : Feed) : State :=
  let g := { s.pkg with feeds := s.pkg.feeds.filter fun x => decide (x ≠ f), out := [] }
  let g := if f = .vinA ∨ f = .vinB then { g with feedsLow := false } else g
  let s := { s with pkg := g }
  if g.powered = false ∧ g.pwrEn ∧ g.vinOk then
    let s := { s with pkg := { g with powered := true } }
    if g.porN then coldStart s g.straps false else s
  else s

/-- The ORed input falls below 1.50 V: the regulators shut down. PWR_FEEDS_LOW has been raised before the outputs stop
(R417). -/
def regulatorOffOp (s : State) : State :=
  let feeds := ([Feed.vinA, Feed.vinB] ++ s.pkg.feeds).dedup
  let t := feedsLowOp s
  let s := coldStart t s.pkg.straps false
  let s := { s with st0 := { s.st0 with out := t.st0.out }, st1 := { s.st1 with out := t.st1.out },
                    st2 := { s.st2 with out := t.st2.out }, st3 := { s.st3 with out := t.st3.out } }
  { s with pkg := { s.pkg with powered := false, feeds := feeds } }

/-! ### PWR_EN, POR_N, TEST_EN (R437, R438) -/

/-- PWR_EN falls for `ns` ns; a pulse below 10 µs is ignored. -/
def pwrEnFallOp (s : State) (ns : Nat) : State :=
  if ns < 10000 then s
  else
    let s := coldStart s s.pkg.straps false
    { s with pkg := { s.pkg with pwrEn := false, porN := false } }

/-- PWR_EN rises: the always-on domains have power where the feeds are in range; POR_N is still low. -/
def pwrEnRiseOp (s : State) (inRange : Bool) : State :=
  if s.pkg.pwrEn then s else { s with pkg := { s.pkg with pwrEn := true, powered := inRange && s.pkg.vinOk } }

/-- The rising edge of POR_N: the end of a power-on reset, or of a low pulse while the part runs. -/
def porReleaseOp (s : State) (straps : Straps) : State :=
  let first := s.pkg.porN && s.pkg.powered && s.pkg.pwrEn
  let s := { s with pkg := { s.pkg with porN := true } }
  if s.pkg.powered ∧ s.pkg.pwrEn ∧ s.pkg.testEn = false then coldStart s straps first else s

/-- A device reset from inside the part (R404). -/
def deviceResetOp (s : State) (straps : Straps) : State := if s.pkg.inHold then s else coldStart s straps true

/-- TEST_EN: high holds the part in device reset, and low ends it. -/
def testEnOp (s : State) (high : Bool) : State :=
  if s.pkg.testEn = high then s
  else
    let keep := s.pkg.powered && s.pkg.pwrEn
    let s := { s with pkg := { s.pkg with testEn := high } }
    if high then coldStart s s.pkg.straps keep
    else if s.pkg.inHold then s else coldStart (s.mapStrands fun d => d.put 0x2800 0x01 (d.get 0x2800 0x03)) s.pkg.straps true

/-! ### XIN and AOCLK (R414, R415) -/

/-- XIN changes, and with it XIN_STATUS while the package monitor watches XIN. When XIN stops, every running strand
stops until a device reset; one that is off its frequency still runs them. -/
def xinOp (s : State) (v : Nat) : State :=
  if 2 < v ∨ s.pkg.inHold then s
  else
    let stop := decide (v = 1) && s.pkg.xinOk
    let g := if s.pkg.monitored then s.pkg.put 0x2601 0x01 v else s.pkg
    let g := { g with xinOk := s.pkg.xinOk && decide (v ≠ 1), out := [] }
    let s := { s with pkg := g }
    if stop then
      settleAll (s.mapStrands fun d =>
        let d := { d with out := [] }
        if d.inReset then d else (d.setDomain 0x0F 3).raise 0xB7 0x0F)
    else s

/-- AOCLK is calibrated: 1 against XIN while XIN oscillates, otherwise 2 against a QUALIFIED reference. -/
def aoclkOp (g : Pkg) (src : Nat) (ppm : Int) : Pkg :=
  if 2 < src ∨ (src = 1 ∧ g.get 0x2601 0x01 = 1) ∨ (src = 2 ∧ g.get 0x2601 0x01 ≠ 1) then g
      else (g.put 0x2601 0x03 src).put 0x2601 0x02 (ofSigned 32 ppm)

end Sys2Proof.Machine
end

