-- ==== Sys2Proof/Machine/EntryOps.lean ====
section
/-! DEFINITION. Writing a dictionary entry once the checks of R371 have passed: the value's own rules and its effect,
entry by entry. A write answers in `resp`; 0xFF there means that the write completes later (R135, R370). -/

namespace Sys2Proof.Machine

/-! ### Helpers -/

/-- Performs a counter clear or another action at a write of 1. -/
def onOne (d : Strand) (v : Nat) (f : Strand → Strand) : Strand := (if v % 2 = 1 then f d else d).answer 0x00

/-- Sets a value that passes its rule. -/
def putIf (d : Strand) (ok : Bool) (index sub v : Nat) : Strand :=
  if ok then (d.put index sub v).answer 0x00 else d.answer 0x02

/-- A multiple of 4 KiB. -/
def page (v : Nat) : Bool := decide (v % 4096 = 0)

/-- An EPOCH-class value waits for the boundary of R14; one for the same boundary replaces a pending one (R369). -/
def pendWrite (d : Strand) (index sub v : Nat) : Strand :=
  let w : PendWrite := ⟨boundaryAfter d.now, locKey index sub, v⟩
  let same := fun (x : PendWrite) => decide (x.key = w.key) && decide (x.due = w.due)
  let l := if d.pendW.any same then d.pendW.map fun x => if same x then w else x else d.pendW ++ [w]
  { d with pendW := l }.answer 0x00

/-- An EPOCH-class value that passes its rule. -/
def pendIf (d : Strand) (ok : Bool) (index sub v : Nat) : Strand :=
  if ok then pendWrite d index sub v else d.answer 0x02

/-! ### Chapter by chapter -/

/-- Cells, accumulation, debug window (0x5000 to 0x5FFF, 0xF000). -/
def writeCells (d : Strand) (index sub v : Nat) (b : List Byte) : Strand :=
  if index = 0x5001 then putIf d true index sub v
  else if 0x5100 ≤ index ∧ index ≤ 0x520F then onOne d v fun d => healthClearOp d (index - 0x5100)
  else if 0x5400 ≤ index ∧ index ≤ 0x54FF then
    if sub = 1 then loadWrite d ⟨0, index - 0x5400, b⟩
    else if d.hasPlan then swapWrite d 0 (index - 0x5400) v else swapRefuse d
  else if index = 0x5700 then onOne d v cbCntClearOp
  else if index = 0x5800 then onOne d v fun d => d.clearSubs 0x5800 [1, 2, 3, 4, 5, 6, 7, 8]
  else if index = 0x5810 then
    if sub = 1 then putIf d (decide (v < 272)) index sub v
    else if sub = 2 then putIf d (decide (v < 64)) index sub v
    else if d.debugMode then onOne d v dbgCaptureOp else d.answer 0x01
  else d.answer 0x01

/-- Beam contexts (0x8000 to 0x8FFF). -/
def writeContexts (d : Strand) (index sub v : Nat) (b : List Byte) : Strand :=
  let c := index - 0x8000
  if sub = 2 then loadWrite d ⟨1, c, b⟩
  else if sub = 3 then
    if d.hasPlan then swapWrite d 1 (ctxTarget (imgContext d.plan.active c)) v else swapRefuse d
  else hotWrite d ⟨2, c, b⟩

/-- Ingest (0x4000 to 0x4FFF). -/
def writeIngest (d : Strand) (index sub v : Nat) : Strand :=
  if index = 0x4000 then onOne d v ingCntClearOp
  else
    let s := (index - 0x4200) * 256 + sub
    pendIf d (decide (v ≤ stDelayMax (imgStream d.plan.active s))) index sub v

/-- Plans and splices (0x6000 to 0x67FF). -/
def writePlans (d : Strand) (index sub v : Nat) (b : List Byte) : Strand :=
  if index = 0x6000 then
    if sub = 1 then planLoadOp d b else if sub = 2 then planCheckOp d v else if sub = 3 then planCommitOp d v
    else if sub = 4 then planCancelOp d v else hotPatchOp d b
  else if sub = 1 then spliceRequestOp d v
  else if sub = 2 then (autoScan (d.put index sub (v % 8))).answer 0x00
  else putIf d true index sub v

/-- Braid, store and queues (0x6800 to 0x6FFF). -/
def writeQueues (d : Strand) (index sub v : Nat) : Strand :=
  if index = 0x6821 then
    if hostReadQueue d v = false then d.answer 0x01
    else { d.put index sub v with q := { d.q with readPos := 0 } }.answer 0x00
  else if index = 0x6822 then snapCaptureOp d v
  else if index = 0x6823 then onOne d v bsqCntClearOp
  else putIf d true index sub v

/-- Trigger (0x7800 to 0x7FFF). -/
def writeTrigger (d : Strand) (index sub v : Nat) : Strand :=
  if index = 0x7800 then onOne d v trigCntClearOp
  else if index = 0x7801 then pendIf d (decide (8 ≤ bits v 16 16)) index sub (v - bits v 4 12 * 2 ^ 4)
  else if index = 0x7802 then
    let m := v - bits v 4 4 * 2 ^ 4
    let m := if sub = 4 then setBit m 1 false else setBit m 3 false
    pendIf d (decide (bits v 8 8 ≠ 0) && decide (bits v 16 16 ≠ 0)) index sub m
  else if index = 0x7803 then pendIf d (inR 1000 1000000 v) index sub v
  else if index = 0x7805 then onOne d v fun d => tinUnmaskOp d sub
  else putIf d true index sub v

/-- Lanes and links (0x3000 to 0x3FFF). -/
def writeLanes (d : Strand) (index sub v : Nat) (b : List Byte) : Strand :=
  if index = 0x3000 then laneCfgOp d sub v
  else if index = 0x3002 then
    if sub = 1 then swapRequestOp d v else if sub = 2 then putIf d true index sub (v % 4) else putIf d true index sub v
  else if index = 0x3003 then bondCfgOp d sub v
  else if index = 0x3004 then (if sub = 1 then putIf d true index sub v else timePerSOp d v)
  else if 0x3100 ≤ index ∧ index ≤ 0x313F then
    if sub = 0x0D then onOne d v fun d => laneCntClearOp d (index - 0x3100)
    else laneTestOp d (index - 0x3100) sub v
  else if index = 0x3400 then ethPortOp d sub b
  else if 0x3500 ≤ index ∧ index ≤ 0x35FF then
    let f := index - 0x3500
    let c := flowCheck d f (flowMask v)
    if c = 0x00 then pendWrite d index sub (flowMask v) else d.answer c
  else if index = 0x3600 then jesdCfgOp d sub b
  else if index = 0x3602 then pendWrite d index sub v
  else putIf d true index sub v

/-- Highest LOOP_BW_MHZ of an input kind (R314); the highest Sync rate of R317 is 128 per second. -/
def loopBwMax (d : Strand) (kind : Nat) : Nat :=
  if kind = 0 then 1000000 else if kind = 1 then 100
  else if kind = 2 then
    let slow := [4, 5, 6, 7].any fun n => bit (d.refCfg n) 0 && !(d.fixedLat (bits (d.refCfg n) 8 7))
    if slow then 100 * d.get 0x3004 0x02 else 1000000
  else 12800

/-- Length in ns of EPOCH_WIDTH_NS is less than a period of EPOCH_OUT (R323). -/
def epochWidthOk (d : Strand) (v : Nat) : Bool :=
  decide (v * 2 ^ 48 < (bits (d.pendVal 0x2008 0x01) 16 10 + 1) * 2 ^ 38 * 1000000000)

/-- PIN_CFG without its reserved bits. -/
def pinMask (v : Nat) : Nat := bits v 0 4 + bits v 16 10 * 2 ^ 16

/-- Timing (0x2000 to 0x23FF). -/
def writeTiming (g : Pkg) (d : Strand) (index sub v : Nat) : Strand :=
  if index = 0x2001 then refCfgOp g d sub v
  else if index = 0x2004 then putIf d (inR 1 (loopBwMax d sub) v) index sub v
  else if index = 0x2005 then
    if sub = 0x01 then qualHoldOp d v
    else if sub = 0x02 then putIf d (inR 1 10000 v) index sub v
    else if sub = 0x03 then putIf d (inR 1 200 v) index sub v
    else if sub = 0x07 then slewRateOp d v
    else if sub = 0x08 then slewMaxOp g d v
    else if sub = 0x0A then todLoadOp d v
    else if sub = 0x0B then stepArmOp g d v
    else putIf d true index sub v
  else if index = 0x2006 then
    if sub = 1 then loopModeOp g d v else if sub = 2 then freqAdjOp d v else if sub = 3 then phaseAdjOp d v
    else if sub = 4 then softStateOp g d v else putIf d true index sub v
  else if index = 0x2007 then putIf d true index sub (if sub = 1 then v % 2 ^ 11 else v)
  else if sub = 1 then pendWrite d index sub (pinMask v)
  else if sub = 2 then pendIf d (inR 1 500000 v) index sub v
  else if sub = 3 then pendIf d (epochWidthOk d v) index sub v
  else putIf d (inR 1 1000 v) index sub v

/-! ### Host port (R335, R336, R341) -/

/-- A write of CMDQ_ENABLE: 1 sets CMDQ_PRODUCER to C. -/
def cmdqEnableOp (d : Strand) (v : Nat) : Strand :=
  let d := d.put 0x1100 0x03 v
  (if v % 2 = 1 then (d.put 0x1100 0x05 (d.get 0x1100 0x04)).putBit 0x1100 0x06 2 false else d).answer 0x00

/-- A write of EVQ_ENABLE: 1 sets EVQ_CONSUMER to EVQ_NEXT_SEQ, and held events go out. -/
def evqEnableOp (d : Strand) (v : Nat) : Strand :=
  let d := d.put 0x1101 0x03 v
  (if v % 2 = 1 then (d.put 0x1101 0x05 (d.get 0x1101 0x04)).drainEvents else d).answer 0x00

/-- Ring entries of a DMA channel; an enabled channel refuses them (R343). -/
def dmaRingOp (d : Strand) (c sub v : Nat) : Strand :=
  let ok := if sub = 2 ∨ sub = 4 then page v
    else if sub = 3 then page v && inR 65536 1073741824 v
    else if sub = 5 then inR 6 16 v else true
  if d.dmaOn c then d.answer 0x01 else putIf d ok (0x7000 + c) sub v

/-- Host port (0x1100 to 0x1123, 0x7000 to 0x700F). -/
def writeHost (d : Strand) (index sub v : Nat) : Strand :=
  if index = 0x1100 then
    if sub = 1 then putIf d (page v) index sub v else if sub = 2 then putIf d (inR 6 12 v) index sub v
    else cmdqEnableOp d v
  else if index = 0x1101 then
    if sub = 1 then putIf d (page v) index sub v else if sub = 2 then putIf d (inR 6 12 v) index sub v
    else if sub = 3 then evqEnableOp d v else putIf d true index sub (bits v 2 7 * 4)
  else if index = 0x1103 then putIf d (inR 100 100000 v) index sub v
  else if 0x7000 ≤ index then
    if sub = 1 then dmaCfgOp d (index - 0x7000) v else dmaRingOp d (index - 0x7000) sub v
  else putIf d true index sub v

/-- Power and thermal entries of a strand (0x2400 to 0x25FF). -/
def writePower (g : Pkg) (d : Strand) (index sub v : Nat) : Strand :=
  if index = 0x2400 then (if sub = 1 then strandPowerOp g d v else putIf d true index sub v)
  else if index = 0x2402 then domainReqOp g d sub v
  else if sub = 2 then putIf d (inR 10 100 v) index sub v
  else if sub = 3 then putIf d (inR 100 60000 v) index sub v
  else putIf d (inR 1000 1450 v) index sub v

/-- Faults, control pair and recovery (0x2800 to 0x2FFF). -/
def writeFaults (g : Pkg) (d : Strand) (index sub v : Nat) : Strand :=
  if index = 0x2800 then (if sub = 4 then firstClearOp d v else wireRetestOp d v)
  else if index = 0x2801 then groupAckOp d sub v
  else if index = 0x2810 then faultCfgOp d sub v
  else if 0x2820 ≤ index ∧ index ≤ 0x282B then faultReactOp d (index - 0x2820) sub v
  else if index = 0x2831 then faultCntClearOp d v
  else if index = 0x2840 then (if sub = 1 then putIf d (inR 1 1000 v) index sub v else errReleaseOp d v)
  else if index = 0x2850 then
    if sub = 3 then putIf d true index sub v
    else if sub = 4 then reintegStartOp d v
    else if sub = 5 then putIf d (inR 1 3600 v) index sub v
    else if sub = 7 then safeEnterOp d v
    else if sub = 8 then onOne d v fun d => { d with flt := { d.flt with resetReq := true } }
    else onOne d v fun d => { d with flt := { d.flt with devReq := true } }
  else if index = 0x2860 then
    if sub = 1 then putIf d (decide (v ≤ 4)) index sub v
    else if sub = 2 then putIf d (inR 1 3600 v) index sub v
    else putIf d true index sub v
  else if sub = 1 then retestCellsOp g d v
  else retestLanesOp g d v

/-- A write of 1 to LEVEL0_RELEASE. -/
def level0ReleaseOp (d : Strand) (rq : Requester) (v : Nat) : Strand := onOne d v fun d => d.endSession rq

/-- Protection entries (0x1200 to 0x1210). -/
def writeProt (g : Pkg) (d : Strand) (rq : Requester) (index sub v : Nat) (b : List Byte) : Strand :=
  if index = 0x1200 then protEntryWrite d sub v
  else if index = 0x1201 then protTableWrite d b
  else if sub = 2 then responseWrite g d rq b
  else if sub = 3 then level0ReleaseOp d rq v
  else putIf d (inR 10 3600 v) index sub v

/-! ### Enumeration start (R363, R365) -/

/-- The head's strand 0 starts enumeration: it takes its device ID and sends the ENUM frame. The count of the devices
is a free value from 1 to 256, because the frames of R363 do not tell it to the head. -/
def enumBegin (g : Pkg) (d : Strand) : Pkg × Strand :=
  let w := d.freeNat
  let d := (w.2.put 0x1140 0x07 (1 + w.1 % 256)).put 0x1140 0x08 0
  let id := g.straps.seg * 256
  ({ g with newId := some id, lastEnum := some d.sage },
   ownSend { g with devId := some id } d 1 5 (enumPayload g.straps.seg 1 (serialBytes d)))

/-- A write of LYD_ENUM_START. -/
def enumStartWrite (g : Pkg) (d : Strand) (v : Nat) : Pkg × Strand :=
  if g.conflict then (g, d.answer 0x01)
  else if v % 2 = 1 ∧ g.straps.head ∧ d.id = .s0 then
    let r := enumBegin g d
    (r.1, r.2.answer 0x00)
  else (g, d.answer 0x00)

/-! ### Package entries (0x1081, 0x10C0, 0x1211, 0x2602) -/

/-- A write of a package entry. -/
def writePackage (g : Pkg) (d : Strand) (index sub v : Nat) (b : List Byte) : Pkg × Strand :=
  if index = 0x1081 then
    if g.devId.isSome then (g, d.answer 0x01) else (g.put index sub v, d.answer 0x00)
  else if index = 0x10C0 then
    if smGet (fun _ => ([] : List Byte)) g.patches sub ≠ [] ∨ g.burnPatch.any fun x => decide (x.1 = sub)
        then (g, d.answer 0x01)
    else ({ g with burnPatch := g.burnPatch ++ [(sub, b)] }, d)
  else if index = 0x1211 then
    if g.key.isSome ∨ g.burnKey.isSome then (g, d.answer 0x01)
    else if v = 0 then (g, d.answer 0x02)
    else ({ g with burnKey := some v }, d)
  else (g.put index sub v, d.answer 0x00)

/-! ### All entries -/

/-- Writes an entry of a strand or of the package. -/
def entryWrite (g : Pkg) (d : Strand) (rq : Requester) (index sub : Nat) (b : List Byte) : Pkg × Strand :=
  let v := bytesToNat b
  if isPackageLoc (locKey index sub) then writePackage g d index sub v b
  else if index = 0x1140 then enumStartWrite g d v
  else (g,
    if index = 0x1141 then onOne d v fun d => d.clearSubs 0x1141 [1, 2, 3, 4, 5, 6, 7, 8, 9]
    else if 0x1200 ≤ index ∧ index ≤ 0x12FF then writeProt g d rq index sub v b
    else if index ≤ 0x11FF then writeHost d index sub v
    else if index ≤ 0x23FF then writeTiming g d index sub v
    else if index ≤ 0x25FF then writePower g d index sub v
    else if index ≤ 0x2FFF then writeFaults g d index sub v
    else if index ≤ 0x3FFF then refsRecheck g (writeLanes d index sub v b)
    else if index ≤ 0x4FFF then writeIngest d index sub v
    else if index ≤ 0x5FFF then writeCells d index sub v b
    else if index ≤ 0x67FF then writePlans d index sub v b
    else if index ≤ 0x6FFF then writeQueues d index sub v
    else if index ≤ 0x77FF then writeHost d index sub v
    else if index ≤ 0x7FFF then writeTrigger d index sub v
    else if index ≤ 0x8FFF then writeContexts d index sub v b
    else pendWrite d index sub v)

/-! ### Pending writes at a boundary (R13, R369) -/

/-- A pending value takes effect. -/
def applyWrite (epoch : Nat) (d : Strand) (w : PendWrite) : Strand :=
  let index := w.key / 256
  let sub := w.key % 256
  if 0x4200 ≤ index ∧ index ≤ 0x420F then delayApply d ((index - 0x4200) * 256 + sub) w.val epoch
  else if index = 0x7801 then toutCfgApply d sub w.val
  else if index = 0x7802 then tinCfgApply d sub w.val
  else if 0x3500 ≤ index ∧ index ≤ 0x35FF then refreshOutputs (flowApply d (index - 0x3500) w.val)
  else if index = 0x2008 ∧ sub = 1 then
    let d := outOfsDecay d
    let old := d.get 0x2008 0x01
    let fresh := fun (i : Nat) => bit w.val 0 && bit w.val i && !(bit old 0 && bit old i)
    let tm := { d.tm with pinHeld := d.tm.pinHeld && !(bit w.val 0), outOfs := if fresh 1 || fresh 2 then 0
        else d.tm.outOfs,
                          outAt := d.now }
    { d.put index sub w.val with tm := tm }
  else d.put index sub w.val

/-- Step 3 of R13: due writes take effect in the order written. -/
def boundaryWrites (d : Strand) : Strand :=
  let e := epochOf d.now
  let due := d.pendW.filter fun w => decide (w.due ≤ e)
  due.foldl (applyWrite e) { d with pendW := d.pendW.filter fun w => decide (e < w.due) }

end Sys2Proof.Machine
end

