-- ==== Sys2Proof/Machine/Dict.lean ====
section
/-! DEFINITION. Dictionary accesses (R371 to R373): the checks in their order, reads, writes and DESCRIBE. The answer
of an access is in `resp`. -/

namespace Sys2Proof.Machine

/-! ### Reads -/

/-- LYD_STATE: 0 UNASSIGNED, 1 ASSIGNED, 2 HEAD, 3 HEAD_CONFLICT, 4 NO_HEAD. -/
def lydState (g : Pkg) (d : Strand) : Nat :=
  if g.conflict then 3 else if g.straps.head ∧ g.devId.isSome then 2 else if d.mgmt.noHead then 4
  else if g.devId.isSome then 1 else 0

/-- CMDQ_STATUS: ENABLED, FETCHING and STALE. -/
def cmdqStatus (d : Strand) : Nat :=
  let on := decide (d.get 0x1100 0x03 = 1)
  let stale := d.getBit 0x1100 0x06 2
  b2n on + 2 * b2n (on && !stale && decide (d.get 0x1100 0x04 ≠ d.get 0x1100 0x05)) + 4 * b2n stale

/-- Whether a requester holds a session, as SESSION_LEVEL reads. -/
def sessionLevel (d : Strand) (rq : Requester) : Nat := if d.hasSession rq then 0 else 1

/-- The value of a location as it reads. -/
def readValue (g : Pkg) (d : Strand) (rq : Requester) (index sub : Nat) : Nat :=
  if index = 0x1211 ∧ sub = 2 then b2n g.key.isSome
  else if isPackageLoc (locKey index sub) then g.get index sub
  else if index = 0x1210 ∧ sub = 4 then sessionLevel d rq
  else if index = 0x1140 then
    if sub = 1 then lydState g d else if sub = 2 then g.deviceId
    else if sub = 3 then (match g.devId with | some i => i * 4 + d.id.num | none => 0)
    else if sub = 4 then g.straps.seg else if sub = 5 then b2n g.straps.head
    else if sub = 9 then b2n g.upLink + 2 * b2n g.downLink else d.get index sub
  else if index = 0x1100 ∧ sub = 6 then cmdqStatus d
  else if index = 0x2000 ∧ sub = 2 then time80 d.now
  else if index = 0x2000 ∧ sub = 3 then epochOf d.now
  else if index = 0x2851 then unitShown d sub
  else if index = 0x6000 ∧ sub = 7 then (if d.shadowState = 0 then 0 else imgGen d.shadowImage)
  else if index = 0x6002 ∧ sub = 6 then domainReserve d
  else if index = 0x6002 ∧ sub = 7 then spliceInEffect d
  else if index = 0x7804 then tinStatus d sub
  else if index = 0x7809 then (toutSettle d sub).get index sub
  else if 0x8000 ≤ index ∧ index ≤ 0x8FFF ∧ sub = 1 then
    (if d.hasPlan then imgContext d.plan.active (index - 0x8000) else 0)
  else d.get index sub

/-- Entries that the package monitor measures and no command reports: feeds, package power, the highest temperature. -/
def measuredLoc (index sub : Nat) : Bool := (decide (index = 0x2600) && inR 1 7 sub) ||
    (decide (index = 0x2605) && decide (sub = 1))

/-- The value of a location as it reads, with `free` for what is measured: a measured entry while the package monitor
has power, and the output current of a regulator (R416, R425). The spec gives neither a value. -/
def shownValue (g : Pkg) (d : Strand) (rq : Requester) (index sub free : Nat) : Nat :=
  let v := readValue g d rq index sub
  if measuredLoc index sub && g.monitored then free
  else if (index = 0x2412 ∧ sub ≤ 2) ∨ (index = 0x2603 ∧ sub ≤ 1) then setBits v 16 16 (free % 65536)
  else v

/-- Locations whose read shows a measurement. -/
def showsMeasured (index sub : Nat) : Bool := measuredLoc index sub || decide (index = 0x2412) || decide (index = 0x2603)

/-- The answer of a read. -/
def answerValue (g : Pkg) (d : Strand) (rq : Requester) (index sub len : Nat) : Strand :=
  if showsMeasured index sub then
    let w := d.freeNat
    w.2.answerData (natToBytes len (shownValue g d rq index sub w.1))
  else d.answerData (natToBytes len (readValue g d rq index sub))

/-- A read of an entry that the checks have passed; WO entries read 0. -/
def entryRead (g : Pkg) (d : Strand) (rq : Requester) (r : DictRow) (index sub len : Nat) : Strand :=
  if index = 0x1210 ∧ sub = 1 then challengeRead g d rq
  else if debugLoc index sub && !d.debugMode then d.answer 0x01
  else if index = 0x6821 ∧ hostReadQueue d (d.get 0x6821 0x01) = false then d.answer 0x01
  else if index = 0x6821 ∧ sub = 2 then queueReadOp d
  else if r.access = 2 then d.answerData (zeros len)
  else answerValue g d rq index sub len

/-! ### Checks (R371) -/

/-- Locations that the always-on domain serves while the strand is in reset. -/
def alwaysOn (index sub : Nat) (write : Bool) : Bool :=
  let within := fun (a b : Nat) => decide (a ≤ index) && decide (index ≤ b)
  within 0x1000 0x10FF || within 0x1140 0x1141 || within 0x1200 0x12FF || within 0x2800 0x2FFF ||
    (if write then (within 0x5100 0x520F && decide (sub = 0x0E)) || (within 0x3100 0x313F && decide (sub = 0x0D))
     else (decide (index = 0x1100) && (decide (sub = 4) || decide (sub = 5) || decide (sub = 6))) ||
       (decide (index = 0x1101) && (decide (sub = 4) || decide (sub = 5))) || decide (index = 0x1102) ||
       (decide (index = 0x1103) && decide (sub = 1)) || within 0x2400 0x25FF || within 0x5100 0x520F ||
           within 0x3100 0x313F)

/-- Check 1: the target answers. A sleeping strand's sage answers the whole dictionary (R423). -/
def reachable (d : Strand) (index sub : Nat) (write : Bool) : Bool :=
  d.sageUp && (!d.inReset || decide (d.sleep ≠ 0) || isPackageLoc (locKey index sub) || alwaysOn index sub write)

/-- Check 2: the row of the location; PF4 reaches the package entries only (R327). -/
def findEntry (rq : Requester) (index sub : Nat) : Option DictRow :=
  if rq = .pf4 ∧ isPackageLoc (locKey index sub) = false then none else dictFind index sub

/-- Check 5: the length suits the type (R368). -/
def lengthOk (r : DictRow) (len : Nat) : Bool := if r.size = 0 then inR 1 256 len else decide (len = r.size)

/-- Check 6 for every type: a BOOL is 0 or 1. -/
def typeOk (r : DictRow) (b : List Byte) : Bool := decide (r.type ≠ 0) || decide (bytesToNat b ≤ 1)

/-- Checks 1 to 3 at an access's arrival, the first not for PF4, whose entries the package monitor serves (R371): its
row, or the result code of the first that fails. -/
def arrive (d : Strand) (rq : Requester) (index sub : Nat) (write : Bool) : Except Nat DictRow :=
  if decide (rq ≠ .pf4) && !(reachable d index sub write) then .error 0x09
  else match findEntry rq index sub with
    | none => .error 0x03
    | some r => if d.granted rq index sub r.level write then .ok r else .error 0x04

/-- A request that needs level 0 keeps its session alive. -/
def noteLevel (d : Strand) (rq : Requester) (r : DictRow) : Strand := if r.level = 0 then d.touchSession rq else d

/-- A read that checks 1 to 3 have passed. -/
def readGranted (g : Pkg) (d : Strand) (rq : Requester) (r : DictRow) (index sub len : Nat) : Strand :=
  let d := noteLevel d rq r
  if !(lengthOk r len) then d.answer 0x05 else entryRead g d rq r index sub len

/-- A write that checks 1 to 3 have passed. -/
def writeGranted (g : Pkg) (d : Strand) (rq : Requester) (r : DictRow) (index sub : Nat) (b : List Byte) : Pkg × Strand :=
  let d := noteLevel d rq r
  if r.access = 0 then (g, d.answer 0x01)
  else if !(lengthOk r b.length) then (g, d.answer 0x05)
  else if !(typeOk r b) then (g, d.answer 0x02)
  else entryWrite g (d.answer 0xFF) rq index sub b

/-- DESCRIBE: 16 bytes of attributes; level 3 suffices (R372). -/
def describeBytes (d : Strand) (r : DictRow) (index sub : Nat) : List Byte :=
  natToBytes 8 (r.type + r.access * 2 ^ 8 + r.level * 2 ^ 10 + r.commit * 2 ^ 12 + b2n r.otp * 2 ^ 14 + r.size * 2 ^ 16) ++
    natToBytes 8 (if r.size = 0 then 0 else dictDefault d.id.num (locKey index sub))

/-- Checks 1 to 3 at the arrival of an access of a TYPE (1 READ, 2 and 4 writes, 3 DESCRIBE). -/
def arriveAs (d : Strand) (rq : Requester) (type index sub : Nat) : Except Nat DictRow :=
  if type = 3 then
    if !(reachable d index sub false) then .error 0x09
    else match findEntry rq index sub with
      | none => .error 0x03
      | some r => if d.granted rq index sub 3 false then .ok r else .error 0x04
  else arrive d rq index sub (decide (type ≠ 1))

/-- Performs an access that checks 1 to 3 have passed. -/
def perform (g : Pkg) (d : Strand) (a : Ask) (r : DictRow) : Pkg × Strand :=
  let index := a.f.index
  let sub := a.f.subindex
  if a.f.type = 1 then (g, readGranted g d a.rq r index sub a.f.len)
  else if a.f.type = 3 then (g, d.answerData (describeBytes d r index sub))
  else
    let x := writeGranted g d a.rq r index sub a.f.payload
    if x.2.resp.code = 0xFF ∧ (a.port ≤ 2) then
      (x.1, { x.2 with mgmt := { x.2.mgmt with asks := x.2.mgmt.asks ++ [a] } })
    else x

/-- The dictionary unit is at work on a write that completes later, or has accesses before this one (R370, R371). -/
def dictBusy (d : Strand) : Bool := !(d.work.held.isEmpty) || !(d.mgmt.queue.isEmpty)

/-- An access must wait; package entries are served by the package monitor. -/
def mustWait (d : Strand) (index sub : Nat) : Bool := dictBusy d && !(isPackageLoc (locKey index sub))

/-- An access: decided at its arrival, and performed in its turn. -/
def accessOp (g : Pkg) (d : Strand) (a : Ask) : Pkg × Strand :=
  match arriveAs d a.rq a.f.type a.f.index a.f.subindex with
  | .error c => (g, d.answer c)
  | .ok r =>
    if mustWait d a.f.index a.f.subindex then
      (g, { d with mgmt := { d.mgmt with queue := d.mgmt.queue ++ [a] } }.answer 0xFF)
    else perform g d a r

/-- An access that does not come in a frame, as a request. -/
def askFor (port : Nat) (rq : Requester) (type index sub len : Nat) (b : List Byte) : Ask :=
  { port := port, rq := rq,
    f := { type := type, resp := false, srcExt := false, allStrands := false, dstDev := 0, dstStrand := 0, srcStrand := 0,
           srcDev := 0, seq := 0, index := index, subindex := sub, status := 0, len := len, payload := b } }

/-- A read. -/
def dictReadOp (g : Pkg) (d : Strand) (port : Nat) (rq : Requester) (index sub len : Nat) : Strand :=
  (accessOp g d (askFor port rq 1 index sub len [])).2

/-- A write. -/
def dictWriteOp (g : Pkg) (d : Strand) (port : Nat) (rq : Requester) (index sub : Nat) (b : List Byte) : Pkg × Strand :=
  accessOp g d (askFor port rq 2 index sub b.length b)

/-! ### Writes that complete later (R135, R370) -/

/-- A write to a location is still to complete: a held load, or a burn. -/
def stillRuns (g : Pkg) (d : Strand) (index sub : Nat) : Bool :=
  if 0x5400 ≤ index ∧ index ≤ 0x54FF then d.work.held.any fun h => decide (h.kind = 0) && decide (h.target = index - 0x5400)
  else if 0x8000 ≤ index ∧ index ≤ 0x8FFF then d.work.held.any fun h => decide (h.kind = 1) &&
      decide (h.target = index - 0x8000)
  else if index = 0x10C0 then g.burnPatch.any fun x => decide (x.1 = sub)
  else decide (index = 0x1211) && g.burnKey.isSome

/-- Performs waiting accesses in order until one must be held. -/
def drainAccess (g : Pkg) (d : Strand) : List Ask → Pkg × Strand
  | [] => (g, { d with mgmt := { d.mgmt with queue := [] } })
  | a :: l =>
    if d.work.held.isEmpty then
      let x := match dictFind a.f.index a.f.subindex with
        | some r => perform g d a r
        | none => (g, d.answer 0x03)
      let y := if x.2.resp.code = 0xFF then x else deliver x.1 x.2 a x.2.resp.code x.2.resp.data
      drainAccess y.1 y.2 l
    else (g, { d with mgmt := { d.mgmt with queue := a :: l } })

/-- Held loads that no longer wait are applied, their writes answered, and the accesses behind them performed. -/
def loadApplyAll (g : Pkg) (d : Strand) : Pkg × Strand :=
  let d := loadApplyOp d
  let runs := fun (a : Ask) => stillRuns g d a.f.index a.f.subindex
  let x := deliverAll g { d with mgmt := { d.mgmt with asks := d.mgmt.asks.filter runs } }
    (d.mgmt.asks.filter fun a => !(runs a)) fun _ => 0x00
  drainAccess x.1 x.2 x.2.mgmt.queue

/-! ### Shared domains (R412) -/

/-- The PCI Express link of a strand's view without its host port. -/
def hostGone (d : Strand) : Strand := (d.put 0x1103 0x02 0).put 0x7100 0x01 0

/-- A shared domain follows its conditions: off without one, waking with one. A host port that sleeps has no link. -/
def shareDomain (s : State) (n : Nat) : State :=
  let need := sharedNeeded s.pkg [s.st0, s.st1, s.st2, s.st3] n
  let st := s.pkg.domain n
  if need = false ∧ (st = 1 ∨ st = 2) then
    if n = 0x40 then { s.mapStrands hostGone with pkg := { s.pkg.setDomain n 0 with hpUp := false } }
    else { s with pkg := s.pkg.setDomain n 0 }
  else if need ∧ st = 0 then { s with pkg := s.pkg.setDomain n 1 }
  else s

/-- The host port and the store-die common domain. -/
def shareDomains (s : State) : State := shareDomain (shareDomain s 0x40) 0x41

/-! ### The command of a dictionary write -/

/-- A write by a requester; a location that the caller rules out does not exist. -/
def dictWriteCmd (s : State) (w : At) (rq : Requester) (ok : Bool) (index sub : Nat) (b : List Byte) : State :=
  shareDomains (onPart s w fun g d => if ok then dictWriteOp g d 4 rq index sub b else (g, d.answer 0x03))

/-- A write of a number to an entry of fixed size. -/
def regWrite (s : State) (w : At) (rq : Requester) (ok : Bool) (index sub v : Nat) : State :=
  let size := match dictFind index sub with
    | some r => r.size
    | none => 0
  dictWriteCmd s w rq ok index sub (natToBytes size v)

/-- A read by a requester. -/
def dictReadCmd (s : State) (w : At) (rq : Requester) (index sub len : Nat) : State :=
  onStrandPkg s w fun g d => dictReadOp g d 4 rq index sub len

end Sys2Proof.Machine
end

