-- ==== Sys2Proof/Machine/HostOps.lean ====
section
/-! DEFINITION. The host port (R326 to R351): the window, doorbells, the command engine, errors of the service matrix,
the PCI Express link. -/

namespace Sys2Proof.Machine

/-! ### Reachability and errors (R345, R347) -/

/-- The host reaches the part: the link is up and the host-port domain has power. -/
def hostOn (g : Pkg) : Bool := g.hpUp && decide (g.domain 0x40 = 2)

/-- An error response: SM_LAST_ERR with kind 0 decode miss, 1 timeout, 2 unavailable. -/
def smError (d : Strand) (master target kind addr : Nat) : Strand :=
  d.put 0x1103 0x06 (master % 8 + target % 8 * 2 ^ 3 + kind % 4 * 2 ^ 6 + addr % 2 ^ 56 * 2 ^ 8)

/-- A request that decodes to no target. -/
def decodeMissOp (d : Strand) (master addr : Nat) : Strand :=
  ((smError d master 7 0 addr).bump 0x1103 0x03 1).raise 0x93 0xFFFF

/-- The command engine (master 2) takes ACCESS_ERROR as the result of the command in execution. -/
def masterError (d : Strand) (master : Nat) : Strand :=
  if master = 2 ∧ d.host.cmd.cur.isSome ∧ d.host.cmd.executed = false then
    { d with host := { d.host with cmd := { d.host.cmd with executed := true, result := 0x01 } } }
  else d

/-- A target that does not answer for 100 µs. -/
def smTimeoutOp (d : Strand) (master target addr : Nat) : Strand :=
  (smError (masterError d master) master target 1 addr).raise 0x94 0xFFFF

/-- A host request to a strand whose matrix is in reset: the package layer answers as the default target. -/
def matrixOff (d : Strand) (addr : Nat) : Strand := ((smError d 4 7 2 addr).bump 0x1103 0x03 1).raise 0x93 0xFFFF

/-- A host request to registers that the strand's matrix serves. -/
def onMatrix (g : Pkg) (d : Strand) (addr : Nat) (f : Strand → Strand) : Strand :=
  if !(hostOn g) then d else if d.inReset then matrixOff d addr else f d

/-! ### The window (R327, R330) -/

/-- A 32-bit write to WIN_ADDR, WIN_LEN or WIN_DATA; while BUSY it is discarded. -/
def winWrite (x : Window) (off v : Nat) : Window :=
  if x.busy then { x with overrun := true }
  else if off = 0x0000 then { x with addr := v % 2 ^ 25 }
  else if off = 0x0004 then { x with len := v % 2 ^ 9 }
  else { x with data := writeMem x.data (off - 0x0100) (natToBytes 4 v) }

/-- Offsets of the window's writable registers other than WIN_GO. -/
def winOffset (off : Nat) : Bool :=
  decide (off % 4 = 0) && (decide (off = 0) || decide (off = 4) || (decide (0x0100 ≤ off) && decide (off ≤ 0x01FF)))

/-- Read-only offsets of BAR0. -/
def roOffset (off : Nat) : Bool :=
  decide (off % 4 = 0) && (decide (off = 0x000C) || (decide (0x1100 ≤ off) && decide (off ≤ 0x110C)) ||
    (decide (0x2000 ≤ off) && decide (off ≤ 0x2FFF)))

/-- Whether WIN_ADDR asks for a write. -/
def winIsWrite (x : Window) : Bool := bit x.addr 24

/-- The access that WIN_GO starts: package, strand, with the answer in `resp`. -/
def winAccess (g : Pkg) (d : Strand) (rq : Requester) (x : Window) : Pkg × Strand :=
  let index := bits x.addr 0 16
  let sub := bits x.addr 16 8
  if winIsWrite x then dictWriteOp g d 3 rq index sub (readMem x.data 0 x.len)
  else (g, dictReadOp g d 3 rq index sub x.len)

/-- The window while its access runs. -/
def winBusy (x : Window) (r : Resp) : Window :=
  { x with busy := true, done := false, overrun := false, pendRes := r.code, pendDat := r.data }

/-- A write of 1 to WIN_GO. -/
def winGoOp (g : Pkg) (d : Strand) (v : Nat) : Pkg × Strand :=
  if !(hostOn g) then (g, d)
  else if d.inReset then (g, matrixOff d 8)
  else if v % 2 = 0 then (g, d)
  else if d.host.win.busy then (g, { d with host := { d.host with win := { d.host.win with overrun := true } } })
  else
    let r := winAccess g d .host d.host.win
    (r.1, { r.2 with host := { r.2.host with win := winBusy d.host.win r.2.resp } })

/-- A write of 1 to WIN_GO of PF4. -/
def winGo4Op (g : Pkg) (d : Strand) (v : Nat) : Pkg × Strand :=
  if !(hostOn g) ∨ v % 2 = 0 then (g, d)
  else if g.win4.busy then ({ g with win4 := { g.win4 with overrun := true } }, d)
  else
    let r := winAccess g d .pf4 g.win4
    ({ r.1 with win4 := winBusy g.win4 r.2.resp }, r.2)

/-- The access of a window still runs. -/
def winWaits (g : Pkg) (d : Strand) (x : Window) : Bool :=
  decide (x.pendRes = 0xFF) &&
    (stillRuns g d (bits x.addr 0 16) (bits x.addr 16 8) || d.mgmt.queue.any fun a => decide (a.port = 3))

/-- The window after its access. -/
def winDone (x : Window) : Window :=
  { x with busy := false, done := true, result := if x.pendRes = 0xFF then 0x00 else x.pendRes,
           data := if x.pendRes = 0x00 then writeMem x.data 0 x.pendDat else x.data, pendRes := 0, pendDat := [] }

/-- The access completes: BUSY clears, DONE sets, RESULT takes its code, vector 2 is raised. -/
def winDoneOp (g : Pkg) (d : Strand) : Strand :=
  let x := d.host.win
  if x.busy ∧ winWaits g d x = false then { d with host := { d.host with win := winDone x } }.vector 2 else d

/-- The same for PF4, with its vector 1. -/
def winDone4Op (g : Pkg) (d : Strand) : Pkg :=
  if g.win4.busy ∧ winWaits g d g.win4 = false then { g with win4 := winDone g.win4 }.vector4 1 else g

/-! ### Doorbells (R334, R336) -/

/-- A write to CMDQ_DB. -/
def cmdqDbOp (g : Pkg) (d : Strand) (v : Nat) : Strand :=
  onMatrix g d 0x1000 fun d =>
    let v := v % 2 ^ 32
    if serialSub 32 v (d.get 0x1100 0x05) < 2 ^ 31 ∧ serialSub 32 v (d.get 0x1100 0x04) ≤ 2 ^ d.get 0x1100 0x02 then
      restartFetch (d.put 0x1100 0x05 v)
    else d.dbBad 0 v 0xFFFF

/-- A write to EVQ_DB. -/
def evqDbOp (g : Pkg) (d : Strand) (v : Nat) : Strand :=
  onMatrix g d 0x1004 fun d =>
    let v := v % 2 ^ 32
    let c := d.get 0x1101 0x05
    if serialSub 32 v c ≤ serialSub 32 (d.get 0x1101 0x04) c then (d.put 0x1101 0x05 v).drainEvents
    else d.dbBad 1 v 0xFFFF

/-- A 32-bit write to BAR0 of PF0 to PF3: a window register, WIN_GO, a doorbell; a read-only register discards it, and
what BAR0 does not hold is a decode miss (R327). -/
def bar0Write (g : Pkg) (d : Strand) (off v : Nat) : Pkg × Strand :=
  if off = 0x0008 then winGoOp g d v
  else (g, if off = 0x1000 then cmdqDbOp g d v
    else if off = 0x1004 then evqDbOp g d v
    else onMatrix g d off fun d =>
      if winOffset off then { d with host := { d.host with win := winWrite d.host.win off v } }
      else if 0x1040 ≤ off ∧ off ≤ 0x107C ∧ off % 4 = 0 then dmaCqOp d ((off - 0x1040) / 4) v
      else if roOffset off then d
      else decodeMissOp d 4 off)

/-- A 32-bit write to BAR0 of PF4. -/
def bar0Write4 (g : Pkg) (d : Strand) (off v : Nat) : Pkg × Strand :=
  if off = 0x0008 then winGo4Op g d v
  else if !(hostOn g) then (g, d)
  else if winOffset off then ({ g with win4 := winWrite g.win4 off v }, d)
  else if roOffset off && decide (off < 0x1114) then (g, d)
  else (g, decodeMissOp d 4 off)

/-! ### The command engine (R332 to R335) -/

/-- OPCODE of a descriptor. -/
def descOp (b : List Byte) : Nat := fieldAt b 4 1
/-- INDEX and SUBINDEX. -/
def descLoc (b : List Byte) : Nat × Nat := (fieldAt b 8 2, fieldAt b 10 1)
/-- LEN. -/
def descLen (b : List Byte) : Nat := fieldAt b 12 4
/-- HOST_ADDR. -/
def descAddr (b : List Byte) : Nat := fieldAt b 16 8

/-- The result code of checks 1 to 3 at a command's arrival; 0 where they pass. -/
def cmdVerdict (d : Strand) (b : List Byte) : Nat :=
  let l := descLoc b
  let code := fun (r : Except Nat DictRow) => match r with | .ok _ => 0x00 | .error c => c
  match descOp b with
  | 1 => 0x00
  | 2 => code (arrive d .host l.1 l.2 true)
  | 3 => code (arrive d .host l.1 l.2 false)
  | 4 => code (arrive d .host 0x6000 0x01 true)
  | 5 => code (arriveAs d .host 3 l.1 l.2)
  | _ => 0x07

/-- The engine reads the descriptor of C. -/
def cmdFetchOp (g : Pkg) (d : Strand) (b : List Byte) : Strand :=
  let c := d.get 0x1100 0x04
  let cmd := d.host.cmd
  if !(hostOn g) ∨ d.inReset ∨ d.get 0x1100 0x03 ≠ 1 ∨ d.getBit 0x1100 0x06 2 ∨ c = d.get 0x1100 0x05 ∨
      cmd.cur.isSome then d
  else
    let seq := fieldAt b 0 4
    if seq = c then
      let v := cmdVerdict d b
      { d with host := { d.host with cmd := { cur := some b, verdict := v, executed := decide (v ≠ 0), result := v } } }
    else if cmd.tries < 8 then { d with host := { d.host with cmd := { cmd with tries := cmd.tries + 1 } } }
    else
      let d := (d.putBit 0x1100 0x06 2 true).bump 0x1100 0x07 1
      (d.post 0x02 (c + seq * 2 ^ 32) 0).raise 0x90 0xFFFF

/-- The command has executed. -/
def cmdRan (d : Strand) (result : Nat) (writes : List (Nat × List Byte)) : Strand :=
  { d with host := { d.host with cmd := { d.host.cmd with executed := true, result := result, writes := writes } } }

/-- Runs the command in execution where it has the given OPCODE. -/
def onCmd (d : Strand) (op : Nat) (f : List Byte → Strand) : Strand :=
  match d.host.cmd.cur with
  | some b => if descOp b = op ∧ d.host.cmd.executed = false then f b else d
  | none => d

/-- NOP. -/
def cmdNopOp (d : Strand) : Strand := onCmd d 1 fun _ => cmdRan d 0x00 []

/-- The data of a DICT_WRITE: inline, or from the host; a result code where the read fails. -/
def cmdData (d : Strand) (b : List Byte) (h : HostRead) : Except Nat (List Byte) :=
  let n := descLen b
  if descAddr b = 0 ∧ n ≤ 32 then .ok ((b.drop 32).take n)
  else if d.host.cmd.noHost then .error 0x06
  else match h with
    | .data x => .ok (x.take n ++ zeros (n - x.length))
    | .failed => .error 0x06

/-- DICT_WRITE; like every access it waits for its turn at the dictionary. -/
def cmdWriteOp (g : Pkg) (d : Strand) (h : HostRead) : Pkg × Strand :=
  match d.host.cmd.cur with
  | none => (g, d)
  | some b =>
    if descOp b ≠ 2 ∨ d.host.cmd.executed ∨ mustWait d (descLoc b).1 (descLoc b).2 then (g, d)
    else if inR 1 256 (descLen b) = false then (g, cmdRan d 0x05 [])
    else if descAddr b % 8 ≠ 0 then (g, cmdRan d 0x02 [])
    else match cmdData d b h, dictFind (descLoc b).1 (descLoc b).2 with
      | .error c, _ => (g, cmdRan d c [])
      | _, none => (g, cmdRan d 0x03 [])
      | .ok x, some r =>
        let p := writeGranted g d .host r (descLoc b).1 (descLoc b).2 x
        (p.1, cmdRan p.2 p.2.resp.code [])

/-- Result of a command that writes to the host: HOST_ERROR where that fails or is suppressed. -/
def hostWriteResult (d : Strand) (ok : Bool) : Nat := if !ok || d.host.cmd.noHost then 0x06 else 0x00

/-- DICT_READ. -/
def cmdReadOp (g : Pkg) (d : Strand) (ok : Bool) : Strand :=
  onCmd d 3 fun b =>
    if mustWait d (descLoc b).1 (descLoc b).2 then d
    else if inR 1 256 (descLen b) = false then cmdRan d 0x05 []
    else if descAddr b % 8 ≠ 0 then cmdRan d 0x02 []
    else match dictFind (descLoc b).1 (descLoc b).2 with
      | none => cmdRan d 0x03 []
      | some r =>
        let d := readGranted g d .host r (descLoc b).1 (descLoc b).2 (descLen b)
        if d.resp.code ≠ 0 then cmdRan d d.resp.code []
        else cmdRan d (hostWriteResult d ok) (if ok then [(descAddr b, d.resp.data)] else [])

/-- PLAN_LOAD_DMA: R165 as for a PLAN_LOAD write; a failed host read leaves the slot LOADING as far as it got. -/
def cmdPlanOp (d : Strand) (h : HostRead) : Strand :=
  onCmd d 4 fun b =>
    let n := descLen b
    let off := fieldAt b 24 4
    if n % 8 ≠ 0 ∨ inR 8 16777216 n = false then cmdRan d 0x05 []
    else if descAddr b % 8 ≠ 0 then cmdRan d 0x02 []
    else if shadowBusy d then cmdRan d 0x01 []
    else if off % 8 ≠ 0 ∨ 0x01000000 < off + n then cmdRan d 0x02 []
    else match h with
      | .data x =>
        if d.host.cmd.noHost then cmdRan (slotWrite d off []) 0x06 []
        else cmdRan (slotWrite d off (x.take n ++ zeros (n - x.length))) 0x00 []
      | .failed => cmdRan (slotWrite d off []) 0x06 []

/-- DICT_DESCRIBE. -/
def cmdDescribeOp (d : Strand) (ok : Bool) : Strand :=
  onCmd d 5 fun b =>
    if mustWait d (descLoc b).1 (descLoc b).2 then d
    else if descLen b ≠ 16 then cmdRan d 0x05 []
    else if descAddr b % 8 ≠ 0 then cmdRan d 0x02 []
    else
      match dictFind (descLoc b).1 (descLoc b).2 with
      | none => cmdRan d 0x03 []
      | some r =>
        let data := describeBytes d r (descLoc b).1 (descLoc b).2
        cmdRan d (hostWriteResult d ok) (if ok then [(descAddr b, data)] else [])

/-- A command completes: its host writes, the journal, CMD_DONE, and C advances. -/
def cmdCompleteOp (g : Pkg) (d : Strand) : Strand :=
  let cmd := d.host.cmd
  match cmd.cur with
  | none => d
  | some b =>
    let l := descLoc b
    if cmd.executed = false ∨ (cmd.result = 0xFF ∧ stillRuns g d l.1 l.2) then d
    else
      let cut := cmd.noHost && !cmd.writes.isEmpty
      let result := if cut then 0x06 else if cmd.result = 0xFF then 0x00 else cmd.result
      let d := if cut then d else cmd.writes.foldl (fun d w => d.emit .hostWrite w.1 w.2) d
      let d := journalWrite d b result
      let d := if bit (fieldAt b 5 1) 0 then
          d.post 0x01 (d.get 0x1100 0x04 + descOp b * 2 ^ 32 + result * 2 ^ 40 + fieldAt b 6 2 * 2 ^ 48) 0
        else d
      advanceC d

/-! ### BAR4 (R328) -/

/-- A read of the store aperture: contents while DEBUG_MODE is 1, else an error response. -/
def bar4Op (g : Pkg) (d : Strand) (off len : Nat) : Strand :=
  onMatrix g d off fun d =>
    if d.get 0xF000 0x01 = 1 ∧ off + len ≤ 0x100000 then
      d.emit .completion off (d.storeRead (d.get 0x1104 0x01 * 0x100000 + off) len)
    else (decodeMissOp d 4 off).emit .completion off []

/-! ### The link (R339, R343, R344, R437) -/

/-- Link rate in units of 0.5 GT/s. -/
def linkRate (speed : Nat) : Nat := [0, 5, 10, 16, 32, 64].getD speed 0

/-- DMA_RATE_CBPNS of a link. -/
def dmaRate (speed width : Nat) : Nat := 550 * linkRate speed * width / 512

/-- The link trains, or trains anew, at a speed and width. -/
def linkUpStrand (speed width : Nat) (d : Strand) : Strand :=
  let d := (d.put 0x1103 0x02 (speed + width * 2 ^ 4)).put 0x7100 0x01 (dmaRate speed width)
  d.raiseIf (linkDegraded d) 0x96 0xFFFF

/-- The link is lost: channels are disabled. -/
def linkDownStrand (d : Strand) : Strand :=
  (dmaAllOff ((d.put 0x1103 0x02 0).put 0x7100 0x01 0)).raise 0x95 0xFFFF

/-- A reset of the host-port domain: every PF as at an FLR. -/
def perstStrand (d : Strand) : Strand := flrOp ((d.put 0x1103 0x02 0).put 0x7100 0x01 0)

/-- A function on every strand, then its collector. -/
def onAll (s : State) (f : Strand → Strand) : State :=
  settleAll ((s.mapStrands fun d => { d with out := [] }).mapStrands f)

/-- HP_LINK_UP. -/
def linkUpOp (s : State) (speed width : Nat) : State :=
  if s.pkg.inHold ∨ s.pkg.perstN = false ∨ s.pkg.domain 0x40 ≠ 2 ∨ linkRate speed = 0 ∨
      ([1, 2, 4, 8].contains width) = false then s
  else onAll { s with pkg := { s.pkg with hpUp := true, out := [] } } (linkUpStrand speed width)

/-- HP_LINK_DOWN. -/
def linkDownOp (s : State) : State :=
  if s.pkg.inHold ∨ s.pkg.hpUp = false then s
  else onAll { s with pkg := { s.pkg with hpUp := false, out := [] } } linkDownStrand

/-- PE_PERST_N is asserted. -/
def perstOp (s : State) : State :=
  if s.pkg.inHold then { s with pkg := { s.pkg with perstN := false } }
  else onAll { s with pkg := { s.pkg with hpUp := false, perstN := false, out := [] }.flr4 } perstStrand

/-- PE_PERST_N is released; the link trains afterwards. -/
def perstReleaseOp (s : State) : State := { s with pkg := { s.pkg with perstN := true } }

end Sys2Proof.Machine
end

