-- ==== Sys2Proof/Machine/LydOps.lean ====
section
/-! DEFINITION. The Lanyard node (R355 to R366), the debug port's frames (R438), the sage's watchdog (R353) and the
end of an OTP burn (R370). -/

namespace Sys2Proof.Machine

/-! ### Requests (R357 to R360) -/

/-- The requester of a frame (R356). -/
def frameRequester (f : LydFrame) : Requester := .lyd f.srcExt f.srcDev f.srcStrand

/-- A request that the node takes in: the part has a device ID, the frame names the node, the sage runs (R358, R361). -/
def takesIn (g : Pkg) (d : Strand) (f : LydFrame) : Bool :=
  d.sageUp && !f.resp && decide (g.devId = some f.dstDev) && decide (f.dstStrand = d.id.num)

/-- The requester's entry, taken or renewed, is the most recent of at most 16; a requester that is evicted loses its
session (R359). -/
def tableTake (d : Strand) (rq : Requester) (seq : Nat) : Strand :=
  let l := ⟨rq, seq, []⟩ :: d.mgmt.table.filter fun e => decide (e.rq ≠ rq)
  let d := { d with mgmt := { d.mgmt with table := l.take 16 } }
  (l.drop 16).foldl (fun (d : Strand) e => d.endSession e.rq) d

/-- Lanyard requests that wait for the dictionary. -/
def lydWaiting (d : Strand) : Nat := (d.mgmt.queue.filter fun a => decide (a.port ≤ 1)).length

/-- The node holds as many requests as it can (R359). -/
def lydFull (d : Strand) (f : LydFrame) : Bool := mustWait d f.index f.subindex && decide (32 ≤ lydWaiting d)

/-- A new request: the access, and its response on the port of its arrival. -/
def requestNew (g : Pkg) (d : Strand) (port : Nat) (f : LydFrame) : Pkg × Strand :=
  if lydFull d f then (g, d.bump 0x1141 0x07 1)
  else
    let rq := frameRequester f
    let a : Ask := { port := port, rq := rq, f := f }
    let x := accessOp g (tableTake d rq f.seq) a
    if x.2.resp.code = 0xFF then x else deliver x.1 x.2 a x.2.resp.code x.2.resp.data

/-- A retry: the stored response again, or nothing while the request still runs. -/
def requestAgain (g : Pkg) (d : Strand) (port : Nat) (e : ReqEntry) : Strand :=
  let d := { d with mgmt := { d.mgmt with table := e :: d.mgmt.table.erase e } }
  if e.resp.isEmpty then d else (lydSend g d port e.resp).bump 0x1141 0x06 1

/-- A stale request is discarded. -/
def requestStale (d : Strand) (port : Nat) : Strand := (d.bump 0x1141 0x05 1).raiseOnce 0xA6 port

/-- READ, WRITE and DESCRIBE at their node: the rules of the requester table (R359). -/
def requestOp (g : Pkg) (d : Strand) (port : Nat) (f : LydFrame) : Pkg × Strand :=
  if takesIn g d f then
    match d.mgmt.table.find? fun e => decide (e.rq = frameRequester f) with
    | none => requestNew g d port f
    | some e =>
      let ahead := serialSub 16 f.seq e.seq
      if ahead = 0 then (g, requestAgain g d port e)
      else if ahead ≤ 32767 then requestNew g d port f
      else (g, requestStale d port)
  else (g, d)

/-- BCAST_WRITE: a write in every strand of its scope, without a response (R360). -/
def bcastOp (g : Pkg) (d : Strand) (port : Nat) (f : LydFrame) : Pkg × Strand :=
  if d.sageUp ∧ f.resp = false ∧ g.devId.isSome ∧ (f.allStrands ∨ f.dstStrand = d.id.num) then
    if lydFull d f then (g, d.bump 0x1141 0x07 1)
    else
      let x := accessOp g (d.bump 0x1141 0x08 1) { port := port, rq := frameRequester f, f := f }
      if x.2.resp.code = 0xFF then x else (x.1, bcastResult x.2 x.2.resp.code)
  else (g, d)

/-! ### Enumeration (R361 to R366) -/

/-- Bytes 8 to 15 of an ENUM, BEACON or ENUM_REPORT payload: a SERIAL. -/
def frameSerial (f : LydFrame) : Nat := fieldAt f.payload 8 8

/-- Sends an ENUM_REPORT out of UPSTREAM (R363). -/
def enumReport (g : Pkg) (d : Strand) (reason : Nat) : Strand :=
  ownSend g d 0 6 (natToBytes 1 reason ++ natToBytes 2 g.posSeen ++ zeros 5 ++ serialBytes d)

/-- A head that sees another head's SERIAL on its UPSTREAM port enters HEAD_CONFLICT (R365). -/
def headAbove (g : Pkg) (d : Strand) (f : LydFrame) : Pkg × Strand :=
  if frameSerial f = d.get 0x1000 0x06 ∨ g.conflict then (g, d)
  else ({ g with conflict := true }, (enumReport g d 2).raiseOnce 0xA9 0)

/-- An ENUM frame at strand 0 (R363). -/
def enumOp (g : Pkg) (d : Strand) (f : LydFrame) : Pkg × Strand :=
  if d.sageUp = false ∨ d.id ≠ .s0 then (g, d)
  else if g.straps.head then headAbove g d f
  else
    let seg := fieldAt f.payload 0 1
    let pos := fieldAt f.payload 1 2
    let g := { g with posSeen := pos, lastEnum := some d.sage }
    if pos = 0 then (g, d)
    else if pos ≤ 255 then
      ({ g with newId := some (seg * 256 + pos) },
       lydSend g d 1 (lydBytes { f with payload := natToBytes 1 seg ++ natToBytes 2 (pos + 1) ++ f.payload.drop 3 }))
    else (g, lydSend g ((enumReport g d 1).raiseOnce 0xA8 0) 1 (lydBytes f))

/-- An ENUM_REPORT at the head's strand 0 (R363 to R365). -/
def enumReportOp (g : Pkg) (d : Strand) (f : LydFrame) : Pkg × Strand :=
  if d.sageUp = false ∨ d.id ≠ .s0 ∨ g.straps.head = false then (g, d)
  else
    let reason := fieldAt f.payload 0 1
    if reason = 1 then (g, d.bump 0x1140 0x08 1)
    else if reason = 2 then (g, d.raiseOnce 0xA9 1)
    else if reason = 3 ∧ (g.lastEnum.getD 0) + secTime 1 ≤ d.sage then enumBegin g d
    else (g, d)

/-- A BEACON at a node. -/
def beaconOp (g : Pkg) (d : Strand) (port : Nat) (f : LydFrame) : Pkg × Strand :=
  if d.sageUp = false then (g, d)
  else if g.straps.head then (if d.id = .s0 ∧ port = 0 then headAbove g d f else (g, d))
  else (g, { d with mgmt := { d.mgmt with beaconIn := d.sage, noHead := false } })

/-- 500 ms after its sage first runs, the head's strand 0 starts enumeration. -/
def enumStartOp (g : Pkg) (d : Strand) : Pkg × Strand :=
  if d.sageUp ∧ d.id = .s0 ∧ g.straps.head ∧ g.firstEnum = false ∧ msTime 500 ≤ d.sage then
    enumBegin { g with firstEnum := true } d
  else (g, d)

/-- An UNASSIGNED part that has seen no ENUM for 1 s reports upstream, and again every 1 s. -/
def unassignedReportOp (g : Pkg) (d : Strand) : Pkg × Strand :=
  if d.sageUp ∧ d.id = .s0 ∧ g.devId.isNone ∧ (g.lastEnum.getD 0) + secTime 1 ≤ d.sage ∧
      (g.reported.all fun t => decide (t + secTime 1 ≤ d.sage)) then
    ({ g with reported := some d.sage }, enumReport g d 3)
  else (g, d)

/-- A head's BEACON, every 1 s. -/
def beaconTxOp (g : Pkg) (d : Strand) : Pkg × Strand :=
  if d.sageUp ∧ d.id = .s0 ∧ g.straps.head ∧ (g.beaconAt.all fun t => decide (t + secTime 1 ≤ d.sage)) then
    ({ g with beaconAt := some d.sage },
     ownSend g d 1 7 (natToBytes 1 g.straps.seg ++ zeros 7 ++ serialBytes d))
  else (g, d)

/-- A part that is not a head has had no BEACON for 3 s. -/
def noHeadOp (g : Pkg) (d : Strand) : Strand :=
  if d.sageUp ∧ g.straps.head = false ∧ d.mgmt.noHead = false ∧ d.mgmt.beaconIn + secTime 3 ≤ d.sage then
    { d with mgmt := { d.mgmt with noHead := true } }.raiseOnce 0xAA 0
  else d

/-! ### Forwarding (R355, R358) -/

/-- A frame that has arrived whole is taken in by its TYPE; a reserved TYPE is counted. -/
def takeFrame (g : Pkg) (d : Strand) (port : Nat) (f : LydFrame) : Pkg × Strand :=
  match f.type with
  | 1 => requestOp g d port f
  | 2 => requestOp g d port f
  | 3 => requestOp g d port f
  | 4 => bcastOp g d port f
  | 5 => enumOp g d f
  | 6 => enumReportOp g d f
  | 7 => beaconOp g d port f
  | _ => (g, d.bump 0x1141 0x04 1)

/-- The copy that the node forwards to its other port: strand 0 stores an ENUM, and forwards nothing in HEAD_CONFLICT;
a copy of a bad frame is aborted. -/
def forwardCopy (g : Pkg) (d : Strand) (port : Nat) (bad : Bool) (b : List Byte) : Strand :=
  let other := 1 - port
  if d.id = .s0 ∧ (g.conflict ∨ (fieldAt b 0 1 % 16 = 5 ∧ d.sageUp)) then d
  else if lydLinked g d other then d.emit .lanyard (if bad then other + 2 else other) b
  else d

/-- A frame arrives at a port of the node; a node whose sage does not run forwards it and takes nothing in (R11). -/
def frameArriveOp (g : Pkg) (d : Strand) (port : Nat) (aborted : Bool) (b : List Byte) : Pkg × Strand :=
  let port := port % 2
  if d.sageUp = false then (g, forwardCopy g d port aborted b)
  else if aborted then (g, (forwardCopy g d port true b).bump 0x1141 0x03 1)
  else
    match lydParse b with
    | none => (g, ((forwardCopy g d port true b).bump 0x1141 0x02 1).raiseOnce 0xA5 port)
    | some f => takeFrame g ((forwardCopy g d port false b).bump 0x1141 0x01 1) port f

/-- The bypass of a node whose sage is unpowered or held in reset, in a part without power or in device reset: what
comes in at one port goes out of the other (R11). -/
def nodeBypass (s : State) (w : At) (port : Nat) (aborted : Bool) (b : List Byte) : State :=
  let other := 1 - port % 2
  let d := { (s.strand w.k).atTime w.t with out := [⟨.lanyard, if aborted then other + 2 else other, b⟩] }
  { s with pkg := { s.pkg with out := [] } }.setStrand w.k d

/-- The strand whose node has a port of the part. -/
def edgeStrand (port : Nat) : StrandId := if port = 0 then .s0 else .s3

/-- A port of the part loses its link. -/
def lydDownOp (g : Pkg) (d : Strand) (port : Nat) : Pkg × Strand :=
  if d.id ≠ edgeStrand port ∨ lydLinked g d port = false then (g, d)
  else (if port = 0 then { g with upLink := false } else { g with downLink := false }, d.raiseOnce 0xA4 port)

/-- A port of the part receives valid symbols again. -/
def lydUpOp (g : Pkg) (d : Strand) (port : Nat) : Pkg :=
  if d.id ≠ edgeStrand port then g
  else if port = 0 then { g with upLink := true } else { g with downLink := true }

/-! ### The debug port (R438) -/

/-- An Update-DR of a frame: a request of the debug class to the strand that DST_STRAND names. -/
def dbgFrameOp (g : Pkg) (d : Strand) (f : LydFrame) : Pkg × Strand :=
  if g.domain 0x43 ≠ 2 ∨ f.dstStrand ≠ d.id.num ∨ d.sageUp = false then ({ g with jtagIr := 0x3A }, d)
  else
    let g := { g with jtagIr := 0x3A, dbgReg := [] }
    if f.resp ∨ (f.type ≠ 1 ∧ f.type ≠ 2 ∧ f.type ≠ 3) then (g, d)
    else
      let a : Ask := { port := 2, rq := .dbg, f := f }
      let x := accessOp g d a
      if x.2.resp.code = 0xFF then x else deliver x.1 x.2 a x.2.resp.code x.2.resp.data

/-! ### A sage reset (R353, R354) -/

/-- The watchdog resets the sage alone: for at most 50 ms, a free value, the strand's dictionary answers UNAVAILABLE. -/
def sageWatchdogOp (g : Pkg) (d : Strand) : Strand :=
  let win := d.host.win
  let waits := d.mgmt.queue.any fun a => decide (a.port = 3)
  let d := { d with host := { d.host with win := if waits then { win with pendRes := 0x09 } else win } }
  let w := d.freeNat
  let d := w.2.bump 0x1000 0x0B 1
  let d := { d with mgmt := { d.mgmt with table := [], queue := [], sessions := [],
                                          asks := d.mgmt.asks.filter fun a => decide (2 ≤ a.port),
                                          bootUntil := d.sage + w.1 % (msTime 50 + 1) } }
  let d := if pinsEnabled d then pinsHold d
           else { d with tm := { d.tm with pinHeld := d.tm.pinHeld || d.getBit 0x2008 0x01 0 } }
  (applyPatches g (refBreakOp g d 8)).raiseAnyOnce 0xA0

/-! ### OTP burns (R370) -/

/-- The result of a burn reaches the window, the command and the requests that wait for it. -/
def burnTell (index sub code : Nat) (g : Pkg) (d : Strand) : Pkg × Strand :=
  let here := fun (i s : Nat) => decide (i = index) && decide (s = sub)
  let win := d.host.win
  let winHit := win.busy && decide (win.pendRes = 0xFF) && here (bits win.addr 0 16) (bits win.addr 16 8)
  let cmd := d.host.cmd
  let cmdHit := cmd.executed && decide (cmd.result = 0xFF) &&
    (cmd.cur.any fun b => here (descLoc b).1 (descLoc b).2)
  let d := { d with host := { d.host with win := if winHit then { win with pendRes := code } else win,
                                          cmd := if cmdHit then { cmd with result := code } else cmd } }
  let hit := fun (a : Ask) => here a.f.index a.f.subindex
  deliverAll g { d with mgmt := { d.mgmt with asks := d.mgmt.asks.filter fun a => !(hit a) } }
    (d.mgmt.asks.filter hit) fun _ => code

/-- The same for one strand of the block. -/
def burnTellAt (index sub code : Nat) (s : State) (k : StrandId) : State :=
  let r := burnTell index sub code s.pkg (s.strand k)
  { s with pkg := r.1 }.setStrand k r.2

/-- The same for PF4 and every strand. -/
def burnTellAll (s : State) (index sub code : Nat) : State :=
  let win := s.pkg.win4
  let hit := win.busy && decide (win.pendRes = 0xFF) && decide (win.addr % 2 ^ 24 = index + sub * 65536)
  let s := { s with pkg := { s.pkg with win4 := if hit then { win with pendRes := code } else win } }
  allStrands.foldl (burnTellAt index sub code) s

/-- The package once a burn has ended: the key first, then the patches in the order of their writes. -/
def burnEnd (g : Pkg) (ok : Bool) : Option (Nat × Nat) × Pkg :=
  match g.burnKey, g.burnPatch with
  | some v, _ => (some (0x1211, 0x01), { g with burnKey := none, key := if ok then some v else g.key })
  | none, x :: r =>
    (some (0x10C0, x.1),
     { g with burnPatch := r, patches := if ok then smSet (fun _ => ([] : List Byte)) g.patches x.1 x.2 else g.patches })
  | none, [] => (none, g)

/-- An OTP burn ends: verified, or failed with ACCESS_ERROR and OTP_PROG_FAIL. -/
def burnDoneOp (s : State) (w : At) (ok : Bool) : State :=
  let e := burnEnd s.pkg ok
  match e.1 with
  | none => onPart s w fun g d => (g, d)
  | some l =>
    if s.pkg.inHold then s
    else
      let s := onPart s w fun g d => ((burnEnd g ok).2, if ok then d else d.raiseAnyOnce 0xA2)
      burnTellAll s l.1 l.2 (if ok then 0x00 else 0x01)

end Sys2Proof.Machine
end

