-- ==== Sys2Proof/Machine/Boundary.lean ====
section
/-! DEFINITION. The epoch boundary (R13): splices, the commit, EPOCH-class writes, the windows, and what else the spec
ties to a boundary. -/

namespace Sys2Proof.Machine

/-- A boundary begins a new epoch for the sources that are raised once in each (R382). -/
def newEpoch (d : Strand) : Strand := { d with flt := { d.flt with onceDone := [] } }

/-- A second in STATE ACTIVE is 1,024 epochs (R65). -/
def activeTick (d : Strand) (p : Nat) : Strand :=
  if d.cellState p ≠ 1 then d
  else
    let n := smGet zeroAt d.work.activeFor p + 1
    let d := if n < 1024 then d else d.bump (0x5100 + p) 0x0C 1
    { d with work := { d.work with activeFor := smSet zeroAt d.work.activeFor p (n % 1024) } }

/-- ACTIVE_SECONDS of every cell. -/
def activeSeconds (d : Strand) : Strand := (List.range 272).foldl activeTick d

/-- A bad descriptor row is replaced by a spare while there is one (R229). -/
def replaceRow (d : Strand) (q : Nat) : Strand :=
  let x := d.queue q
  if x.bad ∧ 0 < d.get 0x6820 0x05 then
    (d.setQueue q { x with bad := false, stalled := (d.output (qOut (d.qEntry q))).stalled }).put 0x6820 0x05
      (d.get 0x6820 0x05 - 1)
  else d

/-- Every bad descriptor row. -/
def replaceRows (d : Strand) : Strand := (d.q.qd.map (·.1)).foldl replaceRow d

/-- Ingest memories are reloaded from the ACTIVE plan where BLOCK_RESET called for it (R393, R403). -/
def reloadIngest (d : Strand) : Strand :=
  if d.ing.reload then { d with ing := { d.ing with reload := false, memBad := [] } } else d

/-- The trigger tables too (R393). -/
def reloadTrig (d : Strand) : Strand := if d.trig.reload then tablesReload d else d

/-- Step 4 of R13: the thermal grade and the profile, the timing state and the admission windows. -/
def boundaryAdmission (d : Strand) : Strand :=
  let d := setCclk (selectProfile (formGrade (partitionSample d)))
  boundaryWindows d (timeUnc d)

/-- A boundary of the strand. -/
def boundaryOp (g : Pkg) (d : Strand) : Strand :=
  if d.now % 2 ^ 38 ≠ 0 then d
  else
    let d := newEpoch d
    let low := linkDegraded d
    let d := boundaryCommit (boundarySplices d)
    let d := boundaryWrites (d.raiseIf (linkDegraded d && !low) 0x96 0xFFFF)
    let d := boundaryAdmission d
    let d := epochOutOp (outOfsDecay (holdElapsed d))
    let d := activeSeconds (replaceRows (reloadTrig (reloadIngest (joinUnit d))))
    stepApply g (refsRecheck g (autoOff d))

/-- DRIVE of PIN_CFG, as written. -/
def drives (d : Strand) : Bool := d.getBit 0x2008 0x01 0

/-- A strand other than `k` loses DRIVE (R323). -/
def loseDrive (k : StrandId) (d : Strand) : Strand :=
  if d.id = k then d else d.putBit 0x2008 0x01 0 false

/-- A boundary of one strand of the block; where it takes DRIVE, the other strands lose it. -/
def boundaryCmd (s : State) (w : At) : State :=
  let n := onLivePkg s w boundaryOp
  if drives (s.strand w.k) = false ∧ drives (n.strand w.k) then n.mapStrands (loseDrive w.k) else n

/-- FAULT_SIGNAL: a source drives its rails; where the spec ties an effect to the condition, it happens with it. -/
def faultSignalOp (d : Strand) (src inst : Nat) : Strand :=
  if 192 ≤ src then d
  else if src = 0x59 then flushLink d inst
  else if src = 0x5A then (rowBad d inst).raise src inst
  else if src = 0x66 then tableBad d inst
  else d.raise src inst

/-- The command: package sources drive the rails of all four collectors (R383). -/
def faultSignalCmd (s : State) (w : At) (src inst : Nat) : State :=
  if 0xB0 ≤ src ∧ src ≤ 0xB4 then
    if s.pkg.inHold then s
    else settleAll ((s.mapStrands fun d => { d with out := [] }).mapStrands fun d => d.raise src inst)
  else onStrand s w fun d => faultSignalOp d src inst

end Sys2Proof.Machine
end

