-- ==== Sys2Proof/Machine/SharedOps.lean ====
section
/-! DEFINITION. Shared power domains and regulators (R408, R410, R413, R418), and the JTAG port (R438). Faults of the
shared domains and regulators are raised in strand 0's collector. -/

namespace Sys2Proof.Machine

/-! ### Shared domains -/

/-- The same instant in strand 0. -/
def atZero (w : At) : At := { w with k := .s0 }

/-- A shared domain. -/
def isShared (n : Nat) : Bool := decide (0x40 ≤ n) && decide (n ≤ 0x43)

/-- What a shared domain loses with its power: the link of the host port, or the contents of both store dies. -/
def loseShared (s : State) (n : Nat) : State :=
  if n = 0x40 then linkDownOp s else if n = 0x41 then s.mapStrands loseStore else s

/-- A shared domain fails: it is held off, and PWR_DOMAIN_FAIL is raised. -/
def sharedFail (s : State) (w : At) (n : Nat) : State :=
  onPart (loseShared s n) (atZero w) fun g d => (g.setDomain n 3, d.raise 0xB7 n)

/-- DOMAIN_WAKE. -/
def domainWakeCmd (s : State) (w : At) (n : Nat) : State :=
  if isShared n then (if s.pkg.inHold then s else shareDomain s n) else onStrandPkg s w fun g d => domainWakeOp g d n

/-- DOMAIN_POWER_GOOD. -/
def domainGoodCmd (s : State) (w : At) (n us : Nat) : State :=
  if isShared n then onPart s w fun g d => (if g.domain n = 1 then g.setDomain n 2 else g, d)
  else onStrand s w fun d => domainGoodOp d n us

/-- DOMAIN_WAKE_TIMEOUT. -/
def domainLateCmd (s : State) (w : At) (n : Nat) : State :=
  if isShared n then (if s.pkg.inHold ∨ s.pkg.domain n ≠ 1 then s else sharedFail s w n)
  else onStrandPkg s w fun g d => refsRecheck g (domainLateOp d n)

/-- DOMAIN_POWER_LOSS. -/
def domainLossCmd (s : State) (w : At) (n : Nat) : State :=
  if isShared n then (if s.pkg.inHold ∨ s.pkg.domain n ≠ 2 then s else sharedFail s w n)
  else onStrandPkg s w fun g d => refsRecheck g (domainLossOp d n)

/-! ### Shared regulators -/

/-- A phase of STORE (3) or HOST (4) fails. No profile depends on these two. -/
def pkgPhaseFail (g : Pkg) (d : Strand) (r dom : Nat) : Pkg × Strand :=
  if 5 ≤ r then (g, d)
  else
    let v := g.get 0x2603 (r - 3)
    let g := g.put 0x2603 (r - 3) (phaseLost v)
    if 0 < bits v 8 8 then (g, (d.raise 0xB5 dom).raiseIf (decide (bits v 8 8 = 1)) 0xB6 dom) else (g, d)

/-- PWR_PHASE_FAIL. -/
def phaseFailCmd (s : State) (w : At) (r dom : Nat) (c : Currents) : State :=
  if r < 3 then onStrand s w fun d => phaseFailOp d r dom c.peak
  else onPart s (atZero w) fun g d => pkgPhaseFail g d r dom

/-! ### JTAG -/

/-- The JTAG pins serve the instructions while the test/debug domain has power (R410); with TEST_EN high they serve
production test only. -/
def jtagOn (g : Pkg) : Bool := g.powered && g.pwrEn && !g.testEn && decide (g.domain 0x43 = 2)

/-- A JTAG instruction takes its code and the register that it selects. -/
def jtagOp (s : State) (f : Pkg → Pkg) : State := if jtagOn s.pkg then { s with pkg := f s.pkg } else s

/-- EXTEST: the boundary register drives the pins. -/
def extestOp (g : Pkg) : Pkg := { g with jtagIr := 0x00, jtagPins := g.jtagBsr }

/-- IDCODE: STEPPING, PART_CODE, the manufacturer's JEDEC code and 1. -/
def idcodeOp (d : Strand) (g : Pkg) : Pkg :=
  { g with jtagIr := 0x01,
           jtagDr := d.get 0x1000 0x05 % 16 * 2 ^ 28 + d.get 0x1000 0x03 % 65536 * 2 ^ 12 + Config.jedecCode % 2048 * 2 + 1 }

/-- SAMPLE/PRELOAD: the levels of the pins are captured and the boundary register is preloaded. -/
def samplePreloadOp (pins preload : Nat) (g : Pkg) : Pkg := { g with jtagIr := 0x02, jtagDr := pins, jtagBsr := preload }

/-- BYPASS: one register bit, which captures 0. -/
def bypassOp (g : Pkg) : Pkg := { g with jtagIr := 0xFF, jtagDr := 0 }

end Sys2Proof.Machine
end

