-- ==== Sys2Proof/Machine/CellSteps.lean ====
section
/-! DEFINITION. Commands of a cell that reach beyond it: THR assertions (R239), the splice conditions of R180,
RUN_GATE and MIRROR (R185). -/

namespace Sys2Proof.Machine

/-! ### What the sequencer sends before a step (R55, R133, R141) -/

/-- What the first operand sample of a step is. -/
def firstProv (c : Cell) (ags : List Ag) (pb : Nat) : Option Prov :=
  let n := match pbKernel pb with | 1 => 8 | 2 => 64 | 3 => bits pb 20 12 | _ => bits pb 21 11
  provOf (elemMarks c (agAt ags 0) 0 0 0 n (sampleBytes (pbFmt pb)))

/-- CLEAR and DUMP of an XT or XA step that has a dump descriptor, by its run number (R141); a FLAGS command for this
run stands. DEDUCED: where the spec's data does not tell the run's number, the parameter block stands as it is
(assumption log 84). -/
def seqFlags (d : Strand) (p l : Nat) (se : StepEntry) (pb : Nat) (v : Prov) : Strand :=
  let c := d.cell p
  match imgDump (d.planOf l) l c.pos with
  | none => d
  | some ds =>
    if smGet zeroAt c.flagSet se.pbUnit ≠ 0 then d
    else
      let j := v.samp / max (bits pb 16 13) 1
      let r := j % max ds.intRuns 1
      d.onCell p fun y => y.setFlags se.pbUnit (decide (r = 0) ||
          !(c.ran.contains c.pos)) (decide (r = (ds.intRuns : Int) - 1))

/-- The swap of the step's bank that is due: its boundary is not after the nominal time of the first sample (R133),
or, where that is not known, not after the strand's time. -/
def seqSwap (d : Strand) (l kind target : Nat) (v : Option Prov) : Option Swap :=
  (d.swapOf kind target).bind fun s =>
    if s.epoch * 2 ^ 32 ≤ (v.bind (provTime (d.planOf l))).getD (toU d.now) then some s else none

/-- A due swap: AG3.BASE is rewritten to the other bank (R132). -/
def seqBank (d : Strand) (p l kind target unit : Nat) (v : Option Prov) : Strand :=
  match seqSwap d l kind target v with
  | none => d
  | some s =>
    let other := otherBase (d.planOf l) l unit (ag3Of (d.cell p) unit).base
    swapTake (d.onCell p (cpSetBase unit other)) kind target s.epoch

/-- n0 of an FD step: the channel samples from the boundary at which its bank took effect to the run's first sample
(R55); SET_N0 for this run stands. -/
def seqN0 (d : Strand) (p l unit : Nat) (v : Prov) : Strand :=
  let c := d.cell p
  if c.n0Set.contains unit then d
  else
    let n := v.samp - firstSampleAt (d.planOf l) v (smGet zeroAt d.work.bankFrom (bankKey 0 l))
    d.onCell p fun y => { y with n0 := smSet zeroAt y.n0 unit (n % 2 ^ 32).toNat }

/-- The sequencer's commands for the step at the cell's position. -/
def seqStep (d : Strand) (p : Nat) : Strand :=
  let c := d.cell p
  let se := c.stepAt c.pos
  let pb := c.pmNat (64 * se.pbUnit) 64
  let l := d.runsAs p
  let v := firstProv c (agSet (c.pmNat (64 * se.agUnit) 64)) pb
  match pbKernel pb, v with
  | 1, some x | 2, some x => seqFlags d p l se pb x
  | 3, _ => seqBank d p l 1 (32 * l + c.pos) se.agUnit v
  | 7, _ =>
    let mine := match fdStep c with | some x => decide (x.2.1.agUnit = se.agUnit) | none => false
    let d := if mine then seqBank d p l 0 l se.agUnit v else d
    match v with
    | some x => seqN0 d p l se.pbUnit x
    | none => d
  | _, _ => d

/-! ### Steps -/

/-- Corrected errors of the last 3,600 s, with the one just found. -/
def noteEcc (d : Strand) (p : Nat) : Strand :=
  let live := d.work.eccTimes.filter fun x => decide (d.sage < x.2 + secTime 3600)
  { d with work := { d.work with eccTimes := live ++ [(p, d.sage)] } }

/-- What a step leaves for others: packets whose run has been cut short close (R146), its THR assertions reach the
hitch, and a failure calls for a splice. `late` says that the step has begun before the present instant. -/
def stepAfter (x : Strand × ThrList) (p : Nat) (cut late : Bool) : Strand :=
  let d := if cut then closeRunPackets x.1 p else x.1
  autoSplice (x.2.foldl (fun (d : Strand) y => hitchPulse d (if late then 0 else y.1) y.2) d) p

/-- A step of a cell: the sequencer's commands, its repetitions, and what it leaves for others. -/
def cellStep (d : Strand) (p : Nat) (luck : StepChance) (upset : List Nat) : Strand :=
  let c := d.cell p
  if c.running = false ∨ c.stopped = true then d
  else
    let x := kernelStepOp (if c.pos < 32 then seqStep d p else d) p luck.resid luck.soft upset
    stepAfter ((List.range luck.soft).foldl (fun d _ => noteEcc d p) x.1, x.2) p (x.1.cell p).stopped false

/-- A run start; one that meets a run under way cuts it short after `cut` repetitions of its step. -/
def runStartCmd (d : Strand) (p cut : Nat) : Strand :=
  let meets := d.mayRun p && (d.cell p).running
  let x := runStartOp d p cut
  if meets then stepAfter x p true true else x.1

/-- A scrubber's read, with the splice conditions. -/
def cellScrub (d : Strand) (p m word : Nat) (f : EccFind) : Strand :=
  let n := d.get (0x5100 + p) 0x03
  let d := cellScrubOp d p m word f
  if 272 ≤ p then d else autoSplice (if d.get (0x5100 + p) 0x03 = n then d else noteEcc d p) p

/-- A margin reading, with the splice conditions; a sage in reset reads none. -/
def marginStep (d : Strand) (p : Nat) (margin : Int) : Strand :=
  if d.sageUp = false ∨ 272 ≤ p then d else autoSplice (marginReadOp d p margin) p

/-- RUN_GATE. -/
def runGateOp (d : Strand) (p arg : Nat) : Strand := d.onCell p fun c => { c with gateOpen := bit arg 0 }

/-- MIRROR: a physical cell that does not exist is a reserved encoding. -/
def mirrorOp (d : Strand) (p arg : Nat) : Strand :=
  if 272 ≤ p ∨ (bit arg 0 ∧ 272 ≤ bits arg 16 9) then d
  else d.setCell p { d.cell p with mirror := if bit arg 0 then some (bits arg 16 9) else none }

end Sys2Proof.Machine
end

