-- ==== Sys2Proof/Machine/ExecCells.lean ====
section
/-! DEFINITION. Meanings of the commands of cells, their control port, and accumulation (02, 03). -/

namespace Sys2Proof.Machine

/-- EPOCH_BOUNDARY (R13). -/
def execEpochBoundary (w : At) (s : State) : Host.Outcome State Fault Refusal :=
  .next (boundaryCmd s w)

/-- RUN_START (R36). -/
def execRunStart (w : At) (r : RunCell) (s : State) : Host.Outcome State Fault Refusal :=
  .next (onLive s w fun d => runStartCmd d r.p r.cut)

/-- KERNEL_STEP (R31). -/
def execKernelStep (w : At) (p : Nat) (luck : StepChance) (upset : List Nat) (s : State) :
    Host.Outcome State Fault Refusal :=
  .next (onLive s w fun d => cellStep d p luck upset)

/-- CELL_SCRUB_READ (R32). -/
def execCellScrubRead (w : At) (p : Nat) (m : CellMem) (word : Nat) (found : EccFind) (s : State) :
    Host.Outcome State Fault Refusal :=
  .next (onLive s w fun d => cellScrub d p (memCode m) word found)

/-- WRITE (R185). -/
def execWrite (w : At) (p : Nat) (addr : Nat) (arg : Nat) (s : State) : Host.Outcome State Fault Refusal :=
  .next (onLive s w fun d => d.onCell p (cpWrite addr arg))

/-- SELECT (R185). -/
def execSelect (w : At) (p : Nat) (addr : Nat) (s : State) : Host.Outcome State Fault Refusal :=
  .next (onLive s w fun d => d.onCell p (cpSelect addr))

/-- FLAGS (R185). -/
def execFlags (w : At) (p : Nat) (unit : Nat) (arg : Nat) (s : State) : Host.Outcome State Fault Refusal :=
  .next (onLive s w fun d => d.onCell p (cpFlags unit arg))

/-- SET_BASE (R185). -/
def execSetBase (w : At) (p : Nat) (unit : Nat) (arg : Nat) (s : State) : Host.Outcome State Fault Refusal :=
  .next (onLive s w fun d => setBaseOp d p unit arg)

/-- SET_N0 (R185). -/
def execSetN0 (w : At) (p : Nat) (unit : Nat) (arg : Nat) (s : State) : Host.Outcome State Fault Refusal :=
  .next (onLive s w fun d => d.onCell p (cpSetN0 unit arg))

/-- COPY_BANK (R185). -/
def execCopyBank (w : At) (p : Nat) (unit : Nat) (arg : Nat) (s : State) : Host.Outcome State Fault Refusal :=
  .next (onLive s w fun d => copyBankOp d p unit arg)

/-- RUN_GATE (R185). -/
def execRunGate (w : At) (p : Nat) (arg : Nat) (s : State) : Host.Outcome State Fault Refusal :=
  .next (onLive s w fun d => runGateOp d p arg)

/-- MIRROR (R185). -/
def execMirror (w : At) (p : Nat) (arg : Nat) (s : State) : Host.Outcome State Fault Refusal :=
  .next (onLive s w fun d => mirrorOp d p arg)

/-- OWNERS (R185). -/
def execOwners (w : At) (p : Nat) (s : State) : Host.Outcome State Fault Refusal :=
  .next (onLive s w fun d => d.onCell p cpOwners)

/-- MARGIN_READ (R65). -/
def execMarginRead (w : At) (p : Nat) (margin : Int) (s : State) : Host.Outcome State Fault Refusal :=
  .next (onLive s w fun d => marginStep d p margin)

/-- HEALTH_CLEAR (R65). -/
def execHealthClear (w : At) (rq : Requester) (p : Nat) (v : Nat) (s : State) : Host.Outcome State Fault Refusal :=
  .next (regWrite s w rq (decide (p < 272)) (0x5100 + p) 0x0E v)

/-- DBG_CAPTURE (R92). -/
def execDbgCapture (w : At) (rq : Requester) (v : Nat) (s : State) : Host.Outcome State Fault Refusal :=
  .next (regWrite s w rq (true) (0x5810) 0x03 v)

/-- DEBUG_CAPTURE_TAKE (R92). -/
def execDebugCaptureTake (w : At) (s : State) : Host.Outcome State Fault Refusal :=
  .next (onLive s w fun d => debugTakeOp d)

/-- ACC_CNT_CLEAR (R93). -/
def execAccCntClear (w : At) (rq : Requester) (v : Nat) (s : State) : Host.Outcome State Fault Refusal :=
  .next (regWrite s w rq (true) (0x5800) 0x09 v)

end Sys2Proof.Machine
end

