-- ==== Sys2Proof/Machine/ExecData.lean ====
section
/-! DEFINITION. Meanings of the commands of the braid, ingest and correlation banks (04, 05, 07). -/

namespace Sys2Proof.Machine

/-- BEAT_INSTANCE_START (R194). -/
def execBeatInstanceStart (w : At) (beat : Nat) (s : State) : Host.Outcome State Fault Refusal :=
  .next (onLive s w fun d => beatStartOp d beat)

/-- SLOT_TRANSFER (R200). -/
def execSlotTransfer (w : At) (beat : Nat) (entry : Nat) (land : Landing) (s : State) :
    Host.Outcome State Fault Refusal :=
  .next (onLivePkg s w fun g d => slotTransferOp g d beat entry land)

/-- BLOCK_ARRIVAL (R103). -/
def execBlockArrival (w : At) (lane : Nat) (full : Bool) (bytes : List Byte) (s : State) :
    Host.Outcome State Fault Refusal :=
  .next (onLive s w fun d => blockArrivalOp d lane full bytes)

/-- WINDOW_CLOSE (R103). -/
def execWindowClose (w : At) (stream : Nat) (blk : Nat) (s : State) : Host.Outcome State Fault Refusal :=
  .next (onLive s w fun d => windowCloseOp d stream blk)

/-- INGEST_SLOT (R107). -/
def execIngestSlot (w : At) (stream : Nat) (blk : Nat) (memBad : Bool) (s : State) : Host.Outcome State Fault Refusal :=
  .next (onLive s w fun d => ingestSlotOp d stream blk memBad)

/-- STREAM_DELAY (R119). -/
def execStreamDelay (w : At) (rq : Requester) (stream : Nat) (v : Nat) (s : State) : Host.Outcome State Fault Refusal :=
  .next (regWrite s w rq (decide (stream < 4096)) (0x4200 + stream / 256) (stream % 256) v)

/-- ING_CNT_CLEAR (R124). -/
def execIngCntClear (w : At) (rq : Requester) (v : Nat) (s : State) : Host.Outcome State Fault Refusal :=
  .next (regWrite s w rq (true) (0x4000) 0x09 v)

/-- DELAY_LOAD (R135). -/
def execDelayLoad (w : At) (rq : Requester) (cell : Nat) (bytes : List Byte) (s : State) :
    Host.Outcome State Fault Refusal :=
  .next (dictWriteCmd s w rq (decide (cell < 256)) (0x5400 + cell) 0x01 bytes)

/-- WEIGHT_LOAD (R135). -/
def execWeightLoad (w : At) (rq : Requester) (ctx : Nat) (bytes : List Byte) (s : State) :
    Host.Outcome State Fault Refusal :=
  .next (dictWriteCmd s w rq (decide (ctx < 4096)) (0x8000 + ctx) 0x02 bytes)

/-- LOAD_APPLY (R135). -/
def execLoadApply (w : At) (s : State) : Host.Outcome State Fault Refusal :=
  .next (shareDomains (onPart s w fun g d => if d.live then loadApplyAll g d else (g, d)))

/-- DELAY_SWAP (R134). -/
def execDelaySwap (w : At) (rq : Requester) (cell : Nat) (v : Nat) (s : State) : Host.Outcome State Fault Refusal :=
  .next (regWrite s w rq (decide (cell < 256)) (0x5400 + cell) 0x02 v)

/-- WEIGHT_SWAP (R134). -/
def execWeightSwap (w : At) (rq : Requester) (ctx : Nat) (v : Nat) (s : State) : Host.Outcome State Fault Refusal :=
  .next (regWrite s w rq (decide (ctx < 4096)) (0x8000 + ctx) 0x03 v)

/-- WEIGHT_HOT (R136). -/
def execWeightHot (w : At) (rq : Requester) (ctx : Nat) (bytes : List Byte) (s : State) :
    Host.Outcome State Fault Refusal :=
  .next (dictWriteCmd s w rq (decide (ctx < 4096)) (0x8000 + ctx) 0x04 bytes)

/-- HOT_WRITE_APPLY (R136). -/
def execHotWriteApply (w : At) (cell : Nat) (s : State) : Host.Outcome State Fault Refusal :=
  .next (onLive s w fun d => hotApplyOp d cell)

/-- CB_CNT_CLEAR (R152). -/
def execCbCntClear (w : At) (rq : Requester) (v : Nat) (s : State) : Host.Outcome State Fault Refusal :=
  .next (regWrite s w rq (true) (0x5700) 0x07 v)

end Sys2Proof.Machine
end

