-- ==== Sys2Proof/Machine/ExecFaults.lean ====
section
/-! DEFINITION. Meanings of the commands of the fault collector, the ladder and the control pair (13). -/

namespace Sys2Proof.Machine

/-- FAULT_SIGNAL (R384). -/
def execFaultSignal (w : At) (src : Nat) (inst : Nat) (s : State) : Host.Outcome State Fault Refusal :=
  .next (faultSignalCmd s w src inst)

/-- RAIL_FAULT (R384). -/
def execRailFault (w : At) (src : Nat) (s : State) : Host.Outcome State Fault Refusal :=
  .next (onStrandPkg s w fun g d => railFaultOp g d src)

/-- LADDER_STEP_DONE (R402). -/
def execLadderStepDone (w : At) (fn : Nat) (inst : Nat) (s : State) : Host.Outcome State Fault Refusal :=
  .next (onStrand s w fun d => ladderDoneOp d fn inst)

/-- LADDER_CLEAN_EXPIRE (R402). -/
def execLadderCleanExpire (w : At) (fn : Nat) (inst : Nat) (s : State) : Host.Outcome State Fault Refusal :=
  .next (onStrand s w fun d => ladderCleanOp d fn inst)

/-- FAULT_GROUP_ACK (R387). -/
def execFaultGroupAck (w : At) (rq : Requester) (group : Nat) (v : Nat) (s : State) :
    Host.Outcome State Fault Refusal :=
  .next (regWrite s w rq (decide (group < 256)) (0x2801) group v)

/-- FAULT_CFG (R386). -/
def execFaultCfg (w : At) (rq : Requester) (src : Nat) (v : Nat) (s : State) : Host.Outcome State Fault Refusal :=
  .next (regWrite s w rq (decide (src < 256)) (0x2810) src v)

/-- FAULT_REACT (R388). -/
def execFaultReact (w : At) (rq : Requester) (group : Nat) (sev : Nat) (v : Nat) (s : State) :
    Host.Outcome State Fault Refusal :=
  .next (regWrite s w rq (decide (group < 12) && decide (sev < 256)) (0x2820 + group) sev v)

/-- FAULT_WIRE_RETEST (R384). -/
def execFaultWireRetest (w : At) (rq : Requester) (v : Nat) (s : State) : Host.Outcome State Fault Refusal :=
  .next (regWrite s w rq (true) (0x2800) 0x05 v)

/-- FAULT_FIRST_CLEAR (R391). -/
def execFaultFirstClear (w : At) (rq : Requester) (v : Nat) (s : State) : Host.Outcome State Fault Refusal :=
  .next (regWrite s w rq (true) (0x2800) 0x04 v)

/-- FAULT_CNT_CLEAR (R409). -/
def execFaultCntClear (w : At) (rq : Requester) (v : Nat) (s : State) : Host.Outcome State Fault Refusal :=
  .next (regWrite s w rq (true) (0x2831) 0x01 v)

/-- ERR_N_RELEASE (R390). -/
def execErrNRelease (w : At) (rq : Requester) (v : Nat) (s : State) : Host.Outcome State Fault Refusal :=
  .next (regWrite s w rq (true) (0x2840) 0x02 v)

/-- ERR_N_MIN_EXPIRE (R390). -/
def execErrNMinExpire (w : At) (s : State) : Host.Outcome State Fault Refusal :=
  .next (onStrand s w fun d => errMinOp d)

/-- CTRL_MISCOMPARE (R395). -/
def execCtrlMiscompare (w : At) (fail0 : Bool) (fail1 : Bool) (s : State) : Host.Outcome State Fault Refusal :=
  .next (onLive s w fun d => miscompareOp d fail0 fail1)

/-- CTRL_AUDIT (R396). -/
def execCtrlAudit (w : At) (pass0 : Bool) (pass1 : Bool) (s : State) : Host.Outcome State Fault Refusal :=
  .next (onLive s w fun d => auditOp d pass0 pass1)

/-- CTRL_CHECK_FAIL (R397). -/
def execCtrlCheckFail (w : At) (unit : Nat) (s : State) : Host.Outcome State Fault Refusal :=
  .next (onLive s w fun d => checkFailOp d unit)

/-- CTRL_SELFTEST (R397). -/
def execCtrlSelftest (w : At) (pass : Bool) (s : State) : Host.Outcome State Fault Refusal :=
  .next (onLive s w fun d => selfTestOp d pass)

/-- CTRL_UNIT_TEST_DONE (R398); in a strand reset both units are tested (R399). -/
def execCtrlUnitTestDone (w : At) (unit : Nat) (pass : Bool) (s : State) : Host.Outcome State Fault Refusal :=
  .next (onStrand s w fun d => if d.inReset || d.live then unitTestOp d unit pass else d)

/-- CTRL_REINTEG_START (R398). -/
def execCtrlReintegStart (w : At) (rq : Requester) (v : Nat) (s : State) : Host.Outcome State Fault Refusal :=
  .next (regWrite s w rq (true) (0x2850) 0x04 v)

/-- CTRL_REINTEG_COPY_DONE (R398). -/
def execCtrlReintegCopyDone (w : At) (s : State) : Host.Outcome State Fault Refusal :=
  .next (onLive s w fun d => copyDoneOp d)

/-- SIMPLEX_AUDIT (R399). -/
def execSimplexAudit (w : At) (pass : Bool) (s : State) : Host.Outcome State Fault Refusal :=
  .next (onLive s w fun d => simplexAuditOp d pass)

/-- SAFE_ENTER (R400). -/
def execSafeEnter (w : At) (rq : Requester) (v : Nat) (s : State) : Host.Outcome State Fault Refusal :=
  .next (regWrite s w rq (true) (0x2850) 0x07 v)

/-- STRAND_RESET_REQ (R401). -/
def execStrandResetReq (w : At) (rq : Requester) (v : Nat) (s : State) : Host.Outcome State Fault Refusal :=
  .next (regWrite s w rq (true) (0x2850) 0x08 v)

/-- STRAND_RESET (R401). -/
def execStrandReset (w : At) (s : State) : Host.Outcome State Fault Refusal :=
  .next (onStrand s w fun d => strandResetOp d)

/-- STRAND_UP (R401). -/
def execStrandUp (w : At) (s : State) : Host.Outcome State Fault Refusal :=
  .next (onStrandPkg s w fun g d => strandUpOp g d)

/-- DEVICE_RESET_REQ (R404). -/
def execDeviceResetReq (w : At) (rq : Requester) (v : Nat) (s : State) : Host.Outcome State Fault Refusal :=
  .next (regWrite s w rq (true) (0x2850) 0x09 v)

/-- DEVICE_RESET (R421). -/
def execDeviceReset (straps : Straps) (s : State) : Host.Outcome State Fault Refusal :=
  .next (deviceResetOp s straps)

/-- RETEST_CELL_DOMAIN (R406). -/
def execRetestCellDomain (w : At) (rq : Requester) (v : Nat) (s : State) : Host.Outcome State Fault Refusal :=
  .next (regWrite s w rq (true) (0x2870) 0x01 v)

/-- RETEST_LANE_GROUP (R407). -/
def execRetestLaneGroup (w : At) (rq : Requester) (v : Nat) (s : State) : Host.Outcome State Fault Refusal :=
  .next (regWrite s w rq (true) (0x2870) 0x02 v)

/-- CELL_SELFTEST_DONE (R406). -/
def execCellSelftestDone (w : At) (p : Nat) (pass : Bool) (s : State) : Host.Outcome State Fault Refusal :=
  .next (onStrand s w fun d => cellTestOp d p pass)

end Sys2Proof.Machine
end

