-- ==== Sys2Proof/Machine/ExecHost.lean ====
section
/-! DEFINITION. Meanings of the commands of the host port, its queues and DMA (11). -/

namespace Sys2Proof.Machine

/-- WIN_GO (R330). -/
def execWinGo (w : At) (pf4 : Bool) (v : Nat) (s : State) : Host.Outcome State Fault Refusal :=
  .next (shareDomains (if pf4 then onPart s (atZero w) fun g d => winGo4Op g d v else onPart s w fun g d => winGoOp g d v))

/-- WINDOW_ACCESS_DONE (R330). -/
def execWindowAccessDone (w : At) (pf4 : Bool) (s : State) : Host.Outcome State Fault Refusal :=
  .next (if pf4 then onPart s (atZero w) fun g d => (winDone4Op g d, d) else onStrandPkg s w fun g d => winDoneOp g d)

/-- WIN_REG_WRITE (R330). -/
def execWinRegWrite (w : At) (pf4 : Bool) (off : Nat) (v : Nat) (s : State) : Host.Outcome State Fault Refusal :=
  .next (shareDomains (if pf4 then onPart s (atZero w) fun g d => bar0Write4 g d off v
    else onPart s w fun g d => bar0Write g d off v))

/-- CMDQ_DB (R334). -/
def execCmdqDb (w : At) (v : Nat) (s : State) : Host.Outcome State Fault Refusal :=
  .next (onStrandPkg s w fun g d => cmdqDbOp g d v)

/-- CMD_FETCH (R334). -/
def execCmdFetch (w : At) (desc : List Byte) (s : State) : Host.Outcome State Fault Refusal :=
  .next (onStrandPkg s w fun g d => cmdFetchOp g d desc)

/-- NOP (R333). -/
def execNop (w : At) (s : State) : Host.Outcome State Fault Refusal :=
  .next (onStrand s w fun d => cmdNopOp d)

/-- DICT_WRITE (R333). -/
def execDictWrite (w : At) (host : HostRead) (s : State) : Host.Outcome State Fault Refusal :=
  .next (shareDomains (onPart s w fun g d => cmdWriteOp g d host))

/-- DICT_READ (R333). -/
def execDictRead (w : At) (hostOk : Bool) (s : State) : Host.Outcome State Fault Refusal :=
  .next (onStrandPkg s w fun g d => cmdReadOp g d hostOk)

/-- PLAN_LOAD_DMA (R333). -/
def execPlanLoadDma (w : At) (host : HostRead) (s : State) : Host.Outcome State Fault Refusal :=
  .next (onStrand s w fun d => cmdPlanOp d host)

/-- DICT_DESCRIBE (R333). -/
def execDictDescribe (w : At) (hostOk : Bool) (s : State) : Host.Outcome State Fault Refusal :=
  .next (onStrand s w fun d => cmdDescribeOp d hostOk)

/-- COMMAND_COMPLETE (R335). -/
def execCommandComplete (w : At) (s : State) : Host.Outcome State Fault Refusal :=
  .next (onStrandPkg s w fun g d => cmdCompleteOp g d)

/-- CMDQ_ENABLE (R335). -/
def execCmdqEnable (w : At) (rq : Requester) (v : Nat) (s : State) : Host.Outcome State Fault Refusal :=
  .next (regWrite s w rq (true) (0x1100) 0x03 v)

/-- EVQ_DB (R336). -/
def execEvqDb (w : At) (v : Nat) (s : State) : Host.Outcome State Fault Refusal :=
  .next (onStrandPkg s w fun g d => evqDbOp g d v)

/-- EVQ_ENABLE (R336). -/
def execEvqEnable (w : At) (rq : Requester) (v : Nat) (s : State) : Host.Outcome State Fault Refusal :=
  .next (regWrite s w rq (true) (0x1101) 0x03 v)

/-- DMA_PACKET_TRANSFER (R341). -/
def execDmaPacketTransfer (w : At) (ch : Nat) (creditStall : Bool) (s : State) : Host.Outcome State Fault Refusal :=
  .next (onLivePkg s w fun g d => dmaTransferOp g d ch creditStall)

/-- DMA_CQ_DB (R341). -/
def execDmaCqDb (w : At) (ch : Nat) (v : Nat) (s : State) : Host.Outcome State Fault Refusal :=
  .next (onStrandPkg s w fun g d => onMatrix g d (0x1040 + 4 * ch) fun d => dmaCqOp d ch v)

/-- DMA_INT_HOLD (R341). -/
def execDmaIntHold (w : At) (ch : Nat) (s : State) : Host.Outcome State Fault Refusal :=
  .next (onLive s w fun d => dmaHoldOp d ch)

/-- DMA_CFG (R343). -/
def execDmaCfg (w : At) (rq : Requester) (ch : Nat) (v : Nat) (s : State) : Host.Outcome State Fault Refusal :=
  .next (regWrite s w rq (decide (ch < 16)) (0x7000 + ch) 0x01 v)

/-- DMA_DISABLE (R343). -/
def execDmaDisable (w : At) (ch : Nat) (s : State) : Host.Outcome State Fault Refusal :=
  .next (onLive s w fun d => dmaDisableOp d ch)

/-- CREDIT_STALL (R344). -/
def execCreditStall (w : At) (ch : Nat) (s : State) : Host.Outcome State Fault Refusal :=
  .next (onLive s w fun d => creditStallOp d ch)

/-- FLR (R339). -/
def execFlr (w : At) (pf4 : Bool) (s : State) : Host.Outcome State Fault Refusal :=
  .next (onPart s w fun g d => if pf4 then (g.flr4, d) else (g, flrOp d))

/-- PE_PERST_N (R437). -/
def execPePerstN (s : State) : Host.Outcome State Fault Refusal :=
  .next (perstOp s)

/-- HP_LINK_DOWN (R351). -/
def execHpLinkDown (s : State) : Host.Outcome State Fault Refusal :=
  .next (linkDownOp s)

/-- BAR4_READ (R328). -/
def execBar4Read (w : At) (off : Nat) (len : Nat) (s : State) : Host.Outcome State Fault Refusal :=
  .next (onStrandPkg s w fun g d => bar4Op g d off len)

/-- SM_DECODE_MISS (R347). -/
def execSmDecodeMiss (w : At) (master : Nat) (addr : Nat) (s : State) : Host.Outcome State Fault Refusal :=
  .next (onLive s w fun d => decodeMissOp (masterError d master) master addr)

/-- SM_TIMEOUT (R347). -/
def execSmTimeout (w : At) (master : Nat) (target : Nat) (addr : Nat) (s : State) : Host.Outcome State Fault Refusal :=
  .next (onLive s w fun d => smTimeoutOp d master target addr)

/-- HP_LINK_UP (R344). -/
def execHpLinkUp (speed : Nat) (width : Nat) (s : State) : Host.Outcome State Fault Refusal :=
  .next (linkUpOp s speed width)

/-- PE_PERST_N_RELEASE (R437). -/
def execPePerstNRelease (s : State) : Host.Outcome State Fault Refusal :=
  .next (perstReleaseOp s)

end Sys2Proof.Machine
end

