-- ==== Sys2Proof/Machine/ExecLanes.lean ====
section
/-! DEFINITION. Meanings of the commands of lanes and links (09). -/

namespace Sys2Proof.Machine

/-- LANE_CFG (R267). -/
def execLaneCfg (w : At) (rq : Requester) (lane : Nat) (v : Nat) (s : State) : Host.Outcome State Fault Refusal :=
  .next (regWrite s w rq (decide (lane < 256)) (0x3000) lane v)

/-- ETH_PORT_CFG (R290). -/
def execEthPortCfg (w : At) (rq : Requester) (port : Nat) (bytes : List Byte) (s : State) :
    Host.Outcome State Fault Refusal :=
  .next (dictWriteCmd s w rq (decide (port < 256)) (0x3400) port bytes)

/-- ETH_FLOW (R291). -/
def execEthFlow (w : At) (rq : Requester) (flow : Nat) (bytes : List Byte) (s : State) :
    Host.Outcome State Fault Refusal :=
  .next (dictWriteCmd s w rq (decide (flow < 256)) (0x3500 + flow) 0x01 bytes)

/-- JESD_CFG (R297). -/
def execJesdCfg (w : At) (rq : Requester) (link : Nat) (bytes : List Byte) (s : State) :
    Host.Outcome State Fault Refusal :=
  .next (dictWriteCmd s w rq (decide (link < 256)) (0x3600) link bytes)

/-- BOND_CFG (R280). -/
def execBondCfg (w : At) (rq : Requester) (bond : Nat) (v : Nat) (s : State) : Host.Outcome State Fault Refusal :=
  .next (regWrite s w rq (decide (bond < 256)) (0x3003) bond v)

/-- TIME_PER_S (R300). -/
def execTimePerS (w : At) (rq : Requester) (v : Nat) (s : State) : Host.Outcome State Fault Refusal :=
  .next (regWrite s w rq (true) (0x3004) 0x02 v)

/-- LOOPBACK (R271). -/
def execLoopback (w : At) (rq : Requester) (n : Nat) (v : Nat) (s : State) : Host.Outcome State Fault Refusal :=
  .next (regWrite s w rq (decide (n < 64)) (0x3100 + n) 0x0A v)

/-- TEST_PATTERN (R271). -/
def execTestPattern (w : At) (rq : Requester) (n : Nat) (v : Nat) (s : State) : Host.Outcome State Fault Refusal :=
  .next (regWrite s w rq (decide (n < 64)) (0x3100 + n) 0x0B v)

/-- LANE_CNT_CLEAR (R300). -/
def execLaneCntClear (w : At) (rq : Requester) (n : Nat) (v : Nat) (s : State) : Host.Outcome State Fault Refusal :=
  .next (regWrite s w rq (decide (n < 64)) (0x3100 + n) 0x0D v)

/-- SPARE_SELFTEST (R271). -/
def execSpareSelftest (w : At) (pair : Nat) (errors : Nat) (trained : Bool) (s : State) :
    Host.Outcome State Fault Refusal :=
  .next (onLivePkg s w fun g d => refsRecheck g (spareTestOp d pair errors trained))

/-- LOS_DETECT (R269). -/
def execLosDetect (w : At) (n : Nat) (s : State) : Host.Outcome State Fault Refusal :=
  .next (onLivePkg s w fun g d => refsRecheck g (losDetectOp d n))

/-- LOS_CLEAR (R269). -/
def execLosClear (w : At) (n : Nat) (s : State) : Host.Outcome State Fault Refusal :=
  .next (onLive s w fun d => losClearOp d n)

/-- CDR_LOCK_LOSS (R269). -/
def execCdrLockLoss (w : At) (n : Nat) (s : State) : Host.Outcome State Fault Refusal :=
  .next (onLivePkg s w fun g d => refsRecheck g (lolOp d n))

/-- LANE_TRAIN_DONE (R269). -/
def execLaneTrainDone (w : At) (n : Nat) (s : State) : Host.Outcome State Fault Refusal :=
  .next (onLivePkg s w fun g d => refsRecheck g (laneTrainedOp d n))

/-- CODEWORD_RX (R272). -/
def execCodewordRx (w : At) (n : Nat) (dec : CwDecode) (seq : Nat) (s : State) : Host.Outcome State Fault Refusal :=
  .next (onLivePkg s w fun g d => refsRecheck g (codewordIn d n dec seq))

/-- LANE_BER_CHECK (R270). -/
def execLaneBerCheck (w : At) (n : Nat) (s : State) : Host.Outcome State Fault Refusal :=
  .next (onLivePkg s w fun g d => refsRecheck g (berCheckOp d n))

/-- AGUSH_FRAME_RX (R274). -/
def execAgushFrameRx (w : At) (n : Nat) (overlapsBad : Bool) (bytes : List Byte) (s : State) :
    Host.Outcome State Fault Refusal :=
  .next (onLivePkg s w fun g d => frameRxOp g d n overlapsBad bytes)

/-- IDLE (R277). -/
def execIdle (w : At) (n : Nat) (body : List Byte) (s : State) : Host.Outcome State Fault Refusal :=
  .next (onLivePkg s w fun g d => bodyRxOp g d n 0 16 body)

/-- SUM (R276). -/
def execSum (w : At) (n : Nat) (body : List Byte) (s : State) : Host.Outcome State Fault Refusal :=
  .next (onLivePkg s w fun g d => sumBodyOp g d n body)

/-- TRIG (R279). -/
def execTrig (w : At) (n : Nat) (body : List Byte) (s : State) : Host.Outcome State Fault Refusal :=
  .next (onLivePkg s w fun g d => bodyRxOp g d n 3 32 body)

/-- TIME (R283). -/
def execTime (w : At) (n : Nat) (body : List Byte) (s : State) : Host.Outcome State Fault Refusal :=
  .next (onLivePkg s w fun g d => bodyRxOp g d n 4 32 body)

/-- TIME_FRAME_TX (R278). -/
def execTimeFrameTx (w : At) (n : Nat) (s : State) : Host.Outcome State Fault Refusal :=
  .next (onLivePkg s w fun g d => timeTxOp g d n)

/-- IDLE_FRAME_FORCE (R277). -/
def execIdleFrameForce (w : At) (n : Nat) (s : State) : Host.Outcome State Fault Refusal :=
  .next (onLivePkg s w fun g d => idleForceOp g d n)

/-- BOND_SEQ_TIMEOUT (R280). -/
def execBondSeqTimeout (w : At) (bond : Nat) (s : State) : Host.Outcome State Fault Refusal :=
  .next (onLivePkg s w fun g d => bondTimeoutOp g d bond)

/-- BOND_DEGRADED (R280). -/
def execBondDegraded (w : At) (bond : Nat) (lane : Nat) (s : State) : Host.Outcome State Fault Refusal :=
  .next (onLivePkg s w fun g d => refsRecheck g (bondDegradedOp d bond lane))

/-- EI_ENTER (R268). -/
def execEiEnter (w : At) (n : Nat) (s : State) : Host.Outcome State Fault Refusal :=
  .next (onLivePkg s w fun g d => eiEnterOp g d n)

/-- EI_EXIT (R268). -/
def execEiExit (w : At) (n : Nat) (s : State) : Host.Outcome State Fault Refusal :=
  .next (onLive s w fun d => eiExitOp d n)

/-- LANE_SWAP_REQUEST (R285). -/
def execLaneSwapRequest (w : At) (rq : Requester) (v : Nat) (s : State) : Host.Outcome State Fault Refusal :=
  .next (regWrite s w rq (true) (0x3002) 0x01 v)

/-- LANE_SWAP_START (R286). -/
def execLaneSwapStart (w : At) (lane : Nat) (s : State) : Host.Outcome State Fault Refusal :=
  .next (onLivePkg s w fun g d => swapStartOp g d lane)

/-- SWAP_SWITCH (R286). -/
def execSwapSwitch (w : At) (lane : Nat) (s : State) : Host.Outcome State Fault Refusal :=
  .next (onLivePkg s w fun g d => refsRecheck g (swapSwitchOp d lane))

/-- SWAP_OLD_PAIR_STOP (R286). -/
def execSwapOldPairStop (w : At) (lane : Nat) (s : State) : Host.Outcome State Fault Refusal :=
  .next (onLive s w fun d => swapStopOp d lane)

/-- SWAP_TIMEOUT (R287). -/
def execSwapTimeout (w : At) (lane : Nat) (s : State) : Host.Outcome State Fault Refusal :=
  .next (onLivePkg s w fun g d => refsRecheck g (swapTimeoutOp d lane))

/-- ETH_FRAME_RX (R289). -/
def execEthFrameRx (w : At) (port : Nat) (frame : List Byte) (s : State) : Host.Outcome State Fault Refusal :=
  .next (onLive s w fun d => ethRxOp d port frame)

/-- ETH_LANE_SWAP (R294). -/
def execEthLaneSwap (w : At) (port : Nat) (lane : Nat) (s : State) : Host.Outcome State Fault Refusal :=
  .next (onLivePkg s w fun g d => refsRecheck g (ethSwapOp d port lane))

/-- ETH_LINK_DOWN (R294). -/
def execEthLinkDown (w : At) (port : Nat) (s : State) : Host.Outcome State Fault Refusal :=
  .next (onLivePkg s w fun g d => refsRecheck g (ethDownOp d port))

/-- ETH_LINK_UP (R294). -/
def execEthLinkUp (w : At) (port : Nat) (s : State) : Host.Outcome State Fault Refusal :=
  .next (onLive s w fun d => ethUpOp d port)

/-- JESD_LEMC_EDGE (R297). -/
def execJesdLemcEdge (w : At) (link : Nat) (edge : Nat) (samples : List Byte) (s : State) :
    Host.Outcome State Fault Refusal :=
  .next (onLive s w fun d => jesdEdgeOp d link edge samples)

/-- JESD_LINK_DOWN (R298). -/
def execJesdLinkDown (w : At) (link : Nat) (s : State) : Host.Outcome State Fault Refusal :=
  .next (onLive s w fun d => jesdDownOp d link)

/-- JESD_CRC (R298). -/
def execJesdCrc (w : At) (link : Nat) (s : State) : Host.Outcome State Fault Refusal :=
  .next (onLive s w fun d => jesdCrcOp d link)

/-- JESD_LINK_UP (R298). -/
def execJesdLinkUp (w : At) (link : Nat) (s : State) : Host.Outcome State Fault Refusal :=
  .next (onLive s w fun d => jesdUpOp d link)

/-- TRAINING_BURST_RX (R268). -/
def execTrainingBurstRx (w : At) (n : Nat) (relocked : Bool) (idleUs : Nat) (s : State) :
    Host.Outcome State Fault Refusal :=
  .next (onLivePkg s w fun g d => refsRecheck g (burstOp d n relocked idleUs))

/-- LANE_PRBS_TEST_DONE (R407). -/
def execLanePrbsTestDone (w : At) (pair : Nat) (errors : Nat) (pass : Bool) (s : State) :
    Host.Outcome State Fault Refusal :=
  .next (onLivePkg s w fun g d => refsRecheck g (prbsDoneOp d pair errors pass))

end Sys2Proof.Machine
end

