-- ==== Sys2Proof/Machine/ExecManagement.lean ====
section
/-! DEFINITION. Meanings of the commands of the sage, the Lanyard, the dictionary and protection (12). -/

namespace Sys2Proof.Machine

/-- REGISTER_WRITE (R371). -/
def execRegisterWrite (w : At) (rq : Requester) (index : Nat) (sub : Nat) (bytes : List Byte) (s : State) :
    Host.Outcome State Fault Refusal :=
  .next (dictWriteCmd s w rq true index sub bytes)

/-- SAGE_WATCHDOG (R353). -/
def execSageWatchdog (w : At) (s : State) : Host.Outcome State Fault Refusal :=
  .next (onStrandPkg s w fun g d => sageWatchdogOp g d)

/-- SAGE_PATCH (R354). -/
def execSagePatch (w : At) (rq : Requester) (slot : Nat) (bytes : List Byte) (s : State) :
    Host.Outcome State Fault Refusal :=
  .next (dictWriteCmd s w rq (decide (slot < 256)) (0x10C0) slot bytes)

/-- OTP_BURN_DONE (R370). -/
def execOtpBurnDone (w : At) (ok : Bool) (s : State) : Host.Outcome State Fault Refusal :=
  .next (burnDoneOp s w ok)

/-- LYD_FRAME_FORWARD (R358). -/
def execLydFrameForward (w : At) (port : Nat) (aborted : Bool) (bytes : List Byte) (s : State) :
    Host.Outcome State Fault Refusal :=
  .next (if s.pkg.inHold then nodeBypass s w port aborted bytes
    else shareDomains (onPart s w fun g d => frameArriveOp g d port aborted bytes))

/-- READ (R357). -/
def execRead (w : At) (port : Nat) (f : LydFrame) (s : State) : Host.Outcome State Fault Refusal :=
  .next (onPart s w fun g d => requestOp g d port { f with type := 1 })

/-- DESCRIBE (R372). -/
def execDescribe (w : At) (port : Nat) (f : LydFrame) (s : State) : Host.Outcome State Fault Refusal :=
  .next (onPart s w fun g d => requestOp g d port { f with type := 3 })

/-- BCAST_WRITE (R360). -/
def execBcastWrite (w : At) (port : Nat) (f : LydFrame) (s : State) : Host.Outcome State Fault Refusal :=
  .next (shareDomains (onPart s w fun g d => bcastOp g d port { f with type := 4 }))

/-- ENUM (R363). -/
def execEnum (w : At) (f : LydFrame) (s : State) : Host.Outcome State Fault Refusal :=
  .next (onPart s w fun g d => enumOp g d { f with type := 5 })

/-- ENUM_REPORT (R363). -/
def execEnumReport (w : At) (f : LydFrame) (s : State) : Host.Outcome State Fault Refusal :=
  .next (onPart s w fun g d => enumReportOp g d { f with type := 6 })

/-- BEACON (R365). -/
def execBeacon (w : At) (port : Nat) (f : LydFrame) (s : State) : Host.Outcome State Fault Refusal :=
  .next (onPart s w fun g d => beaconOp g d port { f with type := 7 })

/-- ENUM_START (R363). -/
def execEnumStart (w : At) (s : State) : Host.Outcome State Fault Refusal :=
  .next (onPart s w fun g d => enumStartOp g d)

/-- LYD_ENUM_START (R363). -/
def execLydEnumStart (w : At) (rq : Requester) (v : Nat) (s : State) : Host.Outcome State Fault Refusal :=
  .next (regWrite s w rq (true) (0x1140) 0x06 v)

/-- UNASSIGNED_REPORT_TX (R363). -/
def execUnassignedReportTx (w : At) (s : State) : Host.Outcome State Fault Refusal :=
  .next (onPart s w fun g d => unassignedReportOp g d)

/-- BEACON_TX (R365). -/
def execBeaconTx (w : At) (s : State) : Host.Outcome State Fault Refusal :=
  .next (onPart s w fun g d => beaconTxOp g d)

/-- NO_HEAD_TIMEOUT (R366). -/
def execNoHeadTimeout (w : At) (s : State) : Host.Outcome State Fault Refusal :=
  .next (onStrandPkg s w fun g d => noHeadOp g d)

/-- LYD_LINK_DOWN (R355). -/
def execLydLinkDown (w : At) (port : Nat) (s : State) : Host.Outcome State Fault Refusal :=
  .next (onPart s w fun g d => lydDownOp g d port)

/-- LOCAL_DEVICE_ID (R362). -/
def execLocalDeviceId (w : At) (rq : Requester) (v : Nat) (s : State) : Host.Outcome State Fault Refusal :=
  .next (regWrite s w rq (true) (0x1081) 0x01 v)

/-- PROT_ENTRY (R375). -/
def execProtEntry (w : At) (rq : Requester) (n : Nat) (v : Nat) (s : State) : Host.Outcome State Fault Refusal :=
  .next (regWrite s w rq (decide (n < 256)) (0x1200) n v)

/-- PROT_TABLE (R375). -/
def execProtTable (w : At) (rq : Requester) (bytes : List Byte) (s : State) : Host.Outcome State Fault Refusal :=
  .next (dictWriteCmd s w rq (true) (0x1201) 0x01 bytes)

/-- CHALLENGE (R379). -/
def execChallenge (w : At) (rq : Requester) (s : State) : Host.Outcome State Fault Refusal :=
  .next (dictReadCmd s w rq 0x1210 0x01 16)

/-- RESPONSE (R379). -/
def execResponse (w : At) (rq : Requester) (bytes : List Byte) (s : State) : Host.Outcome State Fault Refusal :=
  .next (dictWriteCmd s w rq (true) (0x1210) 0x02 bytes)

/-- LEVEL0_RELEASE (R378). -/
def execLevel0Release (w : At) (rq : Requester) (v : Nat) (s : State) : Host.Outcome State Fault Refusal :=
  .next (regWrite s w rq (true) (0x1210) 0x03 v)

/-- SESSION_IDLE_TIMEOUT (R378). -/
def execSessionIdleTimeout (w : At) (rq : Requester) (s : State) : Host.Outcome State Fault Refusal :=
  .next (onStrand s w fun d => sessionIdleOp d rq)

/-- LOCKOUT_EXPIRE (R379). -/
def execLockoutExpire (w : At) (s : State) : Host.Outcome State Fault Refusal :=
  .next (onStrand s w fun d => lockoutExpireOp d)

/-- LEVEL0_KEY (R380). -/
def execLevel0Key (w : At) (rq : Requester) (bytes : List Byte) (s : State) : Host.Outcome State Fault Refusal :=
  .next (dictWriteCmd s w rq (true) (0x1211) 0x01 bytes)

/-- LANYARD_WRITE (R357). -/
def execLanyardWrite (w : At) (port : Nat) (f : LydFrame) (s : State) : Host.Outcome State Fault Refusal :=
  .next (shareDomains (onPart s w fun g d => requestOp g d port { f with type := 2 }))

/-- LYD_LINK_UP (R355). -/
def execLydLinkUp (w : At) (port : Nat) (s : State) : Host.Outcome State Fault Refusal :=
  .next (onPart s w fun g d => (lydUpOp g d port, d))

/-- DBG_FRAME (R438). -/
def execDbgFrame (w : At) (f : LydFrame) (s : State) : Host.Outcome State Fault Refusal :=
  .next (shareDomains (onPart s w fun g d => dbgFrameOp g d f))

end Sys2Proof.Machine
end

