-- ==== Sys2Proof/Machine/ExecPlans.lean ====
section
/-! DEFINITION. Meanings of the commands of plans, commits, hot patches and splices (06). -/

namespace Sys2Proof.Machine

/-- PLAN_LOAD (R165). -/
def execPlanLoad (w : At) (rq : Requester) (bytes : List Byte) (s : State) : Host.Outcome State Fault Refusal :=
  .next (dictWriteCmd s w rq (true) (0x6000) 0x01 bytes)

/-- PLAN_CHECK (R166). -/
def execPlanCheck (w : At) (rq : Requester) (v : Nat) (s : State) : Host.Outcome State Fault Refusal :=
  .next (regWrite s w rq (true) (0x6000) 0x02 v)

/-- PLAN_CHECK_DONE (R167). -/
def execPlanCheckDone (w : At) (s : State) : Host.Outcome State Fault Refusal :=
  .next (onLivePkg s w fun g d => planCheckDoneOp g d)

/-- PLAN_COMMIT (R174). -/
def execPlanCommit (w : At) (rq : Requester) (v : Nat) (s : State) : Host.Outcome State Fault Refusal :=
  .next (regWrite s w rq (true) (0x6000) 0x03 v)

/-- PLAN_CANCEL (R174). -/
def execPlanCancel (w : At) (rq : Requester) (v : Nat) (s : State) : Host.Outcome State Fault Refusal :=
  .next (regWrite s w rq (true) (0x6000) 0x04 v)

/-- CUTOVER_END (R177). -/
def execCutoverEnd (w : At) (cell : Nat) (s : State) : Host.Outcome State Fault Refusal :=
  .next (onLive s w fun d => cutoverEndOp d cell)

/-- PLAN_HOT_PATCH (R184). -/
def execPlanHotPatch (w : At) (rq : Requester) (bytes : List Byte) (s : State) : Host.Outcome State Fault Refusal :=
  .next (dictWriteCmd s w rq (true) (0x6000) 0x0C bytes)

/-- HOT_PATCH_APPLY (R184). -/
def execHotPatchApply (w : At) (s : State) : Host.Outcome State Fault Refusal :=
  .next (onLive s w fun d => hotPatchApplyOp d)

/-- SPLICE_REQUEST (R180). -/
def execSpliceRequest (w : At) (rq : Requester) (v : Nat) (s : State) : Host.Outcome State Fault Refusal :=
  .next (regWrite s w rq (true) (0x6002) 0x01 v)

/-- SPLICE_PREPARE_DONE (R181). -/
def execSplicePrepareDone (w : At) (p : Nat) (fail : Bool) (s : State) : Host.Outcome State Fault Refusal :=
  .next (onLive s w fun d => splicePrepareOp d p fail)

/-- SPLICE_TILE_COPY (R89). -/
def execSpliceTileCopy (w : At) (p : Nat) (item : Nat) (s : State) : Host.Outcome State Fault Refusal :=
  .next (onLive s w fun d => spliceTileOp d p item)

/-- SPLICE_RETIRE (R181). -/
def execSpliceRetire (w : At) (p : Nat) (s : State) : Host.Outcome State Fault Refusal :=
  .next (onLive s w fun d => spliceRetireOp d p)

end Sys2Proof.Machine
end

