-- ==== Sys2Proof/Machine/ExecPower.lean ====
section
/-! DEFINITION. Meanings of the commands of power, clocks, thermal control and the test pins (14, 15). -/

namespace Sys2Proof.Machine

/-- PWR_PHASE_FAIL (R408). -/
def execPwrPhaseFail (w : At) (reg : Nat) (domain : Nat) (currents : Currents) (s : State) :
    Host.Outcome State Fault Refusal :=
  .next (phaseFailCmd s w reg domain currents)

/-- DOMAIN_REQ (R412). -/
def execDomainReq (w : At) (rq : Requester) (domain : Nat) (v : Nat) (s : State) : Host.Outcome State Fault Refusal :=
  .next (regWrite s w rq (decide (domain < 256)) (0x2402) domain v)

/-- DOMAIN_WAKE (R412). -/
def execDomainWake (w : At) (domain : Nat) (s : State) : Host.Outcome State Fault Refusal :=
  .next (domainWakeCmd s w domain)

/-- DOMAIN_POWER_GOOD (R410). -/
def execDomainPowerGood (w : At) (domain : Nat) (us : Nat) (s : State) : Host.Outcome State Fault Refusal :=
  .next (domainGoodCmd s w domain us)

/-- DOMAIN_WAKE_TIMEOUT (R413). -/
def execDomainWakeTimeout (w : At) (domain : Nat) (s : State) : Host.Outcome State Fault Refusal :=
  .next (domainLateCmd s w domain)

/-- DOMAIN_POWER_LOSS (R413). -/
def execDomainPowerLoss (w : At) (domain : Nat) (s : State) : Host.Outcome State Fault Refusal :=
  .next (domainLossCmd s w domain)

/-- XIN_STATUS_CHANGE (R415). -/
def execXinStatusChange (v : Nat) (s : State) : Host.Outcome State Fault Refusal :=
  .next (xinOp s v)

/-- AOCLK_CAL (R414). -/
def execAoclkCal (w : At) (src : Nat) (ppm : Int) (s : State) : Host.Outcome State Fault Refusal :=
  .next (onPart s w fun g d => (aoclkOp g src ppm, d))

/-- FEED_OUT_OF_RANGE (R416). -/
def execFeedOutOfRange (feed : Feed) (s : State) : Host.Outcome State Fault Refusal :=
  .next (feedOutOp s feed)

/-- PWR_FEEDS_LOW (R417). -/
def execPwrFeedsLow (s : State) : Host.Outcome State Fault Refusal :=
  .next (feedsLowOp s)

/-- REGULATOR_SHUTDOWN (R417). -/
def execRegulatorShutdown (s : State) : Host.Outcome State Fault Refusal :=
  .next (regulatorOffOp s)

/-- THERM_SAMPLE (R419). -/
def execThermSample (w : At) (sensor : Nat) (temp : Int) (selfOk : Bool) (s : State) :
    Host.Outcome State Fault Refusal :=
  .next (onStrandPkg s w fun g d => thermSampleOp g d sensor temp selfOk)

/-- THERM_DOMAIN_SHUTDOWN (R420). -/
def execThermDomainShutdown (w : At) (domain : Nat) (s : State) : Host.Outcome State Fault Refusal :=
  .next (onStrand s w fun d => thermOffOp d domain)

/-- THERM_RESTART (R420). -/
def execThermRestart (w : At) (domain : Nat) (s : State) : Host.Outcome State Fault Refusal :=
  .next (onStrandPkg s w fun g d => thermRestartOp g d domain)

/-- STRAND_POWER (R423). -/
def execStrandPower (w : At) (rq : Requester) (v : Nat) (s : State) : Host.Outcome State Fault Refusal :=
  .next (regWrite s w rq (true) (0x2400) 0x01 v)

/-- POR_N_RELEASE (R422). -/
def execPorNRelease (straps : Straps) (s : State) : Host.Outcome State Fault Refusal :=
  .next (porReleaseOp s straps)

/-- PWR_EN_FALL (R437). -/
def execPwrEnFall (lowNs : Nat) (s : State) : Host.Outcome State Fault Refusal :=
  .next (pwrEnFallOp s lowNs)

/-- TEST_EN (R438). -/
def execTestEn (high : Bool) (s : State) : Host.Outcome State Fault Refusal :=
  .next (testEnOp s high)

/-- EXTEST (R438). -/
def execExtest (s : State) : Host.Outcome State Fault Refusal :=
  .next (jtagOp s extestOp)

/-- IDCODE (R438). -/
def execIdcode (s : State) : Host.Outcome State Fault Refusal :=
  .next (jtagOp s (idcodeOp s.st0))

/-- SAMPLE_PRELOAD (R438). -/
def execSamplePreload (pins : Nat) (preload : Nat) (s : State) : Host.Outcome State Fault Refusal :=
  .next (jtagOp s (samplePreloadOp pins preload))

/-- BYPASS (R438). -/
def execBypass (s : State) : Host.Outcome State Fault Refusal :=
  .next (jtagOp s bypassOp)

/-- PWR_EN_RISE (R437). -/
def execPwrEnRise (feedInRange : Bool) (s : State) : Host.Outcome State Fault Refusal :=
  .next (pwrEnRiseOp s feedInRange)

/-- FEED_IN_RANGE (R416). -/
def execFeedInRange (feed : Feed) (s : State) : Host.Outcome State Fault Refusal :=
  .next (feedInOp s feed)

end Sys2Proof.Machine
end

