-- ==== Sys2Proof/Machine/ExecQueues.lean ====
section
/-! DEFINITION. Meanings of the commands of the store, queues, outputs and snaps (07). -/

namespace Sys2Proof.Machine

/-- STORE_SCRUB (R208). -/
def execStoreScrub (w : At) (word : Nat) (found : EccFind) (s : State) : Host.Outcome State Fault Refusal :=
  .next (onStrand s w fun d => if d.live || decide (d.sleep = 1) then storeScrubOp d word found else d)

/-- SOFT_REPAIR_SWITCH (R209). -/
def execSoftRepairSwitch (w : At) (s : State) : Host.Outcome State Fault Refusal :=
  .next (onLive s w fun d => repairSwitchOp d)

/-- OUTPUT_TURN (R224). -/
def execOutputTurn (w : At) (out : OutId) (s : State) : Host.Outcome State Fault Refusal :=
  .next (onLive s w fun d => turnOp d out)

/-- PACKET_TX_DONE (R218). -/
def execPacketTxDone (w : At) (out : OutId) (s : State) : Host.Outcome State Fault Refusal :=
  .next (onLive s w fun d => packetDoneOp d out)

/-- QUEUE_STALL (R227). -/
def execQueueStall (w : At) (out : OutId) (s : State) : Host.Outcome State Fault Refusal :=
  .next (onLive s w fun d => stallOp d out)

/-- QUEUE_READ (R233). -/
def execQueueRead (w : At) (rq : Requester) (s : State) : Host.Outcome State Fault Refusal :=
  .next (dictReadCmd s w rq 0x6821 0x02 256)

/-- SNAP_CAPTURE (R231). -/
def execSnapCapture (w : At) (rq : Requester) (v : Nat) (s : State) : Host.Outcome State Fault Refusal :=
  .next (regWrite s w rq (true) (0x6822) 0x01 v)

/-- SNAP_BLOCK_QUEUE (R232). -/
def execSnapBlockQueue (w : At) (group : Nat) (stream : Nat) (blk : Nat) (s : State) :
    Host.Outcome State Fault Refusal :=
  .next (onLivePkg s w fun g d => snapBlockOp g d group stream blk)

/-- BSQ_CNT_CLEAR (R233). -/
def execBsqCntClear (w : At) (rq : Requester) (v : Nat) (s : State) : Host.Outcome State Fault Refusal :=
  .next (regWrite s w rq (true) (0x6823) 0x01 v)

end Sys2Proof.Machine
end

