-- ==== Sys2Proof/Machine/ExecTiming.lean ====
section
/-! DEFINITION. Meanings of the commands of time, references and epochs (10). -/

namespace Sys2Proof.Machine

/-- REF_CFG (R307). -/
def execRefCfg (w : At) (rq : Requester) (n : Nat) (v : Nat) (s : State) : Host.Outcome State Fault Refusal :=
  .next (regWrite s w rq (decide (n < 256)) (0x2001) n v)

/-- QUAL_HOLDOFF_MS (R308). -/
def execQualHoldoffMs (w : At) (rq : Requester) (v : Nat) (s : State) : Host.Outcome State Fault Refusal :=
  .next (regWrite s w rq (true) (0x2005) 0x01 v)

/-- REF_QUALIFY (R308). -/
def execRefQualify (w : At) (n : Nat) (s : State) : Host.Outcome State Fault Refusal :=
  .next (onLivePkg s w fun g d => refQualifyOp g d n)

/-- REF_BREAK (R308). -/
def execRefBreak (w : At) (n : Nat) (s : State) : Host.Outcome State Fault Refusal :=
  .next (onLivePkg s w fun g d => refBreakOp g d n)

/-- FREQ_MEASURE_END (R308). -/
def execFreqMeasureEnd (w : At) (n : Nat) (ppb : Int) (s : State) : Host.Outcome State Fault Refusal :=
  .next (onLivePkg s w fun g d => freqMeasureOp g d n ppb)

/-- REF10_EDGE (R306). -/
def execRef10Edge (w : At) (n : Nat) (phase : Int) (s : State) : Host.Outcome State Fault Refusal :=
  .next (onLivePkg s w fun g d => ref10Op g d n phase)

/-- PPS_EDGE (R306). -/
def execPpsEdge (w : At) (n : Nat) (phase : Int) (s : State) : Host.Outcome State Fault Refusal :=
  .next (onLivePkg s w fun g d => ppsOp g d n phase)

/-- TOD_LOAD (R309). -/
def execTodLoad (w : At) (rq : Requester) (v : Nat) (s : State) : Host.Outcome State Fault Refusal :=
  .next (regWrite s w rq (true) (0x2005) 0x0A v)

/-- TIME_STEP_ARM (R304). -/
def execTimeStepArm (w : At) (rq : Requester) (v : Nat) (s : State) : Host.Outcome State Fault Refusal :=
  .next (regWrite s w rq (true) (0x2005) 0x0B v)

/-- LOCK_ACHIEVED (R311). -/
def execLockAchieved (w : At) (s : State) : Host.Outcome State Fault Refusal :=
  .next (onLivePkg s w fun g d => lockOp g d)

/-- SWITCH_SLEW_START (R313). -/
def execSwitchSlewStart (w : At) (err : Int) (s : State) : Host.Outcome State Fault Refusal :=
  .next (onLivePkg s w fun g d => slewStartOp g d err)

/-- SWITCH_COMPLETE (R313). -/
def execSwitchComplete (w : At) (s : State) : Host.Outcome State Fault Refusal :=
  .next (onLivePkg s w fun g d => switchDoneOp g d)

/-- HOLDOVER_LIMIT (R318). -/
def execHoldoverLimit (w : At) (s : State) : Host.Outcome State Fault Refusal :=
  .next (onLivePkg s w fun g d => holdLimitOp g d)

/-- LOOP_NARROW (R315). -/
def execLoopNarrow (w : At) (s : State) : Host.Outcome State Fault Refusal :=
  .next (onLivePkg s w fun g d => narrowOp g d)

/-- LOOP_MODE (R316). -/
def execLoopMode (w : At) (rq : Requester) (v : Nat) (s : State) : Host.Outcome State Fault Refusal :=
  .next (regWrite s w rq (true) (0x2006) 0x01 v)

/-- FREQ_ADJ (R316). -/
def execFreqAdj (w : At) (rq : Requester) (v : Nat) (s : State) : Host.Outcome State Fault Refusal :=
  .next (regWrite s w rq (true) (0x2006) 0x02 v)

/-- PHASE_ADJ_PS (R316). -/
def execPhaseAdjPs (w : At) (rq : Requester) (v : Nat) (s : State) : Host.Outcome State Fault Refusal :=
  .next (regWrite s w rq (true) (0x2006) 0x03 v)

/-- SOFT_STATE (R316). -/
def execSoftState (w : At) (rq : Requester) (v : Nat) (s : State) : Host.Outcome State Fault Refusal :=
  .next (regWrite s w rq (true) (0x2006) 0x04 v)

/-- PTP_RX (R317). -/
def execPtpRx (w : At) (m : PtpMsg) (s : State) : Host.Outcome State Fault Refusal :=
  .next (onLivePkg s w fun g d => ptpOp g d m)

/-- PPS_OUT_PULSE (R323). -/
def execPpsOutPulse (w : At) (s : State) : Host.Outcome State Fault Refusal :=
  .next (onLive s w fun d => ppsOutOp d)

/-- TIME_TOD_MISSING (R309). -/
def execTimeTodMissing (w : At) (s : State) : Host.Outcome State Fault Refusal :=
  .next (onLive s w fun d => todMissingOp d)

/-- PTP_DELAY_REQ_TX (R317). -/
def execPtpDelayReqTx (w : At) (s : State) : Host.Outcome State Fault Refusal :=
  .next (onLive s w fun d => ptpDelayReqOp d)

end Sys2Proof.Machine
end

