-- ==== Sys2Proof/Machine/ExecTrigger.lean ====
section
/-! DEFINITION. Meanings of the commands of trigger and coincidence (08). -/

namespace Sys2Proof.Machine

/-- DETECTOR_EVENT (R237). -/
def execDetectorEvent (w : At) (p rep blk n : Nat) (s : State) : Host.Outcome State Fault Refusal :=
  .next (onLive s w fun d => crossingOp d p rep blk n)

/-- UNIT_HORIZON_ADVANCE (R246). -/
def execUnitHorizonAdvance (w : At) (unit : Nat) (s : State) : Host.Outcome State Fault Refusal :=
  .next (onLivePkg s w fun g d => horizonOp g d unit)

/-- ACTION_ASSERT (R251). -/
def execActionAssert (w : At) (unit : Nat) (s : State) : Host.Outcome State Fault Refusal :=
  .next (onLive s w fun d => actionAssertOp d unit)

/-- TRIG_OUT_PULSE_END (R251). -/
def execTrigOutPulseEnd (w : At) (pin : Nat) (s : State) : Host.Outcome State Fault Refusal :=
  .next (onLive s w fun d => pulseEndOp d pin)

/-- RAISE_EXPIRE (R253). -/
def execRaiseExpire (w : At) (queue : Nat) (s : State) : Host.Outcome State Fault Refusal :=
  .next (onLive s w fun d => raiseExpireOp d queue)

/-- TRIG_IN_EDGE (R242). -/
def execTrigInEdge (w : At) (e : PinLevel) (s : State) : Host.Outcome State Fault Refusal :=
  .next (onLive s w fun d => trigInEdgeOp d e.pin e.high)

/-- TRIG_IN_PULSE_END (R242). -/
def execTrigInPulseEnd (w : At) (e : PinLevel) (s : State) : Host.Outcome State Fault Refusal :=
  .next (onLive s w fun d => trigInEndOp d e.pin e.high)

/-- TRIG_IN_DELIVER (R242). -/
def execTrigInDeliver (w : At) (pin : Nat) (s : State) : Host.Outcome State Fault Refusal :=
  .next (onLive s w fun d => trigInDeliverOp d pin)

/-- TRIG_IN_STUCK (R243). -/
def execTrigInStuck (w : At) (pin : Nat) (s : State) : Host.Outcome State Fault Refusal :=
  .next (onLive s w fun d => trigInStuckOp d pin)

/-- TIN_UNMASK (R244). -/
def execTinUnmask (w : At) (rq : Requester) (pin : Nat) (v : Nat) (s : State) : Host.Outcome State Fault Refusal :=
  .next (regWrite s w rq (decide (pin < 256)) (0x7805) pin v)

/-- INPUT_UNMASK_APPLY (R244). -/
def execInputUnmaskApply (w : At) (pin : Nat) (s : State) : Host.Outcome State Fault Refusal :=
  .next (onLive s w fun d => inputUnmaskOp d pin)

/-- HITCH_TRIM (R241). -/
def execHitchTrim (w : At) (measured : Nat) (s : State) : Host.Outcome State Fault Refusal :=
  .next (onLive s w fun d => hitchTrimOp d measured)

/-- TRIG_CNT_CLEAR (R260). -/
def execTrigCntClear (w : At) (rq : Requester) (v : Nat) (s : State) : Host.Outcome State Fault Refusal :=
  .next (regWrite s w rq (true) (0x7800) 0x0A v)

end Sys2Proof.Machine
end

