-- ==== Sys2Proof/Machine/Dispatch.lean ====
section
/-! DEFINITION. One arm per command, in the order of the opcode table. -/

namespace Sys2Proof.Machine

def exec (i : Instr) (s : State) : Host.Outcome State Fault Refusal :=
  match i with
  | .epochBoundary w => Sys2Proof.Machine.execEpochBoundary w s
  | .runStart w r => Sys2Proof.Machine.execRunStart w r s
  | .kernelStep w p luck upset => Sys2Proof.Machine.execKernelStep w p luck upset s
  | .cellScrubRead w p m word found => Sys2Proof.Machine.execCellScrubRead w p m word found s
  | .write w p addr arg => Sys2Proof.Machine.execWrite w p addr arg s
  | .select w p addr => Sys2Proof.Machine.execSelect w p addr s
  | .flags w p unit arg => Sys2Proof.Machine.execFlags w p unit arg s
  | .setBase w p unit arg => Sys2Proof.Machine.execSetBase w p unit arg s
  | .setN0 w p unit arg => Sys2Proof.Machine.execSetN0 w p unit arg s
  | .copyBank w p unit arg => Sys2Proof.Machine.execCopyBank w p unit arg s
  | .runGate w p arg => Sys2Proof.Machine.execRunGate w p arg s
  | .mirror w p arg => Sys2Proof.Machine.execMirror w p arg s
  | .owners w p => Sys2Proof.Machine.execOwners w p s
  | .marginRead w p margin => Sys2Proof.Machine.execMarginRead w p margin s
  | .healthClear w rq p v => Sys2Proof.Machine.execHealthClear w rq p v s
  | .dbgCapture w rq v => Sys2Proof.Machine.execDbgCapture w rq v s
  | .debugCaptureTake w => Sys2Proof.Machine.execDebugCaptureTake w s
  | .accCntClear w rq v => Sys2Proof.Machine.execAccCntClear w rq v s
  | .beatInstanceStart w beat => Sys2Proof.Machine.execBeatInstanceStart w beat s
  | .slotTransfer w beat entry land => Sys2Proof.Machine.execSlotTransfer w beat entry land s
  | .blockArrival w lane full bytes => Sys2Proof.Machine.execBlockArrival w lane full bytes s
  | .windowClose w stream blk => Sys2Proof.Machine.execWindowClose w stream blk s
  | .ingestSlot w stream blk memBad => Sys2Proof.Machine.execIngestSlot w stream blk memBad s
  | .streamDelay w rq stream v => Sys2Proof.Machine.execStreamDelay w rq stream v s
  | .ingCntClear w rq v => Sys2Proof.Machine.execIngCntClear w rq v s
  | .delayLoad w rq cell bytes => Sys2Proof.Machine.execDelayLoad w rq cell bytes s
  | .weightLoad w rq ctx bytes => Sys2Proof.Machine.execWeightLoad w rq ctx bytes s
  | .loadApply w => Sys2Proof.Machine.execLoadApply w s
  | .delaySwap w rq cell v => Sys2Proof.Machine.execDelaySwap w rq cell v s
  | .weightSwap w rq ctx v => Sys2Proof.Machine.execWeightSwap w rq ctx v s
  | .weightHot w rq ctx bytes => Sys2Proof.Machine.execWeightHot w rq ctx bytes s
  | .hotWriteApply w cell => Sys2Proof.Machine.execHotWriteApply w cell s
  | .cbCntClear w rq v => Sys2Proof.Machine.execCbCntClear w rq v s
  | .planLoad w rq bytes => Sys2Proof.Machine.execPlanLoad w rq bytes s
  | .planCheck w rq v => Sys2Proof.Machine.execPlanCheck w rq v s
  | .planCheckDone w => Sys2Proof.Machine.execPlanCheckDone w s
  | .planCommit w rq v => Sys2Proof.Machine.execPlanCommit w rq v s
  | .planCancel w rq v => Sys2Proof.Machine.execPlanCancel w rq v s
  | .cutoverEnd w cell => Sys2Proof.Machine.execCutoverEnd w cell s
  | .planHotPatch w rq bytes => Sys2Proof.Machine.execPlanHotPatch w rq bytes s
  | .hotPatchApply w => Sys2Proof.Machine.execHotPatchApply w s
  | .spliceRequest w rq v => Sys2Proof.Machine.execSpliceRequest w rq v s
  | .splicePrepareDone w domain fail => Sys2Proof.Machine.execSplicePrepareDone w domain fail s
  | .spliceTileCopy w domain item => Sys2Proof.Machine.execSpliceTileCopy w domain item s
  | .spliceRetire w domain => Sys2Proof.Machine.execSpliceRetire w domain s
  | .storeScrub w word found => Sys2Proof.Machine.execStoreScrub w word found s
  | .softRepairSwitch w => Sys2Proof.Machine.execSoftRepairSwitch w s
  | .outputTurn w out => Sys2Proof.Machine.execOutputTurn w out s
  | .packetTxDone w out => Sys2Proof.Machine.execPacketTxDone w out s
  | .queueStall w out => Sys2Proof.Machine.execQueueStall w out s
  | .queueRead w rq => Sys2Proof.Machine.execQueueRead w rq s
  | .snapCapture w rq v => Sys2Proof.Machine.execSnapCapture w rq v s
  | .snapBlockQueue w group stream blk => Sys2Proof.Machine.execSnapBlockQueue w group stream blk s
  | .bsqCntClear w rq v => Sys2Proof.Machine.execBsqCntClear w rq v s
  | .detectorEvent w p rep blk n => Sys2Proof.Machine.execDetectorEvent w p rep blk n s
  | .unitHorizonAdvance w unit => Sys2Proof.Machine.execUnitHorizonAdvance w unit s
  | .actionAssert w unit => Sys2Proof.Machine.execActionAssert w unit s
  | .trigOutPulseEnd w pin => Sys2Proof.Machine.execTrigOutPulseEnd w pin s
  | .raiseExpire w queue => Sys2Proof.Machine.execRaiseExpire w queue s
  | .trigInEdge w e => Sys2Proof.Machine.execTrigInEdge w e s
  | .trigInPulseEnd w e => Sys2Proof.Machine.execTrigInPulseEnd w e s
  | .trigInDeliver w pin => Sys2Proof.Machine.execTrigInDeliver w pin s
  | .trigInStuck w pin => Sys2Proof.Machine.execTrigInStuck w pin s
  | .tinUnmask w rq pin v => Sys2Proof.Machine.execTinUnmask w rq pin v s
  | .inputUnmaskApply w pin => Sys2Proof.Machine.execInputUnmaskApply w pin s
  | .hitchTrim w measured => Sys2Proof.Machine.execHitchTrim w measured s
  | .trigCntClear w rq v => Sys2Proof.Machine.execTrigCntClear w rq v s
  | .laneCfg w rq lane v => Sys2Proof.Machine.execLaneCfg w rq lane v s
  | .ethPortCfg w rq port bytes => Sys2Proof.Machine.execEthPortCfg w rq port bytes s
  | .ethFlow w rq flow bytes => Sys2Proof.Machine.execEthFlow w rq flow bytes s
  | .jesdCfg w rq link bytes => Sys2Proof.Machine.execJesdCfg w rq link bytes s
  | .bondCfg w rq bond v => Sys2Proof.Machine.execBondCfg w rq bond v s
  | .timePerS w rq v => Sys2Proof.Machine.execTimePerS w rq v s
  | .loopback w rq n v => Sys2Proof.Machine.execLoopback w rq n v s
  | .testPattern w rq n v => Sys2Proof.Machine.execTestPattern w rq n v s
  | .laneCntClear w rq n v => Sys2Proof.Machine.execLaneCntClear w rq n v s
  | .spareSelftest w pair errors trained => Sys2Proof.Machine.execSpareSelftest w pair errors trained s
  | .losDetect w n => Sys2Proof.Machine.execLosDetect w n s
  | .losClear w n => Sys2Proof.Machine.execLosClear w n s
  | .cdrLockLoss w n => Sys2Proof.Machine.execCdrLockLoss w n s
  | .laneTrainDone w n => Sys2Proof.Machine.execLaneTrainDone w n s
  | .codewordRx w n dec seq => Sys2Proof.Machine.execCodewordRx w n dec seq s
  | .laneBerCheck w n => Sys2Proof.Machine.execLaneBerCheck w n s
  | .agushFrameRx w n overlapsBad bytes => Sys2Proof.Machine.execAgushFrameRx w n overlapsBad bytes s
  | .idle w n body => Sys2Proof.Machine.execIdle w n body s
  | .sum w n body => Sys2Proof.Machine.execSum w n body s
  | .trig w n body => Sys2Proof.Machine.execTrig w n body s
  | .time w n body => Sys2Proof.Machine.execTime w n body s
  | .timeFrameTx w n => Sys2Proof.Machine.execTimeFrameTx w n s
  | .idleFrameForce w n => Sys2Proof.Machine.execIdleFrameForce w n s
  | .bondSeqTimeout w bond => Sys2Proof.Machine.execBondSeqTimeout w bond s
  | .bondDegraded w bond lane => Sys2Proof.Machine.execBondDegraded w bond lane s
  | .eiEnter w n => Sys2Proof.Machine.execEiEnter w n s
  | .eiExit w n => Sys2Proof.Machine.execEiExit w n s
  | .laneSwapRequest w rq v => Sys2Proof.Machine.execLaneSwapRequest w rq v s
  | .laneSwapStart w lane => Sys2Proof.Machine.execLaneSwapStart w lane s
  | .swapSwitch w lane => Sys2Proof.Machine.execSwapSwitch w lane s
  | .swapOldPairStop w lane => Sys2Proof.Machine.execSwapOldPairStop w lane s
  | .swapTimeout w lane => Sys2Proof.Machine.execSwapTimeout w lane s
  | .ethFrameRx w port frame => Sys2Proof.Machine.execEthFrameRx w port frame s
  | .ethLaneSwap w port lane => Sys2Proof.Machine.execEthLaneSwap w port lane s
  | .ethLinkDown w port => Sys2Proof.Machine.execEthLinkDown w port s
  | .ethLinkUp w port => Sys2Proof.Machine.execEthLinkUp w port s
  | .jesdLemcEdge w link edge samples => Sys2Proof.Machine.execJesdLemcEdge w link edge samples s
  | .jesdLinkDown w link => Sys2Proof.Machine.execJesdLinkDown w link s
  | .jesdCrc w link => Sys2Proof.Machine.execJesdCrc w link s
  | .refCfg w rq n v => Sys2Proof.Machine.execRefCfg w rq n v s
  | .qualHoldoffMs w rq v => Sys2Proof.Machine.execQualHoldoffMs w rq v s
  | .refQualify w n => Sys2Proof.Machine.execRefQualify w n s
  | .refBreak w n => Sys2Proof.Machine.execRefBreak w n s
  | .freqMeasureEnd w n ppb => Sys2Proof.Machine.execFreqMeasureEnd w n ppb s
  | .ref10Edge w n phase => Sys2Proof.Machine.execRef10Edge w n phase s
  | .ppsEdge w n phase => Sys2Proof.Machine.execPpsEdge w n phase s
  | .todLoad w rq v => Sys2Proof.Machine.execTodLoad w rq v s
  | .timeStepArm w rq v => Sys2Proof.Machine.execTimeStepArm w rq v s
  | .lockAchieved w => Sys2Proof.Machine.execLockAchieved w s
  | .switchSlewStart w err => Sys2Proof.Machine.execSwitchSlewStart w err s
  | .switchComplete w => Sys2Proof.Machine.execSwitchComplete w s
  | .holdoverLimit w => Sys2Proof.Machine.execHoldoverLimit w s
  | .loopNarrow w => Sys2Proof.Machine.execLoopNarrow w s
  | .loopMode w rq v => Sys2Proof.Machine.execLoopMode w rq v s
  | .freqAdj w rq v => Sys2Proof.Machine.execFreqAdj w rq v s
  | .phaseAdjPs w rq v => Sys2Proof.Machine.execPhaseAdjPs w rq v s
  | .softState w rq v => Sys2Proof.Machine.execSoftState w rq v s
  | .ptpRx w m => Sys2Proof.Machine.execPtpRx w m s
  | .ppsOutPulse w => Sys2Proof.Machine.execPpsOutPulse w s
  | .winGo w pf4 v => Sys2Proof.Machine.execWinGo w pf4 v s
  | .windowAccessDone w pf4 => Sys2Proof.Machine.execWindowAccessDone w pf4 s
  | .winRegWrite w pf4 off v => Sys2Proof.Machine.execWinRegWrite w pf4 off v s
  | .cmdqDb w v => Sys2Proof.Machine.execCmdqDb w v s
  | .cmdFetch w desc => Sys2Proof.Machine.execCmdFetch w desc s
  | .nop w => Sys2Proof.Machine.execNop w s
  | .dictWrite w host => Sys2Proof.Machine.execDictWrite w host s
  | .dictRead w hostOk => Sys2Proof.Machine.execDictRead w hostOk s
  | .planLoadDma w host => Sys2Proof.Machine.execPlanLoadDma w host s
  | .dictDescribe w hostOk => Sys2Proof.Machine.execDictDescribe w hostOk s
  | .commandComplete w => Sys2Proof.Machine.execCommandComplete w s
  | .cmdqEnable w rq v => Sys2Proof.Machine.execCmdqEnable w rq v s
  | .evqDb w v => Sys2Proof.Machine.execEvqDb w v s
  | .evqEnable w rq v => Sys2Proof.Machine.execEvqEnable w rq v s
  | .dmaPacketTransfer w ch creditStall => Sys2Proof.Machine.execDmaPacketTransfer w ch creditStall s
  | .dmaCqDb w ch v => Sys2Proof.Machine.execDmaCqDb w ch v s
  | .dmaIntHold w ch => Sys2Proof.Machine.execDmaIntHold w ch s
  | .dmaCfg w rq ch v => Sys2Proof.Machine.execDmaCfg w rq ch v s
  | .dmaDisable w ch => Sys2Proof.Machine.execDmaDisable w ch s
  | .creditStall w ch => Sys2Proof.Machine.execCreditStall w ch s
  | .flr w pf4 => Sys2Proof.Machine.execFlr w pf4 s
  | .pePerstN => Sys2Proof.Machine.execPePerstN s
  | .hpLinkDown => Sys2Proof.Machine.execHpLinkDown s
  | .bar4Read w off len => Sys2Proof.Machine.execBar4Read w off len s
  | .smDecodeMiss w master addr => Sys2Proof.Machine.execSmDecodeMiss w master addr s
  | .smTimeout w master target addr => Sys2Proof.Machine.execSmTimeout w master target addr s
  | .registerWrite w rq index sub bytes => Sys2Proof.Machine.execRegisterWrite w rq index sub bytes s
  | .sageWatchdog w => Sys2Proof.Machine.execSageWatchdog w s
  | .sagePatch w rq slot bytes => Sys2Proof.Machine.execSagePatch w rq slot bytes s
  | .otpBurnDone w ok => Sys2Proof.Machine.execOtpBurnDone w ok s
  | .lydFrameForward w port aborted bytes => Sys2Proof.Machine.execLydFrameForward w port aborted bytes s
  | .read w port f => Sys2Proof.Machine.execRead w port f s
  | .describe w port f => Sys2Proof.Machine.execDescribe w port f s
  | .bcastWrite w port f => Sys2Proof.Machine.execBcastWrite w port f s
  | .enum w f => Sys2Proof.Machine.execEnum w f s
  | .enumReport w f => Sys2Proof.Machine.execEnumReport w f s
  | .beacon w port f => Sys2Proof.Machine.execBeacon w port f s
  | .enumStart w => Sys2Proof.Machine.execEnumStart w s
  | .lydEnumStart w rq v => Sys2Proof.Machine.execLydEnumStart w rq v s
  | .unassignedReportTx w => Sys2Proof.Machine.execUnassignedReportTx w s
  | .beaconTx w => Sys2Proof.Machine.execBeaconTx w s
  | .noHeadTimeout w => Sys2Proof.Machine.execNoHeadTimeout w s
  | .lydLinkDown w port => Sys2Proof.Machine.execLydLinkDown w port s
  | .localDeviceId w rq v => Sys2Proof.Machine.execLocalDeviceId w rq v s
  | .protEntry w rq n v => Sys2Proof.Machine.execProtEntry w rq n v s
  | .protTable w rq bytes => Sys2Proof.Machine.execProtTable w rq bytes s
  | .challenge w rq => Sys2Proof.Machine.execChallenge w rq s
  | .response w rq bytes => Sys2Proof.Machine.execResponse w rq bytes s
  | .level0Release w rq v => Sys2Proof.Machine.execLevel0Release w rq v s
  | .sessionIdleTimeout w rq => Sys2Proof.Machine.execSessionIdleTimeout w rq s
  | .lockoutExpire w => Sys2Proof.Machine.execLockoutExpire w s
  | .level0Key w rq bytes => Sys2Proof.Machine.execLevel0Key w rq bytes s
  | .faultSignal w src inst => Sys2Proof.Machine.execFaultSignal w src inst s
  | .railFault w src => Sys2Proof.Machine.execRailFault w src s
  | .ladderStepDone w fn inst => Sys2Proof.Machine.execLadderStepDone w fn inst s
  | .ladderCleanExpire w fn inst => Sys2Proof.Machine.execLadderCleanExpire w fn inst s
  | .faultGroupAck w rq group v => Sys2Proof.Machine.execFaultGroupAck w rq group v s
  | .faultCfg w rq src v => Sys2Proof.Machine.execFaultCfg w rq src v s
  | .faultReact w rq group sev v => Sys2Proof.Machine.execFaultReact w rq group sev v s
  | .faultWireRetest w rq v => Sys2Proof.Machine.execFaultWireRetest w rq v s
  | .faultFirstClear w rq v => Sys2Proof.Machine.execFaultFirstClear w rq v s
  | .faultCntClear w rq v => Sys2Proof.Machine.execFaultCntClear w rq v s
  | .errNRelease w rq v => Sys2Proof.Machine.execErrNRelease w rq v s
  | .errNMinExpire w => Sys2Proof.Machine.execErrNMinExpire w s
  | .ctrlMiscompare w fail0 fail1 => Sys2Proof.Machine.execCtrlMiscompare w fail0 fail1 s
  | .ctrlAudit w pass0 pass1 => Sys2Proof.Machine.execCtrlAudit w pass0 pass1 s
  | .ctrlCheckFail w unit => Sys2Proof.Machine.execCtrlCheckFail w unit s
  | .ctrlSelftest w pass => Sys2Proof.Machine.execCtrlSelftest w pass s
  | .ctrlUnitTestDone w unit pass => Sys2Proof.Machine.execCtrlUnitTestDone w unit pass s
  | .ctrlReintegStart w rq v => Sys2Proof.Machine.execCtrlReintegStart w rq v s
  | .ctrlReintegCopyDone w => Sys2Proof.Machine.execCtrlReintegCopyDone w s
  | .simplexAudit w pass => Sys2Proof.Machine.execSimplexAudit w pass s
  | .safeEnter w rq v => Sys2Proof.Machine.execSafeEnter w rq v s
  | .strandResetReq w rq v => Sys2Proof.Machine.execStrandResetReq w rq v s
  | .strandReset w => Sys2Proof.Machine.execStrandReset w s
  | .strandUp w => Sys2Proof.Machine.execStrandUp w s
  | .deviceResetReq w rq v => Sys2Proof.Machine.execDeviceResetReq w rq v s
  | .deviceReset straps => Sys2Proof.Machine.execDeviceReset straps s
  | .retestCellDomain w rq v => Sys2Proof.Machine.execRetestCellDomain w rq v s
  | .retestLaneGroup w rq v => Sys2Proof.Machine.execRetestLaneGroup w rq v s
  | .pwrPhaseFail w reg domain currents => Sys2Proof.Machine.execPwrPhaseFail w reg domain currents s
  | .domainReq w rq domain v => Sys2Proof.Machine.execDomainReq w rq domain v s
  | .domainWake w domain => Sys2Proof.Machine.execDomainWake w domain s
  | .domainPowerGood w domain us => Sys2Proof.Machine.execDomainPowerGood w domain us s
  | .domainWakeTimeout w domain => Sys2Proof.Machine.execDomainWakeTimeout w domain s
  | .domainPowerLoss w domain => Sys2Proof.Machine.execDomainPowerLoss w domain s
  | .xinStatusChange v => Sys2Proof.Machine.execXinStatusChange v s
  | .aoclkCal w src ppm => Sys2Proof.Machine.execAoclkCal w src ppm s
  | .feedOutOfRange feed => Sys2Proof.Machine.execFeedOutOfRange feed s
  | .pwrFeedsLow => Sys2Proof.Machine.execPwrFeedsLow s
  | .regulatorShutdown => Sys2Proof.Machine.execRegulatorShutdown s
  | .thermSample w sensor temp selfOk => Sys2Proof.Machine.execThermSample w sensor temp selfOk s
  | .thermDomainShutdown w domain => Sys2Proof.Machine.execThermDomainShutdown w domain s
  | .thermRestart w domain => Sys2Proof.Machine.execThermRestart w domain s
  | .strandPower w rq v => Sys2Proof.Machine.execStrandPower w rq v s
  | .porNRelease straps => Sys2Proof.Machine.execPorNRelease straps s
  | .pwrEnFall lowNs => Sys2Proof.Machine.execPwrEnFall lowNs s
  | .testEn high => Sys2Proof.Machine.execTestEn high s
  | .extest => Sys2Proof.Machine.execExtest s
  | .idcode => Sys2Proof.Machine.execIdcode s
  | .samplePreload pins preload => Sys2Proof.Machine.execSamplePreload pins preload s
  | .bypass => Sys2Proof.Machine.execBypass s
  | .dbgFrame w f => Sys2Proof.Machine.execDbgFrame w f s
  | .lanyardWrite w port f => Sys2Proof.Machine.execLanyardWrite w port f s
  | .lydLinkUp w port => Sys2Proof.Machine.execLydLinkUp w port s
  | .jesdLinkUp w link => Sys2Proof.Machine.execJesdLinkUp w link s
  | .hpLinkUp speed width => Sys2Proof.Machine.execHpLinkUp speed width s
  | .pePerstNRelease => Sys2Proof.Machine.execPePerstNRelease s
  | .pwrEnRise feedInRange => Sys2Proof.Machine.execPwrEnRise feedInRange s
  | .feedInRange feed => Sys2Proof.Machine.execFeedInRange feed s
  | .trainingBurstRx w n relocked idleUs => Sys2Proof.Machine.execTrainingBurstRx w n relocked idleUs s
  | .timeTodMissing w => Sys2Proof.Machine.execTimeTodMissing w s
  | .ptpDelayReqTx w => Sys2Proof.Machine.execPtpDelayReqTx w s
  | .cellSelftestDone w p pass => Sys2Proof.Machine.execCellSelftestDone w p pass s
  | .lanePrbsTestDone w pair errors pass => Sys2Proof.Machine.execLanePrbsTestDone w pair errors pass s

end Sys2Proof.Machine
end

