-- ==== Sys2Proof/WellFormed.lean ====
section
/-! DEFINITION. Well-formed commands: every operand names something that the spec gives the block, and every value
fits the field that carries it. The meanings are total; a command that is not well formed is one that nothing can
send. -/

namespace Sys2Proof

/-- A number below a bound. -/
def upTo (x n : Nat) : Bool := decide (x < n)

/-- A requester triple fits its fields (R356). -/
def requesterOk : Requester → Bool
  | .lyd _ dev st => upTo dev 65536 && upTo st 4
  | .host => true
  | .pf4 => true
  | .dbg => true

/-- A dictionary value has at most 256 bytes (R368). -/
def valueOk (b : List Byte) : Bool := decide (b.length ≤ 256)

/-- A list has a fixed length. -/
def lengthIs (b : List Byte) (n : Nat) : Bool := decide (b.length = n)

/-- A Lanyard frame fits its header fields, and LEN and the payload agree or, in a READ, LEN asks for bytes (R356,
R357). -/
def frameOk (f : LydFrame) : Bool :=
  upTo f.type 16 && upTo f.dstDev 65536 && upTo f.dstStrand 4 && upTo f.srcStrand 4 && upTo f.srcDev 65536 &&
    upTo f.seq 65536 && upTo f.index 65536 && upTo f.subindex 256 && upTo f.status 256 && upTo f.len 257 &&
    (decide (f.payload.length = f.len) || (decide (f.type = 1) && decide (f.payload = [])))

/-- An output exists: a lane or bond, a flow, a DMA channel or the host reads (R223). -/
def outOk (o : OutId) : Bool := upTo o.kind 4 && upTo o.id 256

/-- Where a braid transfer lands (R33, R190). -/
def landingOk (l : Landing) : Bool := upTo l.addr 65536 && l.units.all fun u => upTo u.ctx 4096 && upTo u.chan 65536

/-- Words of a cell: 64-bit words of its memories, or halves of its totals. -/
def upsetOk (l : List Nat) : Bool := l.all fun k => upTo k (4 * 65536 + 64 * 128)

/-- A value of an I16 entry. -/
def i16Ok (x : Int) : Bool := decide (-32768 ≤ x) && decide (x < 32768)

/-- Data that a command reads from the host. -/
def hostOk_ : HostRead → Bool
  | .data b => decide (b.length ≤ 16777216)
  | .failed => true

/-- Well-formed commands. -/
def Instr.wf : Instr → Bool
  | .epochBoundary _ => true
  | .runStart _ r => upTo r.p 272
  | .kernelStep _ p _ upset => upTo p 272 && upsetOk upset
  | .cellScrubRead _ p _ word _ => upTo p 272 && upTo word 8192
  | .write _ p addr arg => upTo p 272 && upTo addr (2 ^ 16) && upTo arg (2 ^ 32)
  | .select _ p addr => upTo p 272 && upTo addr (2 ^ 16)
  | .flags _ p unit arg => upTo p 272 && upTo unit (2 ^ 16) && upTo arg (2 ^ 32)
  | .setBase _ p unit arg => upTo p 272 && upTo unit (2 ^ 16) && upTo arg (2 ^ 32)
  | .setN0 _ p unit arg => upTo p 272 && upTo unit (2 ^ 16) && upTo arg (2 ^ 32)
  | .copyBank _ p unit arg => upTo p 272 && upTo unit (2 ^ 16) && upTo arg (2 ^ 32)
  | .runGate _ p arg => upTo p 272 && upTo arg (2 ^ 32)
  | .mirror _ p arg => upTo p 272 && upTo arg (2 ^ 32)
  | .owners _ p => upTo p 272
  | .marginRead _ p margin => upTo p 272 && i16Ok margin
  | .healthClear _ rq p v => requesterOk rq && upTo p 272 && upTo v (2 ^ 64)
  | .dbgCapture _ rq v => requesterOk rq && upTo v (2 ^ 64)
  | .debugCaptureTake _ => true
  | .accCntClear _ rq v => requesterOk rq && upTo v (2 ^ 64)
  | .beatInstanceStart _ beat => upTo beat 256
  | .slotTransfer _ beat entry land => upTo beat 256 && upTo entry 16384 && landingOk land
  | .blockArrival _ lane _ bytes => upTo lane 128 && upTo bytes.length 65537
  | .windowClose _ stream _ => upTo stream 4096
  | .ingestSlot _ stream _ _ => upTo stream 4096
  | .streamDelay _ rq stream v => requesterOk rq && upTo stream 4096 && upTo v (2 ^ 64)
  | .ingCntClear _ rq v => requesterOk rq && upTo v (2 ^ 64)
  | .delayLoad _ rq cell bytes => requesterOk rq && upTo cell 256 && valueOk bytes
  | .weightLoad _ rq ctx bytes => requesterOk rq && upTo ctx 4096 && valueOk bytes
  | .loadApply _ => true
  | .delaySwap _ rq cell v => requesterOk rq && upTo cell 256 && upTo v (2 ^ 64)
  | .weightSwap _ rq ctx v => requesterOk rq && upTo ctx 4096 && upTo v (2 ^ 64)
  | .weightHot _ rq ctx bytes => requesterOk rq && upTo ctx 4096 && valueOk bytes
  | .hotWriteApply _ cell => upTo cell 256
  | .cbCntClear _ rq v => requesterOk rq && upTo v (2 ^ 64)
  | .planLoad _ rq bytes => requesterOk rq && valueOk bytes
  | .planCheck _ rq v => requesterOk rq && upTo v (2 ^ 64)
  | .planCheckDone _ => true
  | .planCommit _ rq v => requesterOk rq && upTo v (2 ^ 64)
  | .planCancel _ rq v => requesterOk rq && upTo v (2 ^ 64)
  | .cutoverEnd _ cell => upTo cell 256
  | .planHotPatch _ rq bytes => requesterOk rq && valueOk bytes
  | .hotPatchApply _ => true
  | .spliceRequest _ rq v => requesterOk rq && upTo v (2 ^ 64)
  | .splicePrepareDone _ p _ => upTo p 272
  | .spliceTileCopy _ p _ => upTo p 272
  | .spliceRetire _ p => upTo p 272
  | .storeScrub _ word _ => upTo word (2 ^ 25)
  | .softRepairSwitch _ => true
  | .outputTurn _ out => outOk out
  | .packetTxDone _ out => outOk out
  | .queueStall _ out => outOk out
  | .queueRead _ rq => requesterOk rq
  | .snapCapture _ rq v => requesterOk rq && upTo v (2 ^ 64)
  | .snapBlockQueue _ group stream _ => upTo group 16 && upTo stream 4096
  | .bsqCntClear _ rq v => requesterOk rq && upTo v (2 ^ 64)
  | .detectorEvent _ p _ _ _ => upTo p 272
  | .unitHorizonAdvance _ unit => upTo unit 64
  | .actionAssert _ unit => upTo unit 64
  | .trigOutPulseEnd _ pin => upTo pin 4
  | .raiseExpire _ queue => upTo queue 16384
  | .trigInEdge _ e => upTo e.pin 5
  | .trigInPulseEnd _ e => upTo e.pin 5
  | .trigInDeliver _ pin => upTo pin 5
  | .trigInStuck _ pin => upTo pin 5
  | .tinUnmask _ rq pin v => requesterOk rq && upTo pin 5 && upTo v (2 ^ 64)
  | .inputUnmaskApply _ pin => upTo pin 5
  | .hitchTrim _ _ => true
  | .trigCntClear _ rq v => requesterOk rq && upTo v (2 ^ 64)
  | .laneCfg _ rq lane v => requesterOk rq && upTo lane 24 && upTo v (2 ^ 64)
  | .ethPortCfg _ rq port bytes => requesterOk rq && upTo port 24 && valueOk bytes
  | .ethFlow _ rq flow bytes => requesterOk rq && upTo flow 256 && valueOk bytes
  | .jesdCfg _ rq link bytes => requesterOk rq && upTo link 8 && valueOk bytes
  | .bondCfg _ rq bond v => requesterOk rq && upTo bond 16 && upTo v (2 ^ 64)
  | .timePerS _ rq v => requesterOk rq && upTo v (2 ^ 64)
  | .loopback _ rq n v => requesterOk rq && upTo n 64 && upTo v (2 ^ 64)
  | .testPattern _ rq n v => requesterOk rq && upTo n 64 && upTo v (2 ^ 64)
  | .laneCntClear _ rq n v => requesterOk rq && upTo n 64 && upTo v (2 ^ 64)
  | .spareSelftest _ pair errors _ => upTo pair 26 && upTo errors (2 ^ 32)
  | .losDetect _ n => upTo n 128
  | .losClear _ n => upTo n 128
  | .cdrLockLoss _ n => upTo n 128
  | .laneTrainDone _ n => upTo n 128
  | .codewordRx _ n _ seq => upTo n 128 && upTo seq 256
  | .laneBerCheck _ n => upTo n 128
  | .agushFrameRx _ n _ bytes => upTo n 128 && upTo bytes.length 65537
  | .idle _ n body => upTo n 128 && upTo body.length 2048
  | .sum _ n body => upTo n 128 && upTo body.length 2048
  | .trig _ n body => upTo n 128 && upTo body.length 2048
  | .time _ n body => upTo n 128 && upTo body.length 2048
  | .timeFrameTx _ n => upTo n 128
  | .idleFrameForce _ n => upTo n 128
  | .bondSeqTimeout _ bond => upTo bond 16
  | .bondDegraded _ bond lane => upTo bond 16 && upTo lane 128
  | .eiEnter _ n => upTo n 128
  | .eiExit _ n => upTo n 128
  | .laneSwapRequest _ rq v => requesterOk rq && upTo v (2 ^ 64)
  | .laneSwapStart _ lane => upTo lane 128
  | .swapSwitch _ lane => upTo lane 128
  | .swapOldPairStop _ lane => upTo lane 128
  | .swapTimeout _ lane => upTo lane 128
  | .ethFrameRx _ port frame => upTo port 24 && upTo frame.length 16384
  | .ethLaneSwap _ port lane => upTo port 24 && upTo lane 128
  | .ethLinkDown _ port => upTo port 24
  | .ethLinkUp _ port => upTo port 24
  | .jesdLemcEdge _ link _ _ => upTo link 8
  | .jesdLinkDown _ link => upTo link 8
  | .jesdCrc _ link => upTo link 8
  | .refCfg _ rq n v => requesterOk rq && upTo n 9 && upTo v (2 ^ 64)
  | .qualHoldoffMs _ rq v => requesterOk rq && upTo v (2 ^ 64)
  | .refQualify _ n => upTo n 9
  | .refBreak _ n => upTo n 9
  | .freqMeasureEnd _ n _ => upTo n 9
  | .ref10Edge _ n _ => upTo n 9
  | .ppsEdge _ n _ => upTo n 9
  | .todLoad _ rq v => requesterOk rq && upTo v (2 ^ 64)
  | .timeStepArm _ rq v => requesterOk rq && upTo v (2 ^ 64)
  | .lockAchieved _ => true
  | .switchSlewStart _ _ => true
  | .switchComplete _ => true
  | .holdoverLimit _ => true
  | .loopNarrow _ => true
  | .loopMode _ rq v => requesterOk rq && upTo v (2 ^ 64)
  | .freqAdj _ rq v => requesterOk rq && upTo v (2 ^ 64)
  | .phaseAdjPs _ rq v => requesterOk rq && upTo v (2 ^ 64)
  | .softState _ rq v => requesterOk rq && upTo v (2 ^ 64)
  | .ptpRx _ m => upTo m.clockClass 256 && upTo m.domain 256
  | .ppsOutPulse _ => true
  | .winGo _ _ v => upTo v (2 ^ 64)
  | .windowAccessDone _ _ => true
  | .winRegWrite _ _ off v => upTo off 65536 && upTo v (2 ^ 64)
  | .cmdqDb _ v => upTo v (2 ^ 64)
  | .cmdFetch _ desc => lengthIs desc 64
  | .nop _ => true
  | .dictWrite _ host => hostOk_ host
  | .dictRead _ _ => true
  | .planLoadDma _ host => hostOk_ host
  | .dictDescribe _ _ => true
  | .commandComplete _ => true
  | .cmdqEnable _ rq v => requesterOk rq && upTo v (2 ^ 64)
  | .evqDb _ v => upTo v (2 ^ 64)
  | .evqEnable _ rq v => requesterOk rq && upTo v (2 ^ 64)
  | .dmaPacketTransfer _ ch _ => upTo ch 16
  | .dmaCqDb _ ch v => upTo ch 16 && upTo v (2 ^ 64)
  | .dmaIntHold _ ch => upTo ch 16
  | .dmaCfg _ rq ch v => requesterOk rq && upTo ch 16 && upTo v (2 ^ 64)
  | .dmaDisable _ ch => upTo ch 16
  | .creditStall _ ch => upTo ch 16
  | .flr _ _ => true
  | .pePerstN => true
  | .hpLinkDown => true
  | .bar4Read _ off len => upTo off 1048576 && upTo len 1048577
  | .smDecodeMiss _ master addr => upTo master 7 && upTo addr (2 ^ 64)
  | .smTimeout _ master target addr => upTo master 7 && upTo target 8 && upTo addr (2 ^ 64)
  | .registerWrite _ rq index sub bytes => requesterOk rq && upTo index 65536 && upTo sub 256 && valueOk bytes
  | .sageWatchdog _ => true
  | .sagePatch _ rq slot bytes => requesterOk rq && upTo slot 32 && valueOk bytes
  | .otpBurnDone _ _ => true
  | .lydFrameForward _ port _ bytes => upTo port 2 && upTo bytes.length 277
  | .read _ port f => upTo port 2 && frameOk f
  | .describe _ port f => upTo port 2 && frameOk f
  | .bcastWrite _ port f => upTo port 2 && frameOk f
  | .enum _ f => frameOk f
  | .enumReport _ f => frameOk f
  | .beacon _ port f => upTo port 2 && frameOk f
  | .enumStart _ => true
  | .lydEnumStart _ rq v => requesterOk rq && upTo v (2 ^ 64)
  | .unassignedReportTx _ => true
  | .beaconTx _ => true
  | .noHeadTimeout _ => true
  | .lydLinkDown _ port => upTo port 2
  | .localDeviceId _ rq v => requesterOk rq && upTo v (2 ^ 64)
  | .protEntry _ rq n v => requesterOk rq && upTo n 32 && upTo v (2 ^ 64)
  | .protTable _ rq bytes => requesterOk rq && valueOk bytes
  | .challenge _ rq => requesterOk rq
  | .response _ rq bytes => requesterOk rq && valueOk bytes
  | .level0Release _ rq v => requesterOk rq && upTo v (2 ^ 64)
  | .sessionIdleTimeout _ rq => requesterOk rq
  | .lockoutExpire _ => true
  | .level0Key _ rq bytes => requesterOk rq && valueOk bytes
  | .faultSignal _ src inst => upTo src 192 && upTo inst 65536
  | .railFault _ src => upTo src 192
  | .ladderStepDone _ fn inst => upTo fn 12 && upTo inst 65536
  | .ladderCleanExpire _ fn inst => upTo fn 12 && upTo inst 65536
  | .faultGroupAck _ rq group v => requesterOk rq && upTo group 12 && upTo v (2 ^ 64)
  | .faultCfg _ rq src v => requesterOk rq && upTo src 192 && upTo v (2 ^ 64)
  | .faultReact _ rq group sev v => requesterOk rq && upTo group 12 && upTo sev 4 && upTo v (2 ^ 64)
  | .faultWireRetest _ rq v => requesterOk rq && upTo v (2 ^ 64)
  | .faultFirstClear _ rq v => requesterOk rq && upTo v (2 ^ 64)
  | .faultCntClear _ rq v => requesterOk rq && upTo v (2 ^ 64)
  | .errNRelease _ rq v => requesterOk rq && upTo v (2 ^ 64)
  | .errNMinExpire _ => true
  | .ctrlMiscompare _ _ _ => true
  | .ctrlAudit _ _ _ => true
  | .ctrlCheckFail _ unit => upTo unit 2
  | .ctrlSelftest _ _ => true
  | .ctrlUnitTestDone _ unit _ => upTo unit 2
  | .ctrlReintegStart _ rq v => requesterOk rq && upTo v (2 ^ 64)
  | .ctrlReintegCopyDone _ => true
  | .simplexAudit _ _ => true
  | .safeEnter _ rq v => requesterOk rq && upTo v (2 ^ 64)
  | .strandResetReq _ rq v => requesterOk rq && upTo v (2 ^ 64)
  | .strandReset _ => true
  | .strandUp _ => true
  | .deviceResetReq _ rq v => requesterOk rq && upTo v (2 ^ 64)
  | .deviceReset straps => upTo straps.seg 256
  | .retestCellDomain _ rq v => requesterOk rq && upTo v (2 ^ 64)
  | .retestLaneGroup _ rq v => requesterOk rq && upTo v (2 ^ 64)
  | .pwrPhaseFail _ reg domain _ => upTo reg 5 && upTo domain 68
  | .domainReq _ rq domain v => requesterOk rq && upTo domain 16 && upTo v (2 ^ 64)
  | .domainWake _ domain => upTo domain 68
  | .domainPowerGood _ domain us => upTo domain 68 && upTo us 65536
  | .domainWakeTimeout _ domain => upTo domain 68
  | .domainPowerLoss _ domain => upTo domain 68
  | .xinStatusChange v => upTo v 3
  | .aoclkCal _ src _ => upTo src 3
  | .feedOutOfRange _ => true
  | .pwrFeedsLow => true
  | .regulatorShutdown => true
  | .thermSample _ sensor temp _ => upTo sensor 13 && i16Ok temp
  | .thermDomainShutdown _ domain => upTo domain 16
  | .thermRestart _ domain => upTo domain 256
  | .strandPower _ rq v => requesterOk rq && upTo v (2 ^ 64)
  | .porNRelease straps => upTo straps.seg 256
  | .pwrEnFall _ => true
  | .testEn _ => true
  | .extest => true
  | .idcode => true
  | .samplePreload _ _ => true
  | .bypass => true
  | .dbgFrame _ f => frameOk f
  | .lanyardWrite _ port f => upTo port 2 && frameOk f
  | .lydLinkUp _ port => upTo port 2
  | .jesdLinkUp _ link => upTo link 8
  | .hpLinkUp speed width => upTo speed 6 && upTo width 17
  | .pePerstNRelease => true
  | .pwrEnRise _ => true
  | .feedInRange _ => true
  | .trainingBurstRx _ n _ _ => upTo n 128
  | .timeTodMissing _ => true
  | .ptpDelayReqTx _ => true
  | .cellSelftestDone _ p _ => upTo p 272
  | .lanePrbsTestDone _ pair errors _ => upTo pair 26 && upTo errors (2 ^ 32)

end Sys2Proof
end

