-- ==== Sys2Proof/Safety.lean ====
section
/-! DEFINITION. What counts as a sound state and a safe step of the block, and the words that the statements use: a
part that is ready for a command, the state that a command leaves, and the conditions of a dictionary access. -/

namespace Sys2Proof.Machine

/-! ### Sound states -/

/-- The store partition's memory (R204) is in canonical form; an unlisted byte reads zero (R422). -/
abbrev Memory.wf (m : SMap Byte) : Bool := smWf zeroByteAt m

/-- The dictionary values of a strand are in canonical form. -/
abbrev Strand.regsOk (d : Strand) : Bool := smWf (dictDefault d.id.num) d.regs

/-- A step that answers a next state. -/
def Completes (i : Instr) (s : State) : Prop := ∃ t, exec i s = .next t

/-- The queue holds well-formed commands only. -/
def QueueOk (s : State) : Prop := ∀ c ∈ s.pending, c.wf = true

/-- The sources at (1, 0) of a strand stand in ascending order, each with a 16-bit INSTANCE (R384, R385). -/
def railsOk (l : List (Nat × Nat)) : Bool :=
  decide (l.Pairwise fun a b => a.1 < b.1) && l.all fun x => decide (x.2 < 65536)

/-! ### A part that is ready for a command -/

/-- Nothing of a strand waits for the collector: no source is at (1, 0), no reset is called for, no answer is due to
an access that a reset cut off. -/
def Strand.still (d : Strand) : Bool :=
  d.flt.rails.isEmpty && !d.flt.resetReq && !d.flt.devReq && !d.flt.pkgInt && d.mgmt.asks.all fun a => decide (a.cut = 0)

/-- The part has power and is not held in device reset, and no strand has anything for the collector. -/
def State.ready (s : State) : Bool :=
  !s.pkg.inHold && s.pkg.newId.isNone && s.st0.still && s.st1.still && s.st2.still && s.st3.still

/-- No strand sleeps and the two shared domains that sleep can turn off have power (R412, R423). -/
def State.awake (s : State) : Bool :=
  decide (s.st0.sleep = 0) && decide (s.st1.sleep = 0) && decide (s.st2.sleep = 0) && decide (s.st3.sleep = 0) &&
    decide (s.pkg.domain 0x40 ≠ 0) && decide (s.pkg.domain 0x41 ≠ 0)

/-- The part is ready, and the fast clocks of the command's strand run. -/
def State.runs (s : State) (k : StrandId) : Bool := s.ready && (s.strand k).live

/-! ### What a command leaves -/

/-- The strand as a command finds it: at the command's time, with nothing driven out yet. -/
def State.found (s : State) (w : At) : Strand := (s.strand w.k).atTime w.t

/-- The state in which a command left strand `k` as `d`; the package has driven nothing out. -/
def State.leave (s : State) (k : StrandId) (d : Strand) : State := { s with pkg := { s.pkg with out := [] } }.setStrand k d

/-- A command of strand `w.k` answers a next state in which its strand is `d` and everything else is as before. -/
def Leaves (i : Instr) (s : State) (w : At) (d : Strand) : Prop := exec i s = .next (s.leave w.k d)

/-- A command of strand `w.k` answers a next state in which its strand is `d`, with what the collector then makes of
the sources that stand at its rails (R384 to R389), and everything else is as before. -/
def Becomes (i : Instr) (s : State) (w : At) (d : Strand) : Prop := exec i s = .next (settle (s.leave w.k d) w.k)

/-- A command of strand `w.k` answers a next state in which the package is `g`, its strand is `d`, and everything else
is as before. -/
def LeavesPart (i : Instr) (s : State) (w : At) (g : Pkg) (d : Strand) : Prop :=
  exec i s = .next ({ s with pkg := g }.setStrand w.k d)

/-- A command of strand `w.k` answers a next state in which the package is `g` and its strand is `d`, with what the
collector then makes of the sources at the rails (R384 to R389) and of a device ID just taken (R363). -/
def BecomesPart (i : Instr) (s : State) (w : At) (g : Pkg) (d : Strand) : Prop :=
  exec i s = .next (settle ({ s with pkg := g }.setStrand w.k d) w.k)

/-! ### Dictionary accesses (R371 to R376) -/

/-- The dictionary unit of the strand answers at once: the sage runs, and no access or load waits. -/
def Strand.dictFree (d : Strand) : Bool := d.sageUp && !d.inReset && !(dictBusy d)

/-- Protection grants a requester a write of a location whose entry has level `lv`. -/
def Strand.mayWrite (d : Strand) (rq : Requester) (index sub lv : Nat) : Bool :=
  d.granted rq index sub lv true && decide (rq ≠ .pf4)

/-- What a dictionary write of an entry of level `lv` needs: the dictionary answers at once and protection grants it. -/
def State.writable (s : State) (w : At) (rq : Requester) (index sub lv : Nat) : Bool :=
  s.ready && s.awake && (s.found w).dictFree && (s.found w).mayWrite rq index sub lv

/-- The dictionary takes a write of a location: its entry exists and protection grants its level. -/
def State.takes (s : State) (w : At) (rq : Requester) (index sub : Nat) : Bool :=
  match dictFind index sub with
  | some r => s.writable w rq index sub r.level
  | none => false

/-- Counters of an index stand at their defaults in `e`, and every other location of `d` and `e` is alike. -/
def clearedIn (d e : Strand) (index : Nat) (subs : List Nat) : Prop :=
  (∀ x ∈ subs, e.get index x = dictDefault d.id.num (locKey index x)) ∧
  ∀ i x, (∀ y ∈ subs, locKey i x ≠ locKey index y) → e.get i x = d.get i x

/-! ### Whole-machine rules -/

/-- The strand of a command that acts on its own strand only: what a cell, a chain, a queue, a lane, a reference, a
unit or an engine of the strand does. Commands that a requester or the package sends are not among them. -/
def ownStrand (i : Sys2Proof.Instr) : Option At :=
  match i with
  | .runStart w _ | .kernelStep w _ _ _ | .cellScrubRead w _ _ _ _ | .write w _ _ _ | .select w _ _
  | .flags w _ _ _ | .setBase w _ _ _ | .setN0 w _ _ _ | .copyBank w _ _ _ | .runGate w _ _ | .mirror w _ _
  | .owners w _ | .marginRead w _ _ | .debugCaptureTake w | .beatInstanceStart w _ | .slotTransfer w _ _ _
  | .blockArrival w _ _ _ | .windowClose w _ _ | .ingestSlot w _ _ _ | .hotWriteApply w _ | .planCheckDone w
  | .cutoverEnd w _ | .hotPatchApply w | .splicePrepareDone w _ _ | .spliceTileCopy w _ _ | .spliceRetire w _
  | .storeScrub w _ _ | .softRepairSwitch w | .outputTurn w _ | .packetTxDone w _ | .queueStall w _
  | .snapBlockQueue w _ _ _ | .detectorEvent w _ _ _ _ | .unitHorizonAdvance w _ | .actionAssert w _
  | .trigOutPulseEnd w _ | .raiseExpire w _ | .trigInEdge w _ | .trigInPulseEnd w _ | .trigInDeliver w _
  | .trigInStuck w _ | .inputUnmaskApply w _ | .hitchTrim w _ | .spareSelftest w _ _ _ | .losDetect w _
  | .losClear w _ | .cdrLockLoss w _ | .laneTrainDone w _ | .codewordRx w _ _ _ | .laneBerCheck w _
  | .agushFrameRx w _ _ _ | .idle w _ _ | .sum w _ _ | .trig w _ _ | .time w _ _ | .timeFrameTx w _
  | .idleFrameForce w _ | .bondSeqTimeout w _ | .bondDegraded w _ _ | .eiEnter w _ | .eiExit w _
  | .laneSwapStart w _ | .swapSwitch w _ | .swapOldPairStop w _ | .swapTimeout w _ | .ethFrameRx w _ _
  | .ethLaneSwap w _ _ | .ethLinkDown w _ | .ethLinkUp w _ | .jesdLemcEdge w _ _ _ | .jesdLinkDown w _
  | .jesdCrc w _ | .refQualify w _ | .refBreak w _ | .freqMeasureEnd w _ _ | .ref10Edge w _ _ | .ppsEdge w _ _
  | .lockAchieved w | .switchSlewStart w _ | .switchComplete w | .holdoverLimit w | .loopNarrow w | .ptpRx w _
  | .ppsOutPulse w | .cmdqDb w _ | .cmdFetch w _ | .nop w | .dictRead w _ | .planLoadDma w _ | .dictDescribe w _
  | .commandComplete w | .evqDb w _ | .dmaPacketTransfer w _ _ | .dmaCqDb w _ _ | .dmaIntHold w _
  | .dmaDisable w _ | .creditStall w _ | .bar4Read w _ _ | .smDecodeMiss w _ _ | .smTimeout w _ _ _
  | .sageWatchdog w | .noHeadTimeout w | .sessionIdleTimeout w _ | .lockoutExpire w | .railFault w _
  | .ladderStepDone w _ _ | .ladderCleanExpire w _ _ | .errNMinExpire w | .ctrlMiscompare w _ _
  | .ctrlAudit w _ _ | .ctrlCheckFail w _ | .ctrlSelftest w _ | .ctrlUnitTestDone w _ _ | .ctrlReintegCopyDone w
  | .simplexAudit w _ | .strandReset w | .strandUp w | .thermSample w _ _ _ | .thermDomainShutdown w _
  | .thermRestart w _ | .jesdLinkUp w _ | .trainingBurstRx w _ _ _ | .timeTodMissing w | .ptpDelayReqTx w
  | .cellSelftestDone w _ _ | .lanePrbsTestDone w _ _ _ => some w
  | _ => none

/-- A LEVEL0_KEY that is programmed has no burn of a key under way (R380). -/
def State.keySafe (s : State) : Bool := s.pkg.key.isNone || s.pkg.burnKey.isNone

end Sys2Proof.Machine
end

