-- ==== Sys2Proof/Certificates/Slice0/Obligations.lean ====
section
/-! DEFINITION. The statements for the provers, one definition each, from the numbered rules of spec/ file by file. `Leaves`,
`Becomes` and the other words they share are in Sys2Proof/Safety.lean. -/

open Sys2Proof Sys2Proof.Machine

/-! ### The words of the control port (R185) -/

/-- A control-port word decodes to the command it spells (R185): the word of a well-formed command is one of 64 bits
and gives it back with every operand, whatever its reserved bits hold (R6); a reserved OP and a CELL that names no
cell spell none, and neither does a word of another length. -/
def Obligations.ControlWords : Prop :=
  (∀ (i : Instr) (w r : Nat), i.wf = true → ownStrand i = some wordAt → encodeControl i = some w → r < 8 →
    w < 2 ^ 64 ∧ decodeTableWord 64 w = some i ∧ decodeTableWord 64 (w + r * 2 ^ 13) = some i) ∧
  (∀ w : Nat, (w % 16 = 0 ∨ 10 ≤ w % 16 ∨ 272 ≤ w / 2 ^ 4 % 2 ^ 9) → decodeTableWord 64 w = none) ∧
  ∀ n w : Nat, n ≠ 64 → decodeTableWord n w = none

/-! ### The queue and reset -/

/-- A step takes the command at the front of the queue and runs it with the queue's rest; on an empty queue the
block idles (assumption log 1). -/
def Obligations.StepRunsFront : Prop :=
  (∀ (c : Instr) (s : State), step { s with pending := c :: s.pending } = exec c s) ∧
  ∀ s : State, s.pending = [] → step s = .next s

/-! ### The whole block -/

/-- The block after reset (R302, R378, R401, R422): no command waits; every strand runs without a plan, its time is
0, its cells, tiles, queues and units are empty and closed, no reference is selected and no source stands at its
rails; every byte of a store partition reads 0, its row map is the identity, and the memory and the dictionary
values are in canonical form. The straps, the requesters' registers and the values that the spec does not give are
the model's (assumption log 2 to 4). -/
def Obligations.ResetLeaves : Prop :=
  let s := State.reset
  s.pending = [] ∧ s.ready = true ∧ s.awake = true ∧ s.keySafe = true ∧
  ∀ k, let d := s.strand k
    d.id = k ∧ d.stState = 1 ∧ d.hasPlan = false ∧ d.now = 0 ∧ d.timeState = 0 ∧ d.refSel = 0x0F ∧ d.mgmt.sessions = [] ∧
      d.flt.rails = [] ∧ d.host.held = [] ∧ d.regsOk = true ∧ Memory.wf d.store.mem = true ∧ d.ctrlState = 0 ∧
      (∀ a, d.storeByte a = 0) ∧ (∀ p, d.cell p = {}) ∧ (∀ r, smGet zeroAt d.store.rowMap r = 0)

/-- A step never changes a LEVEL0_KEY that is programmed (R380), and keeps the rule that no burn of a key is under
way then. -/
def Obligations.KeyIsKept : Prop :=
  ∀ (s t : State), s.keySafe = true → step s = .next t →
    t.keySafe = true ∧ ∀ v, s.pkg.key = some v → t.pkg.key = some v

/-- A command that acts on its own strand leaves the other three strands as they are, and of the package everything
but what it drives out, an answer to the debug port and PF4's vectors, where the strand's collector does not call
for a device reset (R9, R383, R404). -/
def Obligations.StrandsApart : Prop :=
  ∀ (i : Instr) (w : At) (s : State), ownStrand i = some w → s.ready = true →
    ∃ d, exec i s = .next (settle (s.leave w.k d) w.k) ∧
      ((collect { s.pkg with out := [] } d).flt.devReq = false →
        let t := settle (s.leave w.k d) w.k
        (∀ k, k ≠ w.k → t.strand k = s.strand k) ∧ t.pending = s.pending ∧ t.pkg.regs = s.pkg.regs ∧
          t.pkg.key = s.pkg.key ∧ t.pkg.devId = s.pkg.devId ∧ t.pkg.win4 = s.pkg.win4 ∧ t.pkg.straps = s.pkg.straps)

/-! ### Cells (02_cell.md) and their control port (R185) -/

/-- The control-port commands that set one register of a cell answer a next state that differs from the one before
in that register only (R185): SELECT the memory that WRITE names, SET_N0 the sample index of a unit, RUN_GATE the
gate, MIRROR the spare that takes the same commands, OWNERS every owner tag. While a cell has a MIRROR, a
control-port command reaches the named spare too, with the same effect (R181, R185). -/
def Obligations.ControlPort : Prop :=
  (∀ (s : State) (w : At) (p : Nat), s.runs w.k = true → p < 272 → ((s.strand w.k).cell p).mirror = none →
     let c := (s.strand w.k).cell p
     let sets (i : Instr) (c' : Cell) : Prop := Leaves i s w ((s.found w).setCell p c')
     (∀ (m : CellMem) (addr : Nat), addr % 4 = memCode m → sets (.select w p addr) { c with sel := m }) ∧
     (∀ unit arg : Nat, sets (.setN0 w p unit arg)
       { c with n0 := smSet zeroAt c.n0 unit arg, n0Set := (unit :: c.n0Set).dedup }) ∧
     (∀ arg : Nat, sets (.runGate w p arg) { c with gateOpen := bit arg 0 }) ∧
     (∀ arg : Nat, bit arg 0 = true → bits arg 16 9 < 272 →
       sets (.mirror w p arg) { c with mirror := some (bits arg 16 9) }) ∧
     (∀ arg : Nat, bit arg 0 = false → sets (.mirror w p arg) c) ∧
     (smWf (fun _ => ({} : Tile)) c.tiles = true →
       ∃ tiles, sets (.owners w p) { c with tiles := tiles } ∧
         ∀ n, smGet (fun _ => ({} : Tile)) tiles n =
           if n < 64 then { c.tile n with owner := none, collided := false } else c.tile n)) ∧
  (∀ (s : State) (w : At) (p q : Nat), s.runs w.k = true → p < 272 → ((s.strand w.k).cell p).mirror = some q → q ≠ p →
     let both (i : Instr) (f : Cell → Cell) : Prop :=
       Leaves i s w (((s.found w).setCell p (f ((s.strand w.k).cell p))).setCell q (f ((s.strand w.k).cell q)))
     (∀ addr arg, both (.write w p addr arg) (cpWrite addr arg)) ∧ (∀ addr, both (.select w p addr) (cpSelect addr)) ∧
     (∀ unit arg, both (.flags w p unit arg) (cpFlags unit arg)) ∧ (∀ unit arg, both (.setN0 w p unit arg) (cpSetN0 unit arg)) ∧
     both (.owners w p) cpOwners)

/-- WRITE stores the four bytes of ARG at ADDR in the memory of the last SELECT, FLAGS sets CLEAR and DUMP of the
parameter block at a unit, SET_BASE the BASE of AG3 of the set at a unit (R185, R39, R33) where no bank swap is
under way, and COPY_BANK copies bytes of the active bank to the other (R132); every other byte of the cell's
memories, the cell's registers and every other cell are unchanged. -/
def Obligations.ControlPortStores : Prop :=
  ∀ (s : State) (w : At) (p : Nat), s.runs w.k = true → p < 272 → ((s.strand w.k).cell p).mirror = none →
    let c := (s.strand w.k).cell p
    let stores (c' : Cell) (m a : Nat) (b : List Byte) : Prop :=
      (∀ j, (h : j < b.length) → smGet zeroByteAt (c'.memOf m) (a + j) = b[j]) ∧
      (∀ n x, n < 4 → (n ≠ m ∨ x < a ∨ a + b.length ≤ x) →
        smGet zeroByteAt (c'.memOf n) x = smGet zeroByteAt (c.memOf n) x) ∧
      c'.tiles = c.tiles ∧ c'.n0 = c.n0 ∧ c'.sel = c.sel ∧ c'.outQ = c.outQ ∧ c'.pos = c.pos ∧ c'.running = c.running
    (∀ m, m < 4 → Memory.wf (c.memOf m) = true) → smWf (fun _ => ({} : Cell)) (s.strand w.k).cells = true →
    (∀ addr arg, c.sel ≠ .totals → addr + 4 ≤ memSize (memCode c.sel) →
      ∃ c', Leaves (.write w p addr arg) s w ((s.found w).setCell p c') ∧
        stores c' (memCode c.sel) addr (natToBytes 4 arg)) ∧
    (∀ unit arg, unit < 128 →
      ∃ c', Leaves (.flags w p unit arg) s w ((s.found w).setCell p c') ∧
        stores c' 3 (64 * unit + 4)
          [BitVec.ofNat 8 (setBit (setBit (smGet zeroByteAt c.pm (64 * unit + 4)).toNat 5 (bit arg 0)) 6 (bit arg 1))]) ∧
    (∀ unit arg, unit < 128 → (s.strand w.k).work.swaps = [] →
      ∃ c', Leaves (.setBase w p unit arg) s w ((s.found w).setCell p c') ∧
        stores c' 3 (64 * unit + 24) (natToBytes 2 arg)) ∧
    (∀ unit n, let a := ag3Of c unit
      let other := otherBase ((s.found w).planOf ((s.found w).runsAs p)) ((s.found w).runsAs p) unit a.base
      n < 65536 → a.mem < 3 → other + n ≤ memSize a.mem →
      ∃ t, exec (.copyBank w p unit n) s = .next t ∧
        stores ((t.strand w.k).cell p) a.mem other
          ((List.range n).map fun i => smGet zeroByteAt (c.memOf a.mem) ((a.base + i) % memSize a.mem)) ∧
        ∀ q, q ≠ p → (t.strand w.k).cell q = (s.strand w.k).cell q)

/-- A run start of an idle cell that may run starts its step list at entry 0 (R36); a step of a running cell whose
words are all good runs its repetitions one after the other and moves to the next entry, and the run ends with the
entry marked last (R31); a step of an idle cell does nothing. -/
def Obligations.RunAndStep : Prop :=
  ∀ (s : State) (w : At) (p : Nat), s.runs w.k = true →
    let c := (s.strand w.k).cell p
    let f := c.flagsBack
    (∀ cut, (s.found w).mayRun p = true → c.running = false →
      Leaves (.runStart w ⟨p, cut⟩) s w ((s.found w).setCell p
        { f with running := true, stopped := false, pos := 0, gapHot := false, lostRun := f.lostIn, lostIn := false,
                 outQ := if f.stopped then [] else f.outQ })) ∧
    (∀ luck upset, (cellStep (s.found w) p luck upset).still = true →
      Leaves (.kernelStep w p luck upset) s w (cellStep (s.found w) p luck upset)) ∧
    (let se := c.stepAt c.pos
     let pb := c.pmNat (64 * se.pbUnit) 64
     let ags := agSet (c.pmNat (64 * se.agUnit) 64)
     let d := (s.found w).setCell p (c.upset [])
     let l := d.runsAs p
     let free := if pbKernel pb = 3 then d.freeI else (0, d)
     let x : StepEnv := ⟨p, l, c.pos, se, pb, ags, d.planOf l, smGet zeroAt c.n0 se.pbUnit,
       stepBeams d (d.planOf l) l c.pos pb, free.1, d.plan.rcSpent.contains p || d.plan.badCells.contains p || c.lostRun⟩
     c.running = true → c.stopped = false → c.pos < 32 → c.ecc = [] → stepValid se pb ags = true →
      let r := (List.range (min (2 ^ 16) se.rep)).foldl (stepRep x) (free.2, [])
      let t := kernelStepOp (s.found w) p 0 0 []
      let c' := t.1.cell p
      (r.1.cell p).stopped = false →
        t.2 = r.2 ∧ c'.pos = c.pos + 1 ∧ c'.running = !se.last ∧ c'.lastKF = some (pbKernel pb, pbFmt pb) ∧
          c'.outQ = (r.1.cell p).outQ ∧ c'.tiles = (r.1.cell p).tiles ∧ c'.sa = (r.1.cell p).sa ∧
          c'.sb = (r.1.cell p).sb ∧ c'.cm = (r.1.cell p).cm ∧ t.1.regs = r.1.regs) ∧
    (c.running = false → ∀ resid soft upset, kernelStepOp (s.found w) p resid soft upset = (s.found w, []))

/-! ### Counters and health (02, 03, 04, 05, 07, 08, 09, 13) -/

/-- Cell health and the debug window (R32, R65, R92): a scrubber's read that corrects a word counts it once, a good
or an already poisoned word changes nothing; a margin is shown with the least one and one below the limit is raised;
a capture that is asked for in debug mode (R91) takes the totals, status word and owner tag of the tile it named at
the next boundary between steps, or gives NO_CLOCK. -/
def Obligations.CellHealth : Prop :=
  ∀ (s : State) (w : At) (p : Nat), s.runs w.k = true → p < 272 →
    let d := s.found w
    let plain (e : Strand) : Prop := (e.hasRole p && spliceWanted e p && !(e.plan.rcSpent.contains p) && e.sageUp) = false
    (∀ m word, plain d → Leaves (.cellScrubRead w p m word .clean) s w d) ∧
    (∀ m word, 8 * word < memSize (memCode m) → smGet zeroAt (d.cell p).ecc (memCode m * 65536 + word) = 0 →
      d.get (0x5100 + p) 0x03 < 2 ^ 32 - 1 → d.regsOk = true →
      let e := noteEcc (d.bump (0x5100 + p) 0x03 1) p
      plain e → Leaves (.cellScrubRead w p m word .corrected) s w e) ∧
    (∀ m word, 8 * word < memSize (memCode m) → smGet zeroAt (d.cell p).ecc (memCode m * 65536 + word) = 0 →
      let key := memCode m * 65536 + word
      Becomes (.cellScrubRead w p m word .uncorrectable) s w
        (let e := findWords (d.setCell p ((d.cell p).upset [key])) p [key]
         autoSplice (if e.get (0x5100 + p) 0x03 = d.get (0x5100 + p) 0x03 then e else noteEcc e p) p)) ∧
    (∀ margin : Int, d.sageUp = true → Becomes (.marginRead w p margin) s w (autoSplice (marginReadOp d p margin) p)) ∧
    (∀ margin : Int, d.sageUp = false → Leaves (.marginRead w p margin) s w d) ∧
    (∀ rq, s.takes w rq 0x5810 0x03 = true →
      (d.debugMode = true → d.domain (4 + cellDomain (d.get 0x5810 0x01)) = 2 →
        let x := some (d.get 0x5810 0x01, d.get 0x5810 0x02)
        Leaves (.dbgCapture w rq 1) s w ({ d.put 0x5810 0x04 0 with dbg := { d.dbg with request := x } }.answer 0x00)) ∧
      (d.debugMode = true → d.domain (4 + cellDomain (d.get 0x5810 0x01)) ≠ 2 →
        Leaves (.dbgCapture w rq 1) s w ({ d.put 0x5810 0x04 2 with dbg := { d.dbg with request := none } }.answer 0x00)) ∧
      (d.debugMode = true → Leaves (.dbgCapture w rq 0) s w (d.answer 0x00)) ∧
      (d.debugMode = false → ∀ v, v < 2 → Leaves (.dbgCapture w rq v) s w (d.answer 0x01))) ∧
    (d.dbg.request = none → Leaves (.debugCaptureTake w) s w d) ∧
    (∀ q n, d.dbg.request = some (q, n) → d.debugMode = true → d.regsOk = true →
      let t := (d.cell q).tile n
      (d.domain (4 + cellDomain q) = 2 →
        ∃ e, Leaves (.debugCaptureTake w) s w e ∧ e.get 0x5810 0x04 = 1 ∧ e.get 0x5810 0x05 = t.status % 2 ^ 32 ∧
          e.get 0x5810 0x06 = ownerWord t % 2 ^ 32 ∧ e.cells = d.cells ∧ e.dbg = { request := none, tile := t } ∧
          ∀ l, l < 64 → e.get 0x5811 l = ofSigned 64 (t.total (2 * l)) % 2 ^ 64 ∧
            e.get 0x5812 l = ofSigned 64 (t.total (2 * l + 1)) % 2 ^ 64) ∧
      (d.domain (4 + cellDomain q) ≠ 2 →
        Leaves (.debugCaptureTake w) s w { d.put 0x5810 0x04 2 with dbg := { d.dbg with request := none } }))

/-! ### The whole block -/

/-- A cell domain that is powered off loses the total files of its cells and of no other cell; at its wake-up every
tile of a cell that has lost them is closed and its totals are 0 (R90, R30). -/
def Obligations.CellsLost : Prop :=
  ∀ (d : Strand) (dom p : Nat), dom < 8 → smWf (fun _ => ({} : Cell)) d.cells = true →
    (p / 34 = dom → ∀ n, ((domainOff d (4 + dom) 0).cell p).tile n = {}) ∧
    (p / 34 ≠ dom → (domainOff d (4 + dom) 0).cell p = d.cell p) ∧
    (∀ us, p / 34 = dom → (d.cell p).tiles = [] → ∀ n, ((domainGoodOp d (4 + dom) us).cell p).tile n = {})

/-! ### Ingest, braid and correlation banks (04, 05, 07) -/

/-- An accepted block goes to staging with its payload as received (R103, R106), closes its open block, is counted
for the strand and for its stream (R124), and is written into the snap rings of its groups (R231). A block that the
gate refuses in SAFE, without room or for its header is counted under its reason, and changes no staged block, no
store byte and no cell (R103, R124). The ingest gate refuses with the first check that fails, in the order of R103:
SAFE, no room, a bad header, a stream that is not valid, the wrong lane, the wrong format. -/
def Obligations.Blocks : Prop :=
  (∀ (s : State) (w : At) (lane : Nat) (full : Bool) (b : List Byte) (k : Nat), s.runs w.k = true →
     (s.strand w.k).domain 3 = 2 → gateDecide (s.found w) lane full b = (0, k) →
     let d := s.found w
     let st := fieldAt b 0 2 % 4096
     let opens := d.ing.opens.filter fun o => !(decide (o.stream = st) && decide (o.blk = k))
     let d1 := { d with ing := { d.ing with staged := d.ing.staged ++ [(⟨st, k, b, d.tm.partition, false, d.slotTime d.plan.active st k⟩ : Staged)], opens := opens } }
     Leaves (.blockArrival w lane full b) s w
       (snapWrite ((d1.bump 0x4000 0x01 1).bump (0x4300 + st / 256) (st % 256) 1) st k false b)) ∧
  (∀ (s : State) (w : At) (lane : Nat) (full : Bool) (b : List Byte), s.runs w.k = true →
     (s.strand w.k).domain 3 = 2 → 
     let d := s.found w
     let code := (gateDecide d lane full b).1
     code ≠ 0 → (∀ src, refuseSource code = some src → d.flt.onceDone.contains src = true) → d.regsOk = true → code < 256 →
     ∃ t, exec (.blockArrival w lane full b) s = .next t ∧
       (t.strand w.k).get 0x4001 code = min (d.get 0x4001 code + 1) (2 ^ 32 - 1) ∧
       (t.strand w.k).ing.staged = d.ing.staged ∧ (t.strand w.k).store = d.store ∧ (t.strand w.k).cells = d.cells ∧
       (t.strand w.k).q = d.q) ∧
  (∀ (d : Strand) (lane : Nat) (full : Bool) (b : List Byte),
     let e := imgStream d.plan.active (fieldAt b 0 2 % 4096)
     let code := (gateDecide d lane full b).1
     (d.inSafe = true → code = 0x01) ∧
     (d.inSafe = false → full = true → code = 0x02) ∧
     (d.inSafe = false → full = false → headerOk b = false → code = 0x03) ∧
     (d.inSafe = false → full = false → headerOk b = true → (d.hasPlan && stValid e) = false → code = 0x04) ∧
     (d.inSafe = false → full = false → headerOk b = true → (d.hasPlan && stValid e) = true →
       stLane e ≠ d.endpointOf lane → code = 0x05) ∧
     (d.inSafe = false → full = false → headerOk b = true → (d.hasPlan && stValid e) = true →
       stLane e = d.endpointOf lane → fieldAt b 2 1 ≠ stInFmt e → code = 0x06) ∧
     (code = 0 → d.inSafe = false ∧ full = false ∧ headerOk b = true ∧ (d.hasPlan && stValid e) = true ∧
       stLane e = d.endpointOf lane ∧ fieldAt b 2 1 = stInFmt e))

/-- At the closing C(k) of a block's window, once, MISSING is counted and shown for the stream where no block for k
was accepted (R103); where one was, only the closing is noted. Before C(k) nothing changes. At the ingest slot I(k)
of the next expected block of a stream its accepted block, or a gap block in its place, enters the chain (R102,
R107), and the next block is expected; before I(k) nothing changes. A stream delay within DELAY_MAX waits for the
boundary of R14 (R119, R369): the write answers OK and the value in force stays until then. -/
def Obligations.IngestSlots : Prop :=
  (∀ (s : State) (w : At) (st k : Nat), s.runs w.k = true → (s.strand w.k).domain 3 = 2 →
     let d := s.found w
     let shut := { d with ing := { d.ing with closed := smSet zeroAt d.ing.closed st (k + 1) } }
     d.hasPlan = true → stValid (imgStream d.plan.active st) = true →
     smGet zeroAt d.ing.next st ≠ 0 → smGet zeroAt d.ing.next st ≤ k + 1 → smGet zeroAt d.ing.closed st ≤ k →
     (d.closing d.plan.active st k ≤ time80 d.now → d.accepted st k = false → d.flt.onceDone.contains 0x32 = true →
       Leaves (.windowClose w st k) s w ((shut.bump 0x4001 0x0C 1).put (0x4320 + st / 256) (st % 256) 0x0C)) ∧
     (d.closing d.plan.active st k ≤ time80 d.now → d.accepted st k = true → Leaves (.windowClose w st k) s w shut) ∧
     ((time80 d.now : Int) < d.closing d.plan.active st k → Leaves (.windowClose w st k) s w d)) ∧
  (∀ (s : State) (w : At) (st k : Nat), s.runs w.k = true → (s.strand w.k).domain 3 = 2 →
     let d := s.found w
     smGet zeroAt d.ing.next st = k + 1 → stValid (imgStream d.plan.active st) = true → d.hasPlan = true →
     (∀ x ∈ d.ing.staged, x.oldPlan = false) →
     let found := d.ing.staged.find? fun x => decide (x.stream = st) && decide (x.blk = k)
     let own := match found with
       | some x => slotAccepted d x
       | none => slotGap d st k
     let due : Int := match found with
       | some x => x.slot
       | none => d.slotTime d.plan.active st k
     (due ≤ time80 d.now → own.still = true →
       Leaves (.ingestSlot w st k false) s w { own with ing := { own.ing with
         next := smSet zeroAt own.ing.next st (k + 2)
         opens := own.ing.opens.filter fun o => !(decide (o.stream = st) && decide (o.blk ≤ k)) } }) ∧
     ((time80 d.now : Int) < due → Leaves (.ingestSlot w st k false) s w d)) ∧
  (∀ (s : State) (w : At) (rq : Requester) (st v : Nat), st < 4096 → v < 2 ^ 32 →
     s.takes w rq (0x4200 + st / 256) (st % 256) = true →
     let d := s.found w
     (∀ x ∈ d.pendW, x.key = locKey (0x4200 + st / 256) (st % 256) → x.due ≠ boundaryAfter d.now) →
     (v ≤ stDelayMax (imgStream d.plan.active st) →
       Leaves (.streamDelay w rq st v) s w ({ d with pendW := d.pendW ++
         [(⟨boundaryAfter d.now, locKey (0x4200 + st / 256) (st % 256), v⟩ : PendWrite)] }.answer 0x00)) ∧
     (stDelayMax (imgStream d.plan.active st) < v → Leaves (.streamDelay w rq st v) s w (d.answer 0x02)))

/-- An instance of a beat whose start is due begins with no entry run and every descriptor of its entries at word 0
(R194); a transfer of its next entry marks the entry as run and moves the entry's words from source to sink (R200). -/
def Obligations.BeatsRun : Prop :=
  ∀ (s : State) (w : At) (b : Nat), s.runs w.k = true →
    let d := s.found w
    d.braidOn = true →
    (∀ j, beatNumber d b = some j → (d.beat b).start = 0 → beatEntries (d.beatOf b) ≠ 0 →
      Leaves (.beatInstanceStart w b) s w ((resetDescs d b).setBeat b ⟨j, d.now + 1, 0, j + 1⟩)) ∧
    (∀ i land ws d1, i < 65536 → (d.beat b).start ≠ 0 → (d.beat b).done ≤ i → i + 1 < beatEntries (d.beatOf b) →
      let e := d.slotOf b i
      let dd := d.setBeat b { d.beat b with done := i + 1 }
      slotSource dd b e land.units = some (ws, d1) → ws.length = slotWords e →
      let t := slotSink { s.pkg with out := [] } b e land
        (if 0x200 ≤ slotSrc e then imgDesc (d.beatPlan b) (d.beatProf b) (slotSrc e - 0x200) else 0)
        (smGet zeroAt d.descJ (descKey b (slotSrc e - 0x200))) ws d1
      t.still = true → Leaves (.slotTransfer w b i land) s w t)

/-- A delay or weight load that R135 accepts goes into the bank that is not active, at the offset of its first
entry, and answers OK; one that must wait is held, its answer to come. A held load is applied once nothing holds it
back, in the order of arrival (R135): with none held back the dictionary unit has no load left. A hot write that
R135 accepts waits for a gap of its cell, and a gap between two runs takes one: it goes into the active bank, and
WGEN of its context and HOT_APPLIED count it (R136, R137). A further gap event of the same gap, and one while the
cell runs, apply nothing. -/
def Obligations.BankWrites : Prop :=
  (∀ (s : State) (w : At) (rq : Requester) (n : Nat) (b : List Byte), 1 ≤ b.length → b.length ≤ 256 →
     let d := s.found w
     let loads (i : Instr) (h : HeldLoad) : Prop := loadOk d h = true →
       (∀ x, loadWaits d h = false → loadPlace d h = some x →
         let a := ag3Of (d.cell x.phys) x.unit
         let base := otherBase (d.planOf (d.runsAs x.phys)) (d.runsAs x.phys) x.unit a.base
         Leaves i s w ((d.onCell x.phys fun c => c.storeBytes a.mem ((base + x.off) % memSize a.mem) (b.drop 8)).answer 0x00)) ∧
       (loadWaits d h = true →
         Leaves i s w ({ d with work := { d.work with held := d.work.held ++ [h] } }.answer 0xFF))
     (n < 256 → s.takes w rq (0x5400 + n) 0x01 = true → loads (.delayLoad w rq n b) ⟨0, n, b⟩) ∧
     (n < 4096 → s.takes w rq (0x8000 + n) 0x02 = true → loads (.weightLoad w rq n b) ⟨1, n, b⟩)) ∧
  (∀ (s : State) (w : At), s.runs w.k = true → s.awake = true →
     let d := s.found w
     d.mgmt.asks = [] → d.mgmt.queue = [] → (d.work.held.all fun h => !(loadWaits d h)) = true →
     ∃ t, exec (.loadApply w) s = .next t ∧ (t.strand w.k).work.held = [] ∧
       t.strand w.k = d.work.held.foldl (fun e h => (loadApplyTo e h).answer 0x00) { d with work := { d.work with held := [] } }) ∧
  (∀ (s : State) (w : At) (rq : Requester) (n : Nat) (b : List Byte),
     let d := s.found w
     (1 ≤ b.length → b.length ≤ 256 → n < 4096 → s.takes w rq (0x8000 + n) 0x04 = true → loadOk d ⟨2, n, b⟩ = true →
       Leaves (.weightHot w rq n b) s w ((bankStatus { d with work := { d.work with hots := d.work.hots ++ [⟨2, n, b⟩] } } 1
         (loadBank d ⟨2, n, b⟩).2).answer 0x00)) ∧
     (∀ p h rest, s.runs w.k = true → (d.cell p).running = false → (d.cell p).gapHot = false → d.work.hots = h :: rest →
       hotCell d h = p → (∀ x ∈ rest, hotCell d x ≠ p) →
       let e := loadApplyTo { d with work := { d.work with hots := rest } } h
       let e := e.setCell p { e.cell p with gapHot := true }
       let e := (e.put (0x8000 + h.target) 0x05 (e.get (0x8000 + h.target) 0x05 + 1)).bump 0x5700 0x05 1
       Leaves (.hotWriteApply w p) s w (bankStatus e 1 (loadBank e h).2)) ∧
     (∀ p, s.runs w.k = true → (d.cell p).running = true ∨ (d.cell p).gapHot = true → Leaves (.hotWriteApply w p) s w d))

/-- A swap write under a plan replaces the pending swap of its bank while that one's boundary is at least 100 µs
away (R134): it names its boundary, also at least 100 µs away, or with 0 takes the one that R14 gives. A refused
one, for want of a plan too (the model's reading, assumption log 45), changes no swap, answers INVALID_VALUE and
counts in SWAP_REFUSED. -/
def Obligations.BankSwaps : Prop :=
  ∀ (s : State) (w : At) (rq : Requester) (v : Nat), v < 2 ^ 64 →
    let d := s.found w
    let swaps (i : Instr) (kind target : Nat) : Prop :=
      let e := if v = 0 then boundaryAfter d.now else v
      let rest := d.work.swaps.filter fun x => !(decide (x.kind = kind) && decide (x.target = target))
      let mayReplace : Prop := ∀ x, d.swapOf kind target = some x → inTime d.now x.epoch = true
      (d.hasPlan = true → mayReplace → (v ≠ 0 → inTime d.now v = true) →
        Leaves i s w ((bankStatus { d with work := { d.work with swaps := rest ++ [(⟨kind, target, e, decide (v ≠ 0)⟩ : Swap)] } }
          kind target).answer 0x00)) ∧
      (d.hasPlan = false ∨ ¬mayReplace ∨ (v ≠ 0 ∧ inTime d.now v = false) →
        Leaves i s w ((d.bump 0x5700 0x04 1).answer 0x02))
    (∀ cell, cell < 256 → s.takes w rq (0x5400 + cell) 0x02 = true → swaps (.delaySwap w rq cell v) 0 cell) ∧
    (∀ ctx, ctx < 4096 → s.takes w rq (0x8000 + ctx) 0x03 = true →
      swaps (.weightSwap w rq ctx v) 1 (ctxTarget (imgContext d.plan.active ctx)))

/-! ### The whole block -/

/-- WGEN of a beam context (R137), a 16-bit counter that wraps, counts a swap of the context's step that takes
effect and a hot write to the context that is applied, and nothing else of the two; a cell that runs, or that has
taken a hot write in the gap between its runs, takes none (R136). -/
def Obligations.WeightGenerations : Prop :=
  ∀ (d : Strand) (c : Nat), d.regsOk = true → c < 4096 →
    let wgen (e : Strand) : Nat := e.get (0x8000 + c) 0x05
    (∀ target epoch, c ∈ stepContexts d.plan.active target → wgen (swapTake d 1 target epoch) = (wgen d + 1) % 2 ^ 16) ∧
    (∀ target epoch, c ∉ stepContexts d.plan.active target → wgen (swapTake d 1 target epoch) = wgen d) ∧
    (∀ p h, (d.cell p).running = false → (d.cell p).gapHot = false →
      (d.work.hots.find? fun h => decide (hotCell d h = p)) = some h → h.target < 4096 →
      wgen (hotApplyOp d p) = if h.target = c then (wgen d + 1) % 2 ^ 16 else wgen d) ∧
    (∀ p, ((d.cell p).running = true ∨ (d.cell p).gapHot = true) → hotApplyOp d p = d)

/-! ### Plans, commits and splices (06_plans.md) -/

/-- A write of PLAN_LOAD puts its bytes into the SHADOW slot at its offset; at offset 0 the slot is emptied first
and is LOADING (R154); while CHECKING or PENDING it answers ACCESS_ERROR, and a bad offset or length answers
INVALID_VALUE (R165). A write of 1 to PLAN_CHECK sets CHECKING unless a check or a commit is under way (R166); the
check's end sets CHECKED, with the result of R168 to R170 and the latencies that the plan will promise, or FAILED
with the first condition that does not hold and its place (R167). -/
def Obligations.PlanLoadsAndChecks : Prop :=
  (∀ (s : State) (w : At) (rq : Requester) (b : List Byte), 1 ≤ b.length → b.length ≤ 256 →
     s.takes w rq 0x6000 0x01 = true →
     let d := s.found w
     let off := fieldAt b 0 4
     let bad := decide (b.length < 8) || decide (off % 8 ≠ 0) || decide (0x01000000 < off + (b.length - 8))
     (shadowBusy d = false → bad = false →
       Leaves (.planLoad w rq b) s w (((if off = 0 then (emptySlot d).setShadow 1 else d).storeWrite (d.shadowBase + off)
         (b.drop 8)).answer 0x00)) ∧
     (shadowBusy d = false → bad = true → Leaves (.planLoad w rq b) s w (d.answer 0x02)) ∧
     (shadowBusy d = true → Leaves (.planLoad w rq b) s w (d.answer 0x01))) ∧
  (∀ (s : State) (w : At) (rq : Requester),
     let d := s.found w
     let g := { s.pkg with out := [] }
     (s.takes w rq 0x6000 0x02 = true → shadowBusy d = false →
       Leaves (.planCheck w rq 1) s w (((d.setShadow 2).put 0x6001 0x01 1).answer 0x00)) ∧
     (s.takes w rq 0x6000 0x02 = true → shadowBusy d = true → Leaves (.planCheck w rq 1) s w (d.answer 0x01)) ∧
     (s.runs w.k = true → d.shadowState = 2 → checkVerdict g d d.shadowImage = none → d.plan.recommit = false →
       let e := ((d.setShadow 3).put 0x6001 0x01 2).put 0x6001 0x02 (256 * b2n (checkWarn d d.shadowImage))
       let e := fillLatencies (e.put 0x6001 0x03 0) d.shadowImage
       Leaves (.planCheckDone w) s w { e with plan := { e.plan with rateChecked := e.get 0x7100 0x01 } }) ∧
     (s.runs w.k = true → d.shadowState = 2 → ∀ x, checkVerdict g d d.shadowImage = some x →
       let e := ((d.setShadow 4).put 0x6001 0x01 3).put 0x6001 0x02 (x.1 + x.2.1 * 65536)
       let e := { e with plan := { e.plan with recommit := false } }
       Becomes (.planCheckDone w) s w ((e.put 0x6001 0x03 x.2.2).raise 0x40 0xFFFF)))

/-- A write of PLAN_COMMIT sets PENDING for the boundary that it names, or with 0 for the first at least 100 µs
away; it is refused with COMMIT_RESULT 4 while another commit waits, 2 where SHADOW is not CHECKED, 3 where the
boundary is too near, in this order, and then changes nothing else (R174). A write of 1 to PLAN_CANCEL at least 100
µs before the boundary takes the commit back: SHADOW is CHECKED again and COMMIT_RESULT is 7; later it answers
ACCESS_ERROR and the commit stays; while LOADING it empties the slot (R174). -/
def Obligations.PlanCommitsAndCancels : Prop :=
  (∀ (s : State) (w : At) (rq : Requester) (v : Nat), v < 2 ^ 64 → s.takes w rq 0x6000 0x03 = true →
     let d := s.found w
     let late := decide (v ≠ 0) && !(inTime d.now v)
     let e := if v = 0 then boundaryAfter d.now else v
     (d.plan.pend.isSome = true → Leaves (.planCommit w rq v) s w ((d.put 0x6000 0x09 4).answer 0x02)) ∧
     (d.plan.pend = none → d.shadowState ≠ 3 → Leaves (.planCommit w rq v) s w ((d.put 0x6000 0x09 2).answer 0x02)) ∧
     (d.plan.pend = none → d.shadowState = 3 → late = true →
       Leaves (.planCommit w rq v) s w ((d.put 0x6000 0x09 3).answer 0x02)) ∧
     (d.plan.pend = none → d.shadowState = 3 → late = false →
       let c := (d.setShadow 5).put 0x6000 0x08 e
       Leaves (.planCommit w rq v) s w ({ c with plan := { c.plan with pend := some e } }.answer 0x00))) ∧
  (∀ (s : State) (w : At) (rq : Requester), s.takes w rq 0x6000 0x04 = true →
     let d := s.found w
     (∀ e, d.plan.pend = some e → inTime d.now e = true →
       let c := { d with plan := { d.plan with pend := none, recommit := false } }
       Leaves (.planCancel w rq 1) s w (((c.setShadow 3).put 0x6000 0x09 7).answer 0x00)) ∧
     (∀ e, d.plan.pend = some e → inTime d.now e = false → Leaves (.planCancel w rq 1) s w (d.answer 0x01)) ∧
     (d.plan.pend = none → d.shadowState = 1 →
       Leaves (.planCancel w rq 1) s w (((emptySlot d).setShadow 0).answer 0x00)) ∧
     (d.plan.pend = none → d.shadowState ≠ 1 → Leaves (.planCancel w rq 1) s w (d.answer 0x01)))

/-- A hot patch is taken only under a plan that allows it and with a payload that keeps R184; it waits for a gap of
its cell, then goes into the parameter memory, resets the AG0 offset of its unit, and raises PLAN_HOT_PATCH. -/
def Obligations.HotPatches : Prop :=
  ∀ (s : State) (w : At) (rq : Requester) (b : List Byte),
    let d := (s.found w).touchSession rq
    (1 ≤ b.length → b.length ≤ 256 → s.takes w rq 0x6000 0x0C = true →
      ((d.hasPlan && bit (imgFlags d.plan.active) 1) = true → patchOk d b = true →
        Leaves (.planHotPatch w rq b) s w ({ d with work := { d.work with patches := d.work.patches ++ [b] } }.answer 0x00)) ∧
      ((d.hasPlan && bit (imgFlags d.plan.active) 1) = true → patchOk d b = false →
        Leaves (.planHotPatch w rq b) s w (d.answer 0x02)) ∧
      ((d.hasPlan && bit (imgFlags d.plan.active) 1) = false → Leaves (.planHotPatch w rq b) s w (d.answer 0x01))) ∧
    (∀ rest, s.runs w.k = true →
      let d := s.found w
      let l := fieldAt b 0 1
      d.work.patches = b :: rest → (d.cell (d.physOf l)).running = false →
      let e := { d with work := { d.work with patches := rest }, plan := { d.plan with patched := (l :: d.plan.patched).dedup } }
      let e := e.onCell (d.physOf l) fun c =>
        { (c.storeBytes 3 (64 * fieldAt b 1 1 + fieldAt b 2 2) (b.drop 8)).dropAg0 (fieldAt b 1 1) with lastKF := none }
      Becomes (.hotPatchApply w) s w (shadowStale (e.raise 0x47 l)))

/-- A splice asked for a cell with a role, in a domain with power and with reserve and a usable spare left for which
the plan holds the cell's routes, begins: its boundary is the first at least 100 µs away, the lowest such spare is
under test and mirrors the cell (R179 to R181). A splice goes on: the end of its prepare copy gives the spare the
retiring cell's memories, with uncorrectable words poisoned (R181); once in effect, each tile of totals that pass
ECC goes to the spare (R89); after the retiring cell's last run mirroring stops, and the cell is FAILED where it
failed, else TESTING (R180). At the end of a logical cell's cut-over it holds the ACTIVE plan's image where it has a
role in it, else none (R177); what it held of hot patches is forgotten. -/
def Obligations.Splices : Prop :=
  (∀ (s : State) (w : At) (rq : Requester) (p spare : Nat) (rest : List Nat), p < 272 →
     s.takes w rq 0x6002 0x01 = true →
     let d := s.found w
     (d.work.splices.any fun x => decide (x.old = p) && decide (x.phase = 0)) = false → d.hasRole p = true → d.domain (4 + p / 34) = 2 →
     d.inSafe = false → preparing d (p / 34) < reserveLeft d (p / 34) → reservedSpares d p = spare :: rest →
     let e := boundaryAfter d.now
     let x : Splice := ⟨d.logicalOf p, p, spare, e, 0, false, []⟩
     let a := { d with work := { d.work with splices := d.work.splices ++ [x] } }
     let a := (setCellState a spare 3).setCell p { a.cell p with mirror := some spare }
     Leaves (.spliceRequest w rq p) s w ((spliceStatus a p spare 1 e).answer 0x00)) ∧
  (∀ (s : State) (w : At) (p : Nat) (x : Splice), s.runs w.k = true →
     let d := s.found w
     ((d.work.splices.find? fun y => decide (y.phase = 0) && decide (y.old = p)) = some x →
       let e := prepareCopy d x.old x.spare
       Leaves (.splicePrepareDone w p false) s w { e with work := { e.work with
         splices := d.work.splices.map fun y => if y = x then { y with phase := 2 } else y } }) ∧
     (draining d p = some x → ∀ slot, slot < 64 →
       (∀ i, i < 128 → smGet zeroAt (d.cell x.old).ecc (totalKey slot i) = 0) →
       let c := d.cell x.spare
       Leaves (.spliceTileCopy w p slot) s w (d.setCell x.spare ({ c with ecc := c.ecc.filter fun y =>
         !(decide (totalKey slot 0 ≤ y.1) && decide (y.1 < totalKey (slot + 1) 0)) }.setTile slot ((d.cell x.old).tile slot)))) ∧
     (draining d p = some x →
       let e := { d with work := { d.work with splices := d.work.splices.erase x } }
       let e := e.setCell x.old { e.cell x.old with mirror := none }
       Leaves (.spliceRetire w p) s w (setCellState e x.old (if x.failed = true ∨ e.cellState x.old = 4 then 4 else 3)))) ∧
  (∀ (s : State) (w : At) (l : Nat), s.runs w.k = true →
     let d := s.found w
     let ends (e : Strand) (role : Nat) : Strand := { e with plan := { e.plan with
       cellImages := smSet zeroAt e.plan.cellImages l role, patched := e.plan.patched.filter fun x => decide (x ≠ l) } }
     smGet zeroAt d.plan.cellImages l = 2 →
     (imgRole d.plan.active l = false → Leaves (.cutoverEnd w l) s w (ends d 0)) ∧
     (imgRole d.plan.active l = true → ∀ x, secFind d.plan.active 2 l = some x →
       Becomes (.cutoverEnd w l) s w
         (ends (regionUncorr (loadBanks d d.plan.former d.plan.active l) x.off x.len l [d.physOf l]) 1)))

/-! ### Store, queues and outputs (07_braid_store_queues.md) -/

/-- The scrubber's read of a good word changes nothing but the pass count at the last word; a corrected error is
counted and starts the row's repair only past STORE_ROW_CE_LIMIT; an uncorrectable word is counted and marked at its
first finding (R208). When the copy of the row that is under repair is complete the row map switches to the spare,
the spare is counted off, an uncorrectable word of the row is poisoned in the copy, and STORE_REPAIR is raised
(R209). -/
def Obligations.StoreRepair : Prop :=
  (∀ (s : State) (w : At) (word : Nat), s.runs w.k = true → 8 * word < storeSize → word ≠ 0x1FFFFFF →
     let d := s.found w
     let row := word / 1024
     Leaves (.storeScrub w word .clean) s w d ∧
     (smGet zeroAt d.store.ecc word = 0 →
       ((d.store.rowCe.filter fun x => decide (d.sage < x.2 + secTime 3600)).filter fun x => decide (x.1 = row)).length <
         d.get 0x6810 0x06 →
       let e := d.bump 0x6810 0x01 1
       Leaves (.storeScrub w word .corrected) s w { e with store := { e.store with
         rowCe := (row, d.sage) :: d.store.rowCe.filter fun x => decide (d.sage < x.2 + secTime 3600) } }) ∧
     (smGet zeroAt d.store.ecc word = 0 →
       let e := { d with store := { d.store with ecc := smSet zeroAt d.store.ecc word 1 } }
       Becomes (.storeScrub w word .uncorrectable) s w (repairStart (e.bump 0x6810 0x02 1) row))) ∧
  (∀ (s : State) (w : At) (row : Nat) (rest : List Nat), s.runs w.k = true →
     let d := s.found w
     d.store.repair = row :: rest →
     let e := { d with store := { d.store with
       repair := rest
       ecc := d.store.ecc.map fun (x : Nat × Nat) => if x.1 / 1024 = row then (x.1, 2) else x
       rowMap := smSet zeroAt d.store.rowMap row (smGet zeroAt d.store.rowMap row + 1)
       rowCe := d.store.rowCe.filter fun x => decide (x.1 ≠ row) } }
     let e := e.put 0x6811 (rowBank row) (e.get 0x6811 (rowBank row) - 1)
     Becomes (.softRepairSwitch w) s w ((e.bump 0x6810 0x05 1).raise 0x55 (0x8000 + rowBank row)))

/-- In a turn of a free output the oldest packet of the turn's queue leaves whole: the output holds its cells until
its last byte has left (R218, R224), and then they are free again. While its lane, flow or channel is down an output
stalls and its queues say so; when it is up again the stall ends (R227), but for a queue whose descriptor row is bad
(R229). An output that is as its lane is changes nothing. The turn of an output looks at the queue that its calendar
names, and passes to another only where that one has no closed packet (R224); what it takes is the oldest closed
packet of the queue. -/
def Obligations.Outputs : Prop :=
  (∀ (s : State) (w : At) (o : OutId), s.runs w.k = true →
     let d := s.found w
     (∀ p e, o.kind < 3 → d.outDown o = false → outputTurn d o = (some p, e) →
       Becomes (.outputTurn w o) s w (sendPacket e o p.2)) ∧
     (o.kind < 2 → ∀ t, (d.output o).tx = some t →
       Leaves (.packetTxDone w o) s w (releaseCells (d.setOutput o { d.output o with tx := none }) t.queue t.cells)) ∧
     (o.kind < 2 → (d.output o).tx = none → Leaves (.packetTxDone w o) s w d)) ∧
  (∀ (s : State) (w : At) (o : OutId), s.runs w.k = true →
     let d := s.found w
     (d.outDown o = true → (d.output o).stalled = true → Leaves (.queueStall w o) s w d) ∧
     (d.outDown o = true → (d.output o).stalled = false → queuesOf d o = [] →
       Leaves (.queueStall w o) s w (d.setOutput o { d.output o with stalled := true })) ∧
     (d.outDown o = true → (d.output o).stalled = false → ∀ q rest, queuesOf d o = q :: rest →
       Becomes (.queueStall w o) s w ((queuesOf d o).foldl
         (fun e q => e.setQueue q { e.queue q with stalled := true, waited := (e.queue q).pkts })
         (d.setOutput o { d.output o with stalled := true }) |>.raise 0x57 (q % 65536))) ∧
     (d.outDown o = false → (d.output o).stalled = true →
       Leaves (.queueStall w o) s w ((queuesOf d o).foldl (fun e q => e.setQueue q { e.queue q with stalled := (e.queue q).bad })
         (d.setOutput o { d.output o with stalled := false })))) ∧
  (∀ (d : Strand) (o : OutId) (c : Calendar), imgCalendar d.plan.active o = some c →
     let q := c.turns.getD ((d.output o).turn % max c.turns.length 1) 0
     (0 < (d.queue q).pkts → (d.queue q).bad = false → turnQueue d o = some q) ∧
     (∀ r, turnQueue d o = some r → 0 < (d.queue r).pkts ∧ (d.queue r).bad = false))

/-- A read of QUEUE_READ gives the next 256-byte piece of the oldest packet of the selected HOST_READ queue and
keeps the packet until its last piece (R233), with INVALID where it waited through a stall (R227); with no packet it
gives the idle item (R222), and without a HOST_READ queue selected ACCESS_ERROR. A write of SNAP_CAPTURE with the
number of a snap group of the ACTIVE plan starts a capture whose trigger time is that of the write; another value
answers INVALID_VALUE (R231). A capture queues the next of its blocks, stream by stream, once the block's ingest
slot has passed, with the SNAP header of R232 before it. -/
def Obligations.QueueReadsAndSnaps : Prop :=
  (∀ (s : State) (w : At) (rq : Requester), s.ready = true → (s.found w).dictFree = true → rq ≠ .pf4 →
     (s.found w).granted rq 0x6821 0x02 2 false = true →
     let d := s.found w
     let q := d.get 0x6821 0x01
     let mine := d.q.old.find? fun p => decide (p.queue = q) && decide (p.out % 4 = 3)
     let k := readKey d q
     let piece (b : List Byte) : Prop :=
       Leaves (.queueRead w rq) s w ({ d with q := { d.q with readPos := d.q.readPos + 1 } }.answerData
         ((b.drop (256 * d.q.readPos)).take 256))
     (hostReadQueue d q = false → Leaves (.queueRead w rq) s w (d.answer 0x01)) ∧
     (hostReadQueue d q = true → mine = none → d.ready k = false → Leaves (.queueRead w rq) s w (d.answerData (idleItem q))) ∧
     (hostReadQueue d q = true → ∀ p, mine = some p → 256 * (d.q.readPos + 1) < p.bytes.length → piece p.bytes) ∧
     (hostReadQueue d q = true → mine = none → d.ready k = true → d.store.ecc = [] →
       let p := packetAt d k (d.queue k).head
       d.q.readPos + 1 < p.1.length →
       piece (leaveHeader (qKind (d.qEntry k)) (d.queue k).raised (decide (0 < (d.queue k).waited)) p.2.1))) ∧
  (∀ (s : State) (w : At) (rq : Requester) (v : Nat), v < 256 →
     let d := s.found w
     (s.takes w rq 0x6822 0x01 = true → ¬(d.hasPlan = true ∧ v < snapCount d.plan.active) →
       Leaves (.snapCapture w rq v) s w (d.answer 0x02)) ∧
     (s.takes w rq 0x6822 0x01 = true → d.hasPlan = true → v < snapCount d.plan.active →
       (d.q.caps.filter fun c => decide (c.group = v) && decide (c.former = false)).length < 4 →
       Leaves (.snapCapture w rq v) s w ((captureStart d false v (toU d.now)).answer 0x00)) ∧
     (s.runs w.k = true → ∀ st k c, k + 1 < smGet zeroAt d.ing.next st →
       (d.q.caps.find? fun c => decide (c.group = v) && decide (c.todo.head? = some (st, k))) = some c → c.former = false →
       let m := d.plan.active
       let grp := imgSnap m v
       let e := imgStream m st
       let n := 32 + blockBytes (stInFmt e)
       let o := snapSlotOff m grp st k
       d.storeBad o n = false → grp.queue ∉ d.plan.shed →
       let b := d.storeRead o n
       let h := snapHeader { s.pkg with out := [] } d grp c (decide (smGet zeroAt d.ing.gapAt o ≠ 0)) false
         ((k : Int) - blockAt e c.tcU)
       let caps := (d.q.caps.map fun x => if x = c then { c with todo := c.todo.erase (st, k) } else x).filter
         fun x => !x.todo.isEmpty
       Becomes (.snapBlockQueue w v st k) s w (packetIn { d with q := { d.q with caps := caps } } grp.queue (h ++ b))))

/-! ### Trigger and coincidence (08_trigger.md) -/

/-- A crossing that a DT slot has found reaches its detector at the tick of its sample's nominal time (R236, R451):
outside the dead time of an enabled detector it is an event, counted and taken to every unit that lists the detector
(R237); one whose metadata says INVALID is discarded and counted, one at the tick of the last is the same event, and
one within the dead time is dropped. Pulses of the trigger inputs (R242): an active sample of an enabled idle input
begins a pulse with the settings of that tick; the inactive sample that ends one shorter than MIN_WIDTH_TICKS makes
it a glitch, counted; a longer one on TRIG_IN waits for delivery, and one on VETO_N leaves a veto interval from its
first tick to its last. A qualified pulse of TRIG_IN is delivered MIN_WIDTH_TICKS plus 3 ticks after its edge
(R242): as an event, or merged with the last one within MIN_INTERVAL_TICKS. An input that stays active for
STUCK_TIME_US is masked (R243), and a masked one that is to be unmasked is unmasked once it has been inactive for
MIN_INTERVAL_TICKS samples (R244). A write of 1 to TIN_UNMASK asks for the unmasking of a masked input, and leaves
an input that is not masked (R244). -/
def Obligations.TriggerInputs : Prop :=
  (∀ (s : State) (w : At) (p rep blk n : Nat) (x : Crossing), s.runs w.k = true →
     let d := s.found w
     let c := d.cell p
     let tick := tickOfU ((x.prov.bind (provTime (d.planOf (d.logicalOf p)))).getD (toU d.now))
     let e := d.setCell p { c with events := c.events.erase x }
     let entry := imgDetector (d.unitImg (d.unitsAt tick)) x.det
     let last := smGet zeroAt d.trig.detLast x.det
     let invalid := bit x.md 2 || bit x.flags 2 || bit x.flags 3
     (c.crossing rep blk n = none → Leaves (.detectorEvent w p rep blk n) s w d) ∧
     (c.crossing rep blk n = some x → d.trigOn = true → bit entry 0 = true →
       (invalid = true → Leaves (.detectorEvent w p rep blk n) s w (e.bump 0x7800 0x06 1)) ∧
       (invalid = false → last = tick + 1 → Leaves (.detectorEvent w p rep blk n) s w e) ∧
       (invalid = false → last ≠ 0 → last ≠ tick + 1 → tick + 1 < last + bits entry 16 16 →
         let drops := smSet zeroAt e.trig.detDrops x.det (smGet zeroAt e.trig.detDrops x.det + 1)
         Leaves (.detectorEvent w p rep blk n) s w { e with trig := { e.trig with detDrops := drops } }) ∧
       (invalid = false → (last = 0 ∨ last + bits entry 16 16 ≤ tick + 1) → last ≠ tick + 1 →
         Becomes (.detectorEvent w p rep blk n) s w
           (sourceEvent { e with trig := { e.trig with detLast := smSet zeroAt e.trig.detLast x.det (tick + 1) } } 0 tick
             (fun _ => some x.det) (bit x.md 3))))) ∧
  (∀ (s : State) (w : At) (n : Nat) (high : Bool), s.runs w.k = true →
     let d := s.found w
     let x := d.tin n
     (n < 5 → d.trigOn = true → d.getBit 0x7802 n 0 = true → x.start = none → tinActive d n high = true →
       let y := { x with start := some d.tick, cfg := d.get 0x7802 n, stuck := d.get 0x7803 n, done := d.tinMasked n }
       Leaves (.trigInEdge w ⟨n, high⟩) s w (d.setTin n y)) ∧
     (tinActive d n high = false → Leaves (.trigInEdge w ⟨n, high⟩) s w d) ∧
     (∀ t, x.start = some t → tinActive d n high = false →
       let y := { x with start := none, lastEnd := d.tick }
       (d.tick < t + tinWidth x.cfg → ¬(n = 4 ∧ x.done = true) →
         Becomes (.trigInPulseEnd w ⟨n, high⟩) s w (((d.setTin n y).bump 0x7808 n 1).raiseOnce 0x60 (0x100 + n))) ∧
       (t + tinWidth x.cfg ≤ d.tick → n < 4 → x.done = false →
         Leaves (.trigInPulseEnd w ⟨n, high⟩) s w (d.setTin n { y with deliver := x.deliver ++ [(t, x.cfg)] })) ∧
       (t + tinWidth x.cfg ≤ d.tick → n = 4 → x.done = false →
         Leaves (.trigInPulseEnd w ⟨n, high⟩) s w
           ((d.setTin n { y with vetos := ⟨t, t + tinWidth x.cfg + 3, d.tick - 1⟩ :: x.vetos }).bump 0x7806 n 1)))) ∧
  (∀ (s : State) (w : At) (n : Nat), s.runs w.k = true →
     let d := s.found w
     let x := d.tin n
     (∀ t cfg r, n < 4 → x.deliver = (t, cfg) :: r → t + tinWidth cfg + 3 ≤ d.tick →
       Becomes (.trigInDeliver w n) s w (tinEvent (d.setTin n { x with deliver := r }) n t cfg)) ∧
     (∀ t cfg r, n < 4 → x.deliver = (t, cfg) :: r → d.tick < t + tinWidth cfg + 3 → Leaves (.trigInDeliver w n) s w d) ∧
     (∀ t, n < 4 → x.deliver = [] → x.start = some t → x.done = false → t + tinWidth x.cfg + 3 ≤ d.tick →
       Becomes (.trigInDeliver w n) s w (tinEvent (d.setTin n { x with done := true }) n t x.cfg)) ∧
     (∀ t, x.start = some t → d.tinMasked n = false → t * 2 + x.stuck * 1000 ≤ d.tick * 2 → n < 4 →
       Becomes (.trigInStuck w n) s w (((d.setTin n { x with done := true, maskAt := some d.tick, unmask := false }).putBit
         0x7804 n 0 true).raiseOnce 0x62 (0x100 + n))) ∧
     (∀ t, x.start = some t → d.tick * 2 < t * 2 + x.stuck * 1000 → Leaves (.trigInStuck w n) s w d) ∧
     (d.tinMasked n = true → (x.unmask = true ∨ d.getBit 0x7802 n 2 = true) → x.start = none →
       x.lastEnd + tinInterval (d.get 0x7802 n) ≤ d.tick + 1 → Leaves (.inputUnmaskApply w n) s w (clearMask d n)) ∧
     (d.tinMasked n = true → x.start.isSome = true → Leaves (.inputUnmaskApply w n) s w d)) ∧
  (∀ (s : State) (w : At) (rq : Requester) (n : Nat), n < 5 → s.takes w rq 0x7805 n = true →
     let d := s.found w
     (d.tinMasked n = true → Leaves (.tinUnmask w rq n 1) s w ((d.setTin n { d.tin n with unmask := true }).answer 0x00)) ∧
     (d.tinMasked n = false → Leaves (.tinUnmask w rq n 1) s w (d.answer 0x00)) ∧
     Leaves (.tinUnmask w rq n 0) s w (d.answer 0x00))

/-- The horizon of a unit goes to the present tick less SETTLE_TICKS: the unit takes its events up to it in order of
tick and of source, and those later wait (R246), where no former plan's units are left (R250); with no event due
nothing changes. The pins of a firing assert 12 ns after its tick (R251): an idle pin that takes actions is
asserted, counted, and ends its pulse after its length (TRIG_OUT_PULSE_END), with the level that POL gives; a queue
stays RAISED until RAISE_TICKS after the last firing (R253). An event that a unit of any plan takes fires it exactly
where at least K sources have an event within WIN_TICKS, outside its dead time, with no veto, and not in SAFE (R246,
R248); a vetoed coincidence is counted and does not fire. -/
def Obligations.TriggerUnits : Prop :=
  (∀ (s : State) (w : At) (u : Nat), s.runs w.k = true → u < 64 →
     let d := s.found w
     let h := (d.tick : Int) - unitSettle (imgUnit d.plan.active u)
     let x := d.unit none u
     d.trigOn = true → d.trig.olds = [] →
     ((∀ e ∈ x.evs, h < e.tick) → Leaves (.unitHorizonAdvance w u) s w (d.setUnit none u x)) ∧
     Becomes (.unitHorizonAdvance w u) s w
       (((x.evs.filter fun e => decide (e.tick ≤ h)).foldl (fun l e => insertEv e l) []).foldl
         (unitEvent { s.pkg with out := [] } none d.plan.active u)
         (d.setUnit none u { x with evs := x.evs.filter fun e => decide (h < e.tick) }))) ∧
  (∀ (s : State) (w : At), s.runs w.k = true →
     let d := s.found w
     (∀ u t mask r, d.trig.olds = [] → (∀ n, (d.tout n).due = []) → (d.unit none u).asserts = (t, mask) :: r → t ≤ d.now →
       Leaves (.actionAssert w u) s w (assertMask (d.setUnit none u { d.unit none u with asserts := r }) mask t)) ∧
     (∀ pin, pin < 4 → (d.tout pin).due = [] → (d.tout pin).high = true → (d.tout pin).fin ≤ d.now →
       Leaves (.trigOutPulseEnd w pin) s w
         ((d.setTout pin { d.tout pin with high := false, fin := 0 }).pin pin (d.getBit 0x7801 pin 3))) ∧
     (∀ pin, pin < 4 → (d.tout pin).due = [] → d.now < (d.tout pin).fin → Leaves (.trigOutPulseEnd w pin) s w d) ∧
     (∀ q, q < 65536 → (smGet (fun _ => (0, 0)) d.trig.raised q).2 ≠ 0 →
       (smGet (fun _ => (0, 0)) d.trig.raised q).2 ≤ d.tick + 1 →
       (smGet (fun _ => (0, 0)) d.trig.raised (65536 + q)).2 = 0 →
       let e := { d with trig := { d.trig with raised := smSet (fun _ => (0, 0)) d.trig.raised q (0, 0) } }
       Leaves (.raiseExpire w q) s w (e.setQueue q { e.queue q with raised := false })) ∧
     (∀ measured, d.sageUp = true → (∀ n, (d.tout n).due = []) → (∀ n, (d.tout n).high = false) → 3610 ≤ measured →
       measured ≤ 3990 →
       let trim : Int := d.get 0x780A 0x01
       810 ≤ trim → trim ≤ 2390 →
       Leaves (.hitchTrim w measured) s w (d.put 0x780A 0x01 (trim + clampI (-10) 10 (3800 - measured)).toNat))) ∧
  (∀ (g : Pkg) (d : Strand) (o : Option Nat) (m : SMap Byte) (u : Nat) (ev : UnitEv),
     let w := imgUnit m u
     let x := d.unit o u
     let last := ev :: x.last.filter fun l => decide (l.src ≠ ev.src)
     let got := last.filter fun l => decide (ev.tick - unitWin w ≤ l.tick)
     let d1 := d.setUnit o u { x with last := [], dead := some (ev.tick + unitDead w) }
     let veto := bit w 1 && vetoCovers d1 (ev.tick - bits w 80 16) (ev.tick + bits w 96 16)
     let alive := ∀ t, x.dead = some t → t < ev.tick
     (¬alive → unitEvent g o m u d ev = d.bump 0x7800 0x05 1) ∧
     (alive → got.length < unitK w → unitEvent g o m u d ev = d.setUnit o u { x with last := last }) ∧
     (alive → unitK w ≤ got.length → d.inSafe = true → unitEvent g o m u d ev = d1) ∧
     (alive → unitK w ≤ got.length → d.inSafe = false → veto = false →
       unitEvent g o m u d ev = fire g d1 o m u ev.tick.toNat got) ∧
     (alive → unitK w ≤ got.length → d.inSafe = false → veto = true →
       unitEvent g o m u d ev = (d1.bump 0x7800 0x03 1).bump (0x7840 + u) 0x03 1))

/-! ### The whole block -/

/-- A TRIG frame that repeats DEVICE_ID, STRAND, UNIT and FIRE_SEQ of one taken within the last 1 ms is discarded
and counted (R279): it reaches no unit. One that does not is noted with its time. -/
def Obligations.DuplicateTriggers : Prop :=
  ∀ (g : Pkg) (d : Strand) (msg : List Byte),
    let isCopy (x : Nat × Nat × Nat) : Prop := x.2.1 = fieldAt msg 2 3 ∧ x.2.2 = fieldAt msg 20 4 ∧ d.now < x.1 + msTime 1
    let e := trigFrameOp g d msg
    ((∃ x ∈ d.lanes.trigs, isCopy x) → e.trig = d.trig ∧ e.flt = d.flt ∧ e.cells = d.cells ∧ e.q = d.q ∧
      (d.regsOk = true → e.get 0x3004 0x03 = min (d.get 0x3004 0x03 + 1) (2 ^ 32 - 1) ∧
        ∀ i x, x < 256 → (i ≠ 0x3004 ∨ x ≠ 3) → e.get i x = d.get i x)) ∧
    ((∀ x ∈ d.lanes.trigs, ¬isCopy x) → (d.now, fieldAt msg 2 3, fieldAt msg 20 4) ∈ e.lanes.trigs)

/-! ### Lanes and links (09_lanes.md) -/

/-- Writes of the lane configuration that their rules allow store the value without its reserved bits and retrain
what they change: LANE_CFG of a lane not in use (R266, R267), BOND_CFG (R280), LOOPBACK and TEST_PATTERN (R271),
TIME_PER_S (R300), LANE_SWAP_REQUEST (R285). After each the references that rest on a lane are looked at again
(R307, R308). Writes of the Ethernet and JESD204C configuration that their rules allow: ETH_PORT_CFG starts the
training of an enabled port (R290), ETH_FLOW waits for its boundary (R291, R369), JESD_CFG restarts its link (R297). -/
def Obligations.LaneConfiguration : Prop :=
  (∀ (s : State) (w : At) (rq : Requester) (n v : Nat),
     let d := s.found w
     let leaves (i : Instr) (e : Strand) : Prop :=
       let x := refsRecheck { s.pkg with out := [] } e
       x.still = true → x.sleep = 0 → Leaves i s w x
     (n < 24 → v < 2 ^ 38 → bit v 11 = false → s.takes w rq 0x3000 n = true → laneFields v = true → pllClash d n v = false →
       d.laneInUse n = false → v ≠ d.get 0x3000 n → d.laneState (d.recOf n) ≠ 6 → d.laneState (d.recOf n) ≠ 4 →
       leaves (.laneCfg w rq n v) ((refreshOutputs ((d.put 0x3000 n v).setLaneState (d.recOf n)
         (if bits v 0 3 = 0 ∨ d.domain (laneGroup (d.recOf n)) ≠ 2 then 0 else 1))).answer 0x00)) ∧
     (n < 24 → v < 2 ^ 38 → bit v 11 = false → s.takes w rq 0x3000 n = true → (laneFields v = false ∨ pllClash d n v = true) →
       leaves (.laneCfg w rq n v) (d.answer 0x02)) ∧
     (n < 16 → v < 2 ^ 25 → bit v 0 = true → s.takes w rq 0x3003 n = true → bondOk d n v = true → v ≠ d.get 0x3003 n →
       d.endsInUse.contains (0x40 + n) = false →
       (((List.range 24).filter fun l => bit v (l + 1) || d.getBit 0x3003 n (l + 1)).any d.laneInUse) = false →
       leaves (.bondCfg w rq n v) (({ d with lanes := { d.lanes with
         bonds := smSet (fun _ => ({} : BondSt)) d.lanes.bonds n {} } }.put 0x3003 n v).answer 0x00)) ∧
     (n < 26 → v ≤ 3 → v ≠ 0 → d.laneInUse (d.laneNo n) = false → d.laneState n ≠ 6 → d.regsOk = true →
       (s.takes w rq (0x3100 + n) 0x0A = true →
         leaves (.loopback w rq n v) (((d.put (0x3100 + n) 0x0A v).setLaneState n 4).answer 0x00)) ∧
       (s.takes w rq (0x3100 + n) 0x0B = true →
         leaves (.testPattern w rq n v) (((d.put (0x3100 + n) 0x0B v).setLaneState n 4).answer 0x00))) ∧
     (v ≤ 1024 → v ≠ 0 → perSecondOk v (d.get 0x2005 0x01) = true → s.takes w rq 0x3004 0x02 = true →
       leaves (.timePerS w rq v) ((d.put 0x3004 0x02 v).answer 0x00)) ∧
     (v < 24 → d.laneRate v ≠ 0 → d.lanes.swapWant.contains v = false → s.takes w rq 0x3002 0x01 = true →
       leaves (.laneSwapRequest w rq v)
         ({ d with lanes := { d.lanes with swapWant := d.lanes.swapWant ++ [v] } }.answer 0x00))) ∧
  (∀ (s : State) (w : At) (rq : Requester) (n : Nat) (b : List Byte),
     let d := s.found w
     let v := bytesToNat b
     let leaves (i : Instr) (e : Strand) : Prop :=
       let x := refsRecheck { s.pkg with out := [] } e
       x.still = true → x.sleep = 0 → Leaves i s w x
     (n < 24 → b.length = 32 → bits v 11 5 = 0 → bits v 64 64 = 0 → s.takes w rq 0x3400 n = true → ethPortOk d n v = true →
       bit v 0 = true → portKey v ≠ portKey (d.ethPort n) → (d.portInUse n || (portLanes v).any d.laneInUse) = false →
       leaves (.ethPortCfg w rq n b) ((refreshOutputs ((d.put 0x3400 n v).put 0x3401 n 2)).answer 0x00)) ∧
     (n < 256 → b.length = 64 → s.takes w rq (0x3500 + n) 0x01 = true → flowCheck d n (flowMask v) = 0x00 →
       leaves (.ethFlow w rq n b) (pendWrite d (0x3500 + n) 0x01 (flowMask v))) ∧
     (n < 8 → b.length = 16 → bits v 40 24 = 0 → s.takes w rq 0x3600 n = true → jesdOk v = true → v ≠ d.jesd n →
       d.endsInUse.contains (0x60 + n) = false → ((jesdLanes (d.jesd n) ++ jesdLanes v).any d.laneInUse) = false →
       leaves (.jesdCfg w rq n b) ((({ d with lanes := { d.lanes with
         jesdN := d.lanes.jesdN.filter fun x => decide (x.1 / 4096 ≠ n)
         jesdBuf := d.lanes.jesdBuf.filter fun x => decide (x.1 / 4096 ≠ n) } }.put 0x3600 n v).put 0x3601 n
           (if bit v 0 then 2 else 0)).answer 0x00)))

/-- Loss and lock of a receive lane (R269): loss of signal and loss of lock count, take the lane DOWN and are raised
once an epoch; the end of training takes it up, with its eye margin measured; the signal's return clears LOS only. A
lane goes DOWN with its record out of lock and every run of codewords forgotten (R269): where no swap of it is under
way nothing else changes but what calls for a swap (R285). -/
def Obligations.LaneLosses : Prop :=
  (∀ (s : State) (w : At) (n : Nat), s.runs w.k = true → n < 26 →
     let d := s.found w
     let recheck (e : Strand) : Strand := refsRecheck { s.pkg with out := [] } e
     ((d.laneState n = 1 ∨ d.laneState n = 2) → let e := d.setLane n { d.lane n with los := true }
       Becomes (.losDetect w n) s w (recheck ((laneLost (e.bump (0x3100 + n) 0x02 1) n).raiseOnce 0x70 (e.laneNo n)))) ∧
     (d.laneState n = 4 → Becomes (.losDetect w n) s w (recheck d)) ∧
     Leaves (.losClear w n) s w (d.setLane n { d.lane n with los := false }) ∧
     (d.laneUp n = true →
       Becomes (.cdrLockLoss w n) s w (recheck ((laneLost (d.bump (0x3100 + n) 0x03 1) n).raiseOnce 0x71 (d.laneNo n)))) ∧
     ((d.laneState n = 1 ∨ d.laneState n = 5) → (d.lane n).los = false →
       let x := { d.lane n with badRun := 0, release := none, eiNext := false, txIdle := false }
       Becomes (.laneTrainDone w n) s w (recheck (refreshOutputs ((rxMargin (d.setLane n x) n).setLaneState n 2)))) ∧
     (d.laneState n = 0 → Becomes (.laneTrainDone w n) s w (recheck d))) ∧
  (∀ (d : Strand) (n : Nat), n < 64 → d.hasPlan = false → d.lanes.swaps = [] →
     let e := d.setLaneState n 5
     let x := { d.lane n with locked := false, goodRun := 0, badRun := 0, release := none }
     (d.getBit 0x3002 0x02 0 = false → laneLost d n = e.setLane n x) ∧
     (d.getBit 0x3002 0x02 0 = true → d.laneInUse (d.laneNo n) = true → d.lanes.swapWant.contains (d.laneNo n) = false →
       laneLost d n =
         { e with lanes := { e.lanes with swapWant := d.lanes.swapWant ++ [d.laneNo n] } }.setLane n x))

/-- Codewords (R272): each is counted, a corrected one with its symbols, an uncorrectable one as bad; an unlocked
lane locks on the fourth good one in sequence, and a locked lane keeps its sequence over up to seven bad ones in a
row, and takes it from the first good one after electrical idle (R268). Fixed latency (R281): the first codeword of
a locked lane sets the release point 4 ns after its arrival; a later one in its place keeps it, and one that comes
after its release time slips: it sets a new point, which is raised once an epoch. The once-a-second check of a
lane's corrected symbols (R270): a second above LANE_BER_SWAP counts in a row, the third one in a row raises
LANE_BER and calls for a swap; a second below ends the row; the eye margin is measured anew. Tests of spares, of
RETIRED pairs (R271, R407) and under TEST_PATTERN count their errors, and the former keep whether the pair may be
used. -/
def Obligations.CodewordsAndHealth : Prop :=
  (∀ (s : State) (w : At) (n seq : Nat), s.runs w.k = true → n < 26 →
     let d := s.found w
     let recheck (e : Strand) : Strand := refsRecheck { s.pkg with out := [] } e
     let x := d.lane n
     let c := d.bump (0x3100 + n) 0x04 1
     (d.laneState n = 2 ∨ d.laneState n = 1 ∨ d.laneState n = 5) →
     (x.locked = false → x.goodRun < 3 → x.goodRun ≠ 0 → seq % 256 = x.cwSeq →
       let y := { x with goodRun := x.goodRun + 1, cwSeq := (seq + 1) % 256, badRun := 0, resync := false }
       Becomes (.codewordRx w n .ok seq) s w (recheck (c.setLane n y))) ∧
     (x.locked = false → 3 ≤ x.goodRun → seq % 256 = x.cwSeq → cwRate d n = 0 → d.lanes.swaps = [] →
       let y := { x with goodRun := x.goodRun + 1, cwSeq := (seq + 1) % 256, locked := true, badRun := 0, resync := false }
       Becomes (.codewordRx w n .ok seq) s w (recheck (c.setLane n y))) ∧
     (x.locked = true → x.badRun < 7 → cwRate d n = 0 → d.lanes.swaps = [] →
       Becomes (.codewordRx w n .uncorrectable seq) s w (recheck ((c.bump (0x3100 + n) 0x06 1).setLane n
         { x with badRun := x.badRun + 1, cwSeq := (x.cwSeq + 1) % 256 }))) ∧
     (x.locked = true → cwRate d n = 0 → d.lanes.swaps = [] → (x.resync = true ∨ seq % 256 = x.cwSeq) → ∀ k,
       let y := { x with badRun := 0, cwSeq := (seq + 1) % 256, resync := false }
       Becomes (.codewordRx w n (.corrected k) seq) s w
         (recheck (((c.bump (0x3100 + n) 0x05 1).bump (0x3100 + n) 0x07 k).setLane n y))) ∧
     (x.locked = true → x.badRun = 7 → d.laneUp n = true →
       let e := (c.bump (0x3100 + n) 0x06 1).setLane n { x with badRun := 8, cwSeq := (x.cwSeq + 1) % 256 }
       ∃ z, Becomes (.codewordRx w n .uncorrectable seq) s w (recheck z) ∧
         z = (laneLost (e.bump (0x3100 + n) 0x03 1) n).raiseOnce 0x71 (d.laneNo n))) ∧
  (∀ (s : State) (w : At) (n seq : Nat), s.runs w.k = true → n < 26 →
     let d := s.found w
     let recheck (e : Strand) : Strand := refsRecheck { s.pkg with out := [] } e
     let x := d.lane n
     let c := d.bump (0x3100 + n) 0x04 1
     let e := c.setLane n { x with badRun := 0, cwSeq := (x.cwSeq + 1) % 256 }
     let y := e.lane n
     let rate := cwRate d n
     d.laneState n = 2 → x.locked = true → x.resync = false → seq % 256 = x.cwSeq → rate ≠ 0 → d.lanes.swaps = [] →
     agushInput d (d.laneNo n) = none →
     (y.release = none →
       Becomes (.codewordRx w n .ok seq) s w (recheck (e.setLane n { y with release := some (d.now + nsTime 4, 0) }))) ∧
     (∀ base i, y.release = some (base, i) → d.now ≤ releaseTime base rate (i + 1) →
       Becomes (.codewordRx w n .ok seq) s w (recheck (e.setLane n { y with release := some (base, i + 1) }))) ∧
     (∀ base i, y.release = some (base, i) → releaseTime base rate (i + 1) < d.now →
       Becomes (.codewordRx w n .ok seq) s w
         (recheck ((e.setLane n { y with release := some (d.now + nsTime 4, 0) }).raiseOnce 0x78 (d.laneNo n))))) ∧
  (∀ (s : State) (w : At) (n errors : Nat) (pass : Bool), s.runs w.k = true → n < 26 →
     let d := s.found w
     let recheck (e : Strand) : Strand := refsRecheck { s.pkg with out := [] } e
     let x := d.lane n
     let cur := d.get (0x3100 + n) 0x07
     let high := decide (d.get 0x3002 0x03 < cur - x.symSec)
     (high = false →
       Becomes (.laneBerCheck w n) s w (recheck (rxMargin (d.setLane n { x with symSec := cur, berRun := 0 }) n))) ∧
     (high = true → x.berRun < 2 →
       Becomes (.laneBerCheck w n) s w (recheck (rxMargin (d.setLane n { x with symSec := cur, berRun := x.berRun + 1 }) n))) ∧
     (high = true → 2 ≤ x.berRun → let e := rxMargin (d.setLane n { x with symSec := cur, berRun := x.berRun + 1 }) n
       Becomes (.laneBerCheck w n) s w (recheck (wantSwap (e.raiseOnce 0x72 (e.laneNo n)) 1 (e.laneNo n)))) ∧
     (d.laneNo n = 0x7F → d.laneState n ≠ 6 →
       Becomes (.spareSelftest w n errors pass) s w (recheck ((d.bump (0x3100 + n) 0x0C errors).setLane n
         { x with testOk := decide (errors = 0) && pass }))) ∧
     (d.laneState n = 6 → x.retest = true →
       Becomes (.lanePrbsTestDone w n errors true) s w (recheck (((d.bump (0x3100 + n) 0x0C errors).setLane n
         { x with retest := false, testOk := true }).setLaneState n 1))) ∧
     (d.laneState n = 6 → x.retest = true →
       Becomes (.lanePrbsTestDone w n errors false) s w (recheck ((d.bump (0x3100 + n) 0x0C errors).setLane n
         { x with retest := false, testOk := false }))) ∧
     (d.laneState n = 4 → d.get (0x3100 + n) 0x0B ≠ 0 →
       Becomes (.lanePrbsTestDone w n errors pass) s w (recheck (d.bump (0x3100 + n) 0x0C errors))))

/-- Frames on a lane that runs Agush and is up: after any fill (R273), one that fails its checks is discarded and
counted (R274); a good frame goes to what its TYPE names, IDLE to the link's state (R277), SUM to the running values
(R276), TRIG to the trigger (R279), TIME to the timing input (R283); in its turn where it is bonded (R280). -/
def Obligations.FramesTaken : Prop :=
  ∀ (s : State) (w : At) (n : Nat) (b : List Byte), s.runs w.k = true →
    let d := s.found w
    let g := { s.pkg with out := [] }
    let x := skipFill b.length b
    d.idles n = true → d.laneState n = 2 →
    (∀ bad, x ≠ [] → frameCheck x = none ∨ bad = true →
      Becomes (.agushFrameRx w n bad b) s w ((d.bump (0x3100 + n) 0x08 1).raiseOnce 0x77 (d.laneNo n))) ∧
    (∀ bad, x = [] → Leaves (.agushFrameRx w n bad b) s w d) ∧
    (∀ f, frameCheck x = some f → f.bonded = false → (f.type = 0 ∨ d.agushLane (d.laneNo n) = true) →
      Becomes (.agushFrameRx w n false b) s w (frameTake g d n f.type d.now f.body)) ∧
    (∀ f k, frameCheck x = some f → f.bonded = true → (f.type = 1 ∨ f.type = 2 ∨ f.type = 5) →
      d.agushLane (d.laneNo n) = true → k < 16 → d.endpointOf n = 0x40 + k →
      Becomes (.agushFrameRx w n false b) s w (bondRx g d k n f)) ∧
    (b.length = 16 → Becomes (.idle w n b) s w (idleRxOp g d n b)) ∧
    (d.agushLane (d.laneNo n) = true →
      (b.length = 16 + 16 * fieldAt b 3 1 → 1 ≤ fieldAt b 3 1 → fieldAt b 3 1 ≤ 64 →
        Becomes (.sum w n b) s w (sumRxOp d n b)) ∧
      (b.length = 32 → Becomes (.trig w n b) s w (trigFrameOp g d b)) ∧
      (b.length = 32 → Becomes (.time w n b) s w (timeRxOp g d n b)))

/-- Frames that a lane sends: a TIME frame that is due is handed to its lane (R278), where it leaves at once if the
lane is free and waits its turn if not; an IDLE frame goes out on a lane that is up (R277), and one with EI_NEXT
before the transmitter goes idle, where nothing else is to be sent, which a training burst ends (R268); a receiver
that sees the burst within 1 ms is up again. A TIME frame leaves at a codeword boundary, after fill up to it, with
the lane's next sequence number and the time of that boundary, which are kept for the peer's echo (R278, R282,
R283); the lane is busy until its last byte has left, and frames that wait leave by class, TRIG before TIME before
SUM before the queues' (R278). -/
def Obligations.FramesSent : Prop :=
  (∀ (s : State) (w : At) (n : Nat), s.runs w.k = true → n < 26 →
     let d := s.found w
     let g := { s.pkg with out := [] }
     let x := d.lane n
     (d.laneUp n = true → d.agushLane (d.laneNo n) = true → x.wait = [] →
       let b := timeBody g d n
       let e := leaveIdle b.2 n
       (x.busy ≤ d.now → Leaves (.timeFrameTx w n) s w (departAt e n ⟨2, 4, false, 0, b.1⟩ d.now)) ∧
       (d.now < x.busy →
         Leaves (.timeFrameTx w n) s w (e.setLane n { e.lane n with wait := [⟨2, 4, false, 0, b.1⟩] }))) ∧
     (d.idles n = true → d.laneState n = 2 → x.txIdle = false →
       Leaves (.idleFrameForce w n) s w (sendOn d n 0 (idleBody g d n false false))) ∧
     (d.idles n = true → idleAllowed d n = true → d.laneUp n = true → x.txIdle = false →
       let e := departAt d n ⟨0, 0, false, 0, idleBody g d n true false⟩ (max d.now x.busy)
       (mayIdle d n = true →
         Leaves (.eiEnter w n) s w ((e.setLane n { e.lane n with txIdle := true }).emit .laneSig n [])) ∧
       (mayIdle d n = false → Leaves (.eiEnter w n) s w d)) ∧
     (x.txIdle = true →
       Leaves (.eiExit w n) s w ((d.setLane n { x with txIdle := false }).emit .laneSig (n + 256) [])) ∧
     (x.txIdle = false → Leaves (.eiExit w n) s w d) ∧
     (d.laneState n = 3 → ∀ us, us ≤ 1000 →
       let y := { x with eiNext := false }
       Becomes (.trainingBurstRx w n true us) s w
         (refsRecheck g ((d.setLaneState n 2).setLane n { y with resync := true, badRun := 0 })) ∧
       let e := d.setLane n y
       Becomes (.trainingBurstRx w n false us) s w
         (refsRecheck g ((laneLost (e.bump (0x3100 + n) 0x03 1) n).raiseOnce 0x71 (e.laneNo n)))) ∧
     (d.laneState n = 3 → ∀ r us, 1000 < us →
       Becomes (.trainingBurstRx w n r us) s w (refsRecheck g (refreshOutputs
         ((d.setLaneState n 1).setLane n { x with eiNext := false, locked := false }))))) ∧
  (∀ (d : Strand) (n t : Nat) (body : List Byte), body.length = 32 →
     let x := d.lane n
     let at_ := cwBoundary d n t
     let b := natToBytes 2 x.txSeq ++ natToBytes 10 (time80 at_) ++ body.drop 12
     let deps := (x.txSeq, at_) :: x.txDeps.filter fun p => decide (at_ ≤ p.2 + msTime 64)
     let done := at_ + serTime d n 44
     let y := { x with txSeq := (x.txSeq + 1) % 65536, txDeps := deps, busy := done, lastTx := done }
     t ≤ at_ ∧
     departAt d n ⟨2, 4, false, 0, body⟩ t =
       ((fillTo d n t at_).setLane n y).emit .agush (laneAddr d n) (agushFrame 4 false (decide (cwRate d n ≠ 0)) 0 b) ∧
     (∀ l z, nextWait l = some z → z ∈ l ∧ ∀ v ∈ l, z.cls ≤ v.cls) ∧ (∀ l, l ≠ [] → nextWait l ≠ none) ∧
     txClass 3 < txClass 4 ∧ txClass 4 < txClass 2 ∧ txClass 2 < txClass 1 ∧ txClass 2 < txClass 5)

/-- A bond whose next frame is missing for 200 ns goes on with the lowest BSEQ that waits (R280); a member that is
DOWN with no swap and no spare that could take it over degrades the bond, which is raised once an epoch. A spare
swap of an Agush lane (R285 to R287): the initiator takes the first eligible spare and asks the peer on it; at
SWAP_AT, with both ends aligned, the lane map names the spare; eight codewords later the old pair stops and is
RETIRED; one that has not aligned within 1 ms is given up and the lane stays. -/
def Obligations.BondsAndSpares : Prop :=
  (∀ (s : State) (w : At) (b l : Nat), s.runs w.k = true →
     let d := s.found w
     let g := { s.pkg with out := [] }
     let x := d.bond b
     (x.waiting = [] → Leaves (.bondSeqTimeout w b) s w d) ∧
     (x.waiting ≠ [] → d.now < x.since + nsTime 200 → Leaves (.bondSeqTimeout w b) s w d) ∧
     (x.waiting ≠ [] → x.since + nsTime 200 ≤ d.now →
       Becomes (.bondSeqTimeout w b) s w (bondDrain g b (x.waiting.length + 1)
         (d.setBond b { x with nextRx := (x.nextRx + bondGap x) % 65536 }))) ∧
     (d.bondOn b = true → (d.bondMembers b).contains l = true → d.memberLost l = true →
       Becomes (.bondDegraded w b l) s w (refsRecheck g ((refreshOutputs d).raiseOnce 0x7A (0x40 + b))))) ∧
  (∀ (s : State) (w : At) (l : Nat), s.runs w.k = true →
     let d := s.found w
     let g := { s.pkg with out := [] }
     (∀ sp rest, d.lanes.swapWant.contains l = true → d.swapFor l = none → d.agushLane l = true →
       let e := { d with lanes := { d.lanes with swapWant := d.lanes.swapWant.filter fun x => decide (x ≠ l) } }
       eligible e l = sp :: rest →
       let x : SwapSt := ⟨l, sp, d.recOf l, true, false, false, false, none, none, !(d.laneUp (d.recOf l)), false, d.now⟩
       let e := swapStatus { e with lanes := { e.lanes with swaps := e.lanes.swaps ++ [x] } } l 1 sp
       Leaves (.laneSwapStart w l) s w (sendOn e sp 0 (idleBody g e sp false false))) ∧
     (∀ x, d.swapFor l = some x →
       (x.ready = true → x.peerRdy = true → x.at_.isSome = true → x.swapped = false →
         Becomes (.swapSwitch w l) s w (refsRecheck g (swapTakeLane d x))) ∧
       (x.swapped = true →
         let e := { d with lanes := { d.lanes with swaps := d.lanes.swaps.filter fun y => decide (y.lane ≠ l) } }
         Leaves (.swapOldPairStop w l) s w (((e.setLane x.old {}).setLaneState x.old 6).emit .laneSig x.old [])) ∧
       (x.swapped = false → (x.ready && x.peerRdy) = false → x.start + msTime 1 ≤ d.now →
         Becomes (.swapTimeout w l) s w (refsRecheck g (swapAbort d x)))))

/-- Ethernet ports (R289, R293, R294): a received frame that is no PTP frame for the sage is counted; a lane swap
moves the port to the first free spare and trains it again; a lost link trains again and is raised, a trained one is
up. JESD204C links (R296 to R298): an edge of a link that is up gives every stream its samples; a lost link restarts
and is raised once an epoch, a CRC error is counted and the seventeenth within 1 ms takes the link down, and a link
with lock on all its lanes is up. -/
def Obligations.EthernetAndJesd : Prop :=
  (∀ (s : State) (w : At) (p l : Nat) (b : List Byte), s.runs w.k = true →
     let d := s.found w
     let g := { s.pkg with out := [] }
     (d.getBit 0x3401 p 0 = true → ptpPayload (d.ethPort p) b = none → Leaves (.ethFrameRx w p b) s w (d.bump 0x3403 p 1)) ∧
     (d.getBit 0x3401 p 0 = true → ∀ m, ptpPayload (d.ethPort p) b = some m → bit (d.refCfg 8) 0 = true →
       bits (d.refCfg 8) 8 7 = p → netField m 0 1 % 16 = 0 → Leaves (.ethFrameRx w p b) s w (refCapture d 8)) ∧
     (d.getBit 0x3401 p 0 = false → Leaves (.ethFrameRx w p b) s w d) ∧
     (∀ sp rest, bit (d.ethPort p) 0 = true → (portLanes (d.ethPort p)).contains l = true → sparesFor d l = sp :: rest →
       Becomes (.ethLaneSwap w p l) s w (refsRecheck g ((portDrop (coldMove d l sp) p).raiseOnce 0x7B l))) ∧
     (d.getBit 0x3401 p 0 = true →
       Becomes (.ethLinkDown w p) s w (refsRecheck g ((portDrop d p).raiseOnce 0x7C (bits (d.ethPort p) 4 5)))) ∧
     (bit (d.ethPort p) 0 = true → d.getBit 0x3401 p 0 = false →
       Becomes (.ethLinkUp w p) s w (refreshOutputs ((portLaneState d p 2).put 0x3401 p 1)))) ∧
  (∀ (s : State) (w : At) (j k : Nat) (x : List Byte), s.runs w.k = true →
     let d := s.found w
     let c := d.jesd j
     let wd := jesdWidth c
     bit c 0 = true →
     (d.getBit 0x3601 j 0 = true →
       Becomes (.jesdLemcEdge w j k x) s w ((List.range (jesdStreams c)).foldl
         (jesdStreamEdge j k fun a i => fieldAt x ((a * jesdStreams c + i) * wd) wd) d) ∧
       Becomes (.jesdLinkDown w j) s w (jesdRestart d j)) ∧
     (let recent := (smGet (fun _ => ([] : List Nat)) d.lanes.jesdCrc j).filter fun t => decide (d.now < t + msTime 1)
       let e := (d.bump 0x3603 j 1).raiseOnce 0x7E (0x60 + j)
       let kept (l : List Nat) : Strand :=
         { e with lanes := { e.lanes with jesdCrc := smSet (fun _ => ([] : List Nat)) e.lanes.jesdCrc j l } }
       (recent.length < 16 → Becomes (.jesdCrc w j) s w (kept (d.now :: recent))) ∧
       (16 ≤ recent.length → Becomes (.jesdCrc w j) s w (jesdDownOp (kept []) j))) ∧
     (d.getBit 0x3601 j 0 = false →
       Leaves (.jesdLinkUp w j) s w (((jesdLanes c).foldl (fun e l =>
         if e.laneState (e.recOf l) = 6 then e else e.setLaneState (e.recOf l) 2) d).put 0x3601 j 1)))

/-! ### Time (10_timing.md) -/

/-- Inputs (R306 to R308): the first edge of an enabled input makes it a candidate, an input whose conditions have
held for QUAL_HOLDOFF_MS is QUALIFIED, a PPS edge out of its window is a break, a break takes candidacy and
qualification away and is raised where it was QUALIFIED; after each the selection of R312 runs. The end of an
averaging interval (R308): a REF10 or PPS input outside its window breaks, any other candidate has its frequency
recorded and its disagreements looked at. The reference in force stays while it is a candidate of the lowest rank;
otherwise the first candidate of that rank is chosen, unless two of the group disagree (R312). -/
def Obligations.References : Prop :=
  (∀ (s : State) (w : At) (n : Nat) (h : Int), s.runs w.k = true →
     let d := s.found w
     let g := { s.pkg with out := [] }
     let since := smGet zeroAt d.tm.candSince n
     (n < 2 → bit (d.refCfg n) 0 = true →
       Becomes (.ref10Edge w n h) s w (phaseSeen (refPresentOp g (d.put 0x2003 n (time80 d.now)) n) n h)) ∧
     ((n = 2 ∨ n = 3) → bit (d.refCfg n) 0 = true →
       let e := d.put 0x2003 n (time80 d.now)
       let t : Int := d.sageBase + (d.now : Int)
       let off := (t - smGet (fun _ => (0 : Int)) d.tm.edgeAt n - (2 ^ 48 : Nat)).natAbs
       let edge (x : Strand) : Strand :=
         { x with tm := { x.tm with edgeAt := smSet (fun _ => (0 : Int)) x.tm.edgeAt n t } }
       let seen (x : Strand) : Strand := todApply (phaseSeen (refPresentOp g x n) n h) n
       (since = 0 ∨ off * 1000000 ≤ d.get 0x2005 0x03 * 2 ^ 48 → Becomes (.ppsEdge w n h) s w (seen (edge e))) ∧
       (since ≠ 0 → d.get 0x2005 0x03 * 2 ^ 48 < off * 1000000 →
         Becomes (.ppsEdge w n h) s w (seen (edge (refBreakOp g e n))))) ∧
     (refPresent d n = true → since ≠ 0 → d.isQual n = false → since - 1 + msTime (d.get 0x2005 0x01) ≤ d.now →
       Becomes (.refQualify w n) s w (reselect g { d with tm := { d.tm with qualified := d.tm.qualified ++ [n] } })) ∧
     (refPresent d n = true → since ≠ 0 → d.now < since - 1 + msTime (d.get 0x2005 0x01) → Leaves (.refQualify w n) s w d) ∧
     (since = 0 → Leaves (.refBreak w n) s w d) ∧
     (since ≠ 0 → d.tm.target ≠ some n →
       (d.get 0x2000 0x05 = 2 → ¬(d.timeState = 2 ∧ d.tm.holdRef = n)) →
       let tm := d.tm
       let e := { d with tm := { tm with
         candSince := smSet zeroAt tm.candSince n 0
         qualified := tm.qualified.filter fun k => decide (k ≠ n)
         refused := tm.refused.filter fun k => decide (k ≠ n)
         measured := tm.measured.filter fun k => decide (k ≠ n)
         disPairs := tm.disPairs.filter fun p => decide (p.1 ≠ n) && decide (p.2.1 ≠ n) } }
       Becomes (.refBreak w n) s w (reselect g (e.raiseIf (d.isQual n) 0x80 n)))) ∧
  (∀ (s : State) (w : At) (n : Nat) (ppb : Int), s.runs w.k = true → n ≤ 8 →
     let d := s.found w
     let g := { s.pkg with out := [] }
     smGet zeroAt d.tm.candSince n ≠ 0 →
     (n ≤ 3 → d.get 0x2005 0x03 * 1000 < ppb.natAbs → Becomes (.freqMeasureEnd w n ppb) s w (refBreakOp g d n)) ∧
     ((3 < n ∨ ppb.natAbs ≤ d.get 0x2005 0x03 * 1000) → n ≠ d.refSel → d.tm.disPairs = [] →
       let e := { d with tm := { d.tm with freqPpb := smSet (fun _ => (0 : Int)) d.tm.freqPpb n ppb
                                           measured := (n :: d.tm.measured).dedup } }
       disputesAfter g e n = [] →
       Becomes (.freqMeasureEnd w n ppb) s w (reselect g e))) ∧
  (∀ (g : Pkg) (d : Strand) (cur : Nat),
     ((refGroup g d).contains cur = true → chooseRef g d cur = some cur) ∧
     (∀ x, chooseRef g d cur = some x → candidate g d x = true ∧ x < 9 ∧
       ∀ y, y < 9 → candidate g d y = true → refRank d x ≤ refRank d y) ∧
     ((refGroup g d).contains cur = false → groupDisputes d (refGroup g d) = true → chooseRef g d cur = none))

/-- Writes of the timing entries that their rules allow (R304, R307 to R309, R316): REF_CFG takes its value and
looks at the references again, QUAL_HOLDOFF_MS, FREQ_ADJ and PHASE_ADJ_PS take theirs, TIME_STEP_ARM permits one
step, TOD_LOAD keeps the second for the next edge, LOOP_MODE and SOFT_STATE that do not change take effect at once. -/
def Obligations.TimingWrites : Prop :=
  ∀ (s : State) (w : At) (rq : Requester) (n v : Nat),
    let d := s.found w
    let g := { s.pkg with out := [] }
    let leaves (i : Instr) (e : Strand) : Prop := e.still = true → e.sleep = 0 → Leaves i s w e
    (n < 4 → v < 32 → bit v 0 = true → bits (d.refCfg n) 8 7 = 0 → s.takes w rq 0x2001 n = true →
      let e := (d.put 0x2001 n v).answer 0x00
      leaves (.refCfg w rq n v) (reselect g { e with tm := { d.tm with refused := d.tm.refused.filter fun k => decide (k ≠ n) } })) ∧
    (100 ≤ v → v ≤ 60000 → perSecondOk (d.get 0x3004 0x02) v = true → s.takes w rq 0x2005 0x01 = true →
      leaves (.qualHoldoffMs w rq v) ((d.put 0x2005 0x01 v).answer 0x00)) ∧
    ((v < 100 ∨ 60000 < v) → v < 2 ^ 32 → s.takes w rq 0x2005 0x01 = true →
      leaves (.qualHoldoffMs w rq v) (d.answer 0x02)) ∧
    (s.takes w rq 0x2005 0x0B = true → leaves (.timeStepArm w rq 1)
      ((reselect g { d with tm := { d.tm with stepArm := true, refused := [] } }).answer 0x00)) ∧
    (∀ p, v < 2 ^ 64 → s.takes w rq 0x2005 0x0A = true → todPps d = some p → d.isQual p = true →
      (v = nextSecond d ∨ (stepPermit d).isSome = true) →
      leaves (.todLoad w rq v) ({ d with tm := { d.tm with tod := some v } }.answer 0x00)) ∧
    (v < 2 ^ 64 → s.takes w rq 0x2005 0x0A = true → todPps d = none → leaves (.todLoad w rq v) (d.answer 0x02)) ∧
    (v < 2 ^ 64 → (toSigned 64 v).natAbs ≤ 56294995342 → s.takes w rq 0x2006 0x02 = true → d.get 0x2006 0x01 ≠ 1 →
      leaves (.freqAdj w rq v) ((d.put 0x2006 0x02 v).answer 0x00)) ∧
    (v < 2 ^ 64 → s.takes w rq 0x2006 0x03 = true → d.get 0x2006 0x01 = 1 →
      leaves (.phaseAdjPs w rq v) ((slewBy d (d.tm.slewLeft - slewMoved d d.now + 2 * toSigned 64 v)).answer 0x00)) ∧
    (v < 2 ^ 64 → s.takes w rq 0x2006 0x03 = true → d.get 0x2006 0x01 ≠ 1 →
      leaves (.phaseAdjPs w rq v) (d.answer 0x00)) ∧
    (s.takes w rq 0x2006 0x01 = true → v ≤ 1 → v = d.get 0x2006 0x01 → leaves (.loopMode w rq v) (d.answer 0x00)) ∧
    (s.takes w rq 0x2006 0x01 = true → d.get 0x2006 0x01 = 0 → d.regsOk = true →
      let e := (d.put 0x2006 0x01 1)
      let e := { e with tm := { e.tm with holdRef := if d.refSel = 0x0F then d.tm.holdRef else d.refSel } }
      let f := timeTo g (setRef (setSwitch e 0 none) 0x0F) (e.get 0x2006 0x04)
      leaves (.loopMode w rq 1) ((showStatus g (setRef f f.refSel)).answer 0x00)) ∧
    ((v = 0 ∨ v = 2 ∨ v = 3 ∨ v = 4) → s.takes w rq 0x2006 0x04 = true → d.get 0x2006 0x01 ≠ 1 →
      leaves (.softState w rq v) ((d.put 0x2006 0x04 v).answer 0x00)) ∧
    ((v = 0 ∨ v = 2 ∨ v = 3 ∨ v = 4) → s.takes w rq 0x2006 0x04 = true → d.get 0x2006 0x01 = 1 →
      leaves (.softState w rq v) (timeTo g ((d.put 0x2006 0x04 v).answer 0x00) v))

/-- Timing states (R310, R311, R313, R315, R318): ACQUIRING with the TAI second known and both errors in range for 4
s goes to LOCKED, where the bandwidth is wide only after fifteen narrowings, one every 2 s; holdover beyond
HOLD_LIMIT_NS is LOST; a switch that has slewed its error ends in LOCKED; ACQUIRING without the second is raised.
PTP and the time outputs (R317, R323): a message of the servo's domain on a usable timescale gives the PTP input its
phase error, a bad or late one is a break; a delay request goes out on the input's port; PPS_OUT pulses for its
width on the strand that drives the pins. -/
def Obligations.TimingStates : Prop :=
  (∀ (s : State) (w : At), s.runs w.k = true →
     let d := s.found w
     let g := { s.pkg with out := [] }
     (d.timeState = 1 → todKnown d = true → inRange4 d = true → (wideAcq g d = false ∨ 15 ≤ d.tm.narrow) →
       Becomes (.lockAchieved w) s w (timeTo g d 2)) ∧
     ((d.timeState ≠ 1 ∨ todKnown d = false ∨ inRange4 d = false ∨ (wideAcq g d = true ∧ d.tm.narrow < 15)) →
       Leaves (.lockAchieved w) s w d) ∧
     (d.timeState = 1 → g.straps.tm = true → d.tm.narrow < 15 → d.tm.acqAt + secTime (2 * (d.tm.narrow + 1)) ≤ d.now →
       Leaves (.loopNarrow w) s w { d with tm := { d.tm with narrow := d.tm.narrow + 1 } }) ∧
     (d.timeState = 3 → d.get 0x2006 0x01 ≠ 1 → d.get 0x2000 0x05 ≠ 2 → d.get 0x2005 0x05 < holdModel d d.now →
       Becomes (.holdoverLimit w) s w (reselect g (timeTo g d 4))) ∧
     (d.timeState = 3 → holdModel d d.now ≤ d.get 0x2005 0x05 → Leaves (.holdoverLimit w) s w d) ∧
     (∀ x, d.tm.target = some x → d.get 0x2000 0x05 = 2 → slewRest d ≤ halfPs (lockNs x) →
       Becomes (.switchComplete w) s w (reselect g ((timeTo g (setSwitch (slewBy d 0) 0 none) 2).raise 0x81 x))) ∧
     (∀ x, d.tm.target = some x → halfPs (lockNs x) < slewRest d → Leaves (.switchComplete w) s w d) ∧
     (∀ x (err : Int), d.tm.target = some x → d.get 0x2000 0x05 = 1 → d.isQual x = true →
       (err.natAbs : Int) ≤ halfPs (d.get 0x2005 0x08) →
       let e := slewBy { d with tm := { d.tm with holdRef := if d.timeState = 2 then d.refSel else d.tm.holdRef } } err
       Becomes (.switchSlewStart w err) s w
         (showHops g (setRef (setSwitch (e.putInt 0x2000 0x08 64 (divNearest err 2)) 2 (some x)) x))) ∧
     (d.timeState = 1 → todKnown d = false → Becomes (.timeTodMissing w) s w (d.raise 0x87 d.refSel)) ∧
     ((d.timeState ≠ 1 ∨ todKnown d = true) → Leaves (.timeTodMissing w) s w d)) ∧
  (∀ (s : State) (w : At) (m : PtpMsg), s.runs w.k = true →
     let d := s.found w
     let g := { s.pkg with out := [] }
     let f := pinsFall d
     let e := d.put 0x2003 8 (time80 d.now)
     let bad : Bool := m.timedOut || !m.ptpTimescale || decide (d.get 0x2007 0x03 < m.clockClass)
     (d.sageUp = true → refPresent d 8 = true → m.domain = bits (d.get 0x2007 0x01) 0 7 →
       (bad = true → Becomes (.ptpRx w m) s w (refBreakOp g e 8)) ∧
       (bad = false → Becomes (.ptpRx w m) s w (phaseSeen (refPresentOp g e 8) 8 (2 * m.offsetPs - d.getInt 0x2007 0x02 32)))) ∧
     (m.domain ≠ bits (d.get 0x2007 0x01) 0 7 → Leaves (.ptpRx w m) s w d) ∧
     (let p := bits (d.refCfg 8) 8 7
      d.sageUp = true → refPresent d 8 = true → d.getBit 0x3401 p 0 = true →
       Leaves (.ptpDelayReqTx w) s w
         (({ d with tm := { d.tm with ptpReq := d.tm.ptpReq + 1 } }.bump 0x3402 p 1).emit .ether p [])) ∧
     ((d.tm.pinHeld = false → d.getBit 0x2008 0x01 0 = true → d.getBit 0x2008 0x01 1 = true →
         let fin := d.now + usTime (d.get 0x2008 0x02)
         Leaves (.ppsOutPulse w) s w { timePin f 4 true with tm := { f.tm with ppsFin := fin } }) ∧
       (d.getBit 0x2008 0x01 0 = false → Leaves (.ppsOutPulse w) s w f) ∧
       (d.tm.ppsFin = 0 → d.tm.epochFin = 0 → f = d)))

/-- Between boundaries an EPOCH_BOUNDARY command changes nothing. At the boundary of an epoch its steps follow R13:
splices, the commit, EPOCH-class writes, then the admission windows and what else the spec ties to a boundary; a
strand that takes DRIVE there takes it from the other strands (R323). The writes of EPOCH class whose boundary has
come take effect in the order in which they were made, and the others wait on (R13, R369): afterwards a plain
location holds the last value written for this boundary. -/
def Obligations.Boundaries : Prop :=
  (∀ (s : State) (w : At), s.runs w.k = true →
     let d := s.found w
     let g := { s.pkg with out := [] }
     (d.now % 2 ^ 38 ≠ 0 → Leaves (.epochBoundary w) s w d) ∧
     (d.now % 2 ^ 38 = 0 →
       let b := { d with flt := { d.flt with onceDone := [] } }
       let c := boundaryCommit (boundarySplices b)
       let e := boundaryWrites (c.raiseIf (linkDegraded c && !(linkDegraded b)) 0x96 0xFFFF)
       let e := epochOutOp (outOfsDecay (holdElapsed (boundaryAdmission e)))
       let e := activeSeconds (replaceRows (reloadTrig (reloadIngest (joinUnit e))))
       let t := settle (s.leave w.k (stepApply g (refsRecheck g (autoOff e)))) w.k
       exec (.epochBoundary w) s =
         .next (if drives d = false ∧ drives (t.strand w.k) = true then t.mapStrands (loseDrive w.k) else t))) ∧
  (∀ (d : Strand),
     let e := epochOf d.now
     (boundaryWrites d).pendW = d.pendW.filter (fun x => decide (e < x.due)) ∧
     ((∀ x ∈ d.pendW, e < x.due) → boundaryWrites d = d) ∧
     (∀ (x : PendWrite) (v n : Nat), d.pendW = [x] → x.due ≤ e → n < 4 → x.key = locKey 0x7801 n → x.val = v → v < 2 ^ 32 →
       d.regsOk = true → (boundaryWrites d).get 0x7801 n = v))

/-! ### Host port (11_host_port.md) -/

/-- The window (R330): a write while BUSY is discarded and sets OVERRUN; while it is free WIN_ADDR, WIN_LEN and
WIN_DATA take the value, and a register that only reads keeps its own (R327); WIN_GO performs the access and stays
BUSY until it is done, and then RESULT and the data show what the dictionary answered and vector 2 (of PF4, 1) is
raised. -/
def Obligations.HostWindow : Prop :=
  ∀ (s : State) (w : At) (v : Nat), s.ready = true → s.awake = true → hostOn s.pkg = true →
    let d := s.found w
    let x := d.host.win
    let g := { s.pkg with out := [] }
    let z := atZero w
    let sets (y : Window) : Strand := { d with host := { d.host with win := y } }
    let sets4 (i : Instr) (y : Window) : Prop :=
      exec i s = .next ({ s with pkg := { g with win4 := y } }.setStrand .s0 (s.found z))
    ((s.strand w.k).inReset = false → x.busy = false → Leaves (.winRegWrite w false 0 v) s w (sets { x with addr := v % 2 ^ 25 })) ∧
    ((s.strand w.k).inReset = false → x.busy = false → Leaves (.winRegWrite w false 4 v) s w (sets { x with len := v % 2 ^ 9 })) ∧
    ((s.strand w.k).inReset = false → x.busy = false → ∀ i, i < 64 →
      Leaves (.winRegWrite w false (0x100 + 4 * i) v) s w (sets { x with data := writeMem x.data (4 * i) (natToBytes 4 v) })) ∧
    ((s.strand w.k).inReset = false → x.busy = true → ∀ off, winOffset off = true →
      Leaves (.winRegWrite w false off v) s w (sets { x with overrun := true })) ∧
    ((s.strand w.k).inReset = false → ∀ off, roOffset off = true → Leaves (.winRegWrite w false off v) s w d) ∧
    ((s.strand w.k).inReset = false → x.busy = true → v % 2 = 1 →
      Leaves (.winGo w false v) s w (sets { x with overrun := true })) ∧
    (s.pkg.win4.busy = false → sets4 (.winRegWrite w true 0 v) { s.pkg.win4 with addr := v % 2 ^ 25 }) ∧
    (s.pkg.win4.busy = true → v % 2 = 1 → sets4 (.winGo w true v) { s.pkg.win4 with overrun := true }) ∧
    ((s.strand w.k).inReset = false → x.busy = false → v % 2 = 1 →
      let r := winAccess g d .host x
      r.1 = g → r.2.still = true → r.2.sleep = 0 →
      Leaves (.winGo w false v) s w { r.2 with host := { r.2.host with win := winBusy x r.2.resp } }) ∧
    (s.pkg.win4.busy = false → v % 2 = 1 →
      let r := winAccess g (s.found z) .pf4 s.pkg.win4
      r.1.newId = none → r.1.domain 0x40 = 2 → r.1.domain 0x41 ≠ 0 → r.2.still = true → r.2.sleep = 0 →
      exec (.winGo w true v) s =
        .next ({ s with pkg := { r.1 with win4 := winBusy s.pkg.win4 r.2.resp } }.setStrand .s0 r.2)) ∧
    (x.busy = true → x.pendRes ≠ 0xFF → Leaves (.windowAccessDone w false) s w ((sets { x with
      busy := false, done := true, result := x.pendRes, pendRes := 0, pendDat := []
      data := if x.pendRes = 0 then writeMem x.data 0 x.pendDat else x.data }).vector 2)) ∧
    (x.busy = false → Leaves (.windowAccessDone w false) s w d) ∧
    (s.pkg.win4.busy = true → s.pkg.win4.pendRes ≠ 0xFF → exec (.windowAccessDone w true) s =
      .next ({ s with pkg := { g with win4 := winDone s.pkg.win4 }.vector4 1 }.setStrand .s0 (s.found z)))

/-- The command queue (R334, R335): a doorbell inside the ring moves the producer and one outside it is discarded
and raised; a descriptor whose sequence is the next one is taken with the verdict of its checks; NOP and the data
commands execute it; at its completion the journal holds its entry and the next sequence follows. A write of 1 to
CMDQ_ENABLE sets the producer to the next sequence and ends STALE (R335); a write of 1 to EVQ_ENABLE sets the
consumer to the next event and the held events go out (R336); a doorbell of the event queue that lies among the
events written moves the consumer, any other is discarded and raised. -/
def Obligations.HostQueues : Prop :=
  (∀ (s : State) (w : At), s.runs w.k = true → hostOn s.pkg = true →
     let d := s.found w
     let g := { s.pkg with out := [] }
     let c := d.get 0x1100 0x04
     (∀ v, v < 2 ^ 32 → serialSub 32 v (d.get 0x1100 0x05) < 2 ^ 31 → serialSub 32 v c ≤ 2 ^ d.get 0x1100 0x02 →
       Leaves (.cmdqDb w v) s w (restartFetch (d.put 0x1100 0x05 v))) ∧
     (∀ v, v < 2 ^ 32 → (2 ^ 31 ≤ serialSub 32 v (d.get 0x1100 0x05) ∨ 2 ^ d.get 0x1100 0x02 < serialSub 32 v c) →
       Becomes (.cmdqDb w v) s w (d.dbBad 0 v 0xFFFF)) ∧
     (∀ b, d.get 0x1100 0x03 = 1 → d.getBit 0x1100 0x06 2 = false → c ≠ d.get 0x1100 0x05 → d.host.cmd.cur = none →
       fieldAt b 0 4 = c → 
       let r := cmdVerdict d b
       Leaves (.cmdFetch w b) s w { d with host := { d.host with
         cmd := { cur := some b, verdict := r, executed := decide (r ≠ 0), result := r } } }) ∧
     (∀ b, d.get 0x1100 0x03 = 1 → d.getBit 0x1100 0x06 2 = false → c ≠ d.get 0x1100 0x05 → d.host.cmd.cur = none →
       fieldAt b 0 4 ≠ c → d.host.cmd.tries = 8 →
       Becomes (.cmdFetch w b) s w ((((d.putBit 0x1100 0x06 2 true).bump 0x1100 0x07 1).post 0x02
         (c + fieldAt b 0 4 * 2 ^ 32) 0).raise 0x90 0xFFFF)) ∧
     (∀ b, d.host.cmd.cur = some b → d.host.cmd.executed = false →
       let fits := inR 1 256 (descLen b) = true ∧ descAddr b % 8 = 0
       let ends (code : Nat) (ws : List (Nat × List Byte)) : Strand :=
         { d with host := { d.host with cmd := { d.host.cmd with executed := true, result := code, writes := ws } } }
       (descOp b = 1 → Leaves (.nop w) s w (ends 0x00 [])) ∧
       (descOp b = 2 → dictBusy d = false → s.awake = true → inR 1 256 (descLen b) = false →
         ∀ h, Leaves (.dictWrite w h) s w (ends 0x05 [])) ∧
       (∀ h x r, descOp b = 2 → dictBusy d = false → s.awake = true → fits → cmdData d b h = .ok x →
         dictFind (descLoc b).1 (descLoc b).2 = some r →
         let p := writeGranted g d .host r (descLoc b).1 (descLoc b).2 x
         p.1 = g → p.2.still = true → p.2.sleep = 0 → Leaves (.dictWrite w h) s w (cmdRan p.2 p.2.resp.code [])) ∧
       (∀ r, descOp b = 3 → dictBusy d = false → fits → dictFind (descLoc b).1 (descLoc b).2 = some r →
         let e := readGranted g d .host r (descLoc b).1 (descLoc b).2 (descLen b)
         e.still = true → e.resp.code = 0 → d.host.cmd.noHost = false → e.host = d.host →
         Leaves (.dictRead w true) s w (cmdRan e 0x00 [(descAddr b, e.resp.data)])) ∧
       (∀ x, descOp b = 4 → descLen b % 8 = 0 → inR 8 16777216 (descLen b) = true → descAddr b % 8 = 0 → shadowBusy d = false →
         fieldAt b 24 4 % 8 = 0 → fieldAt b 24 4 + descLen b ≤ 0x01000000 → d.host.cmd.noHost = false → x.length = descLen b →
         Leaves (.planLoadDma w (.data x)) s w (cmdRan (slotWrite d (fieldAt b 24 4) x) 0x00 [])) ∧
       (descOp b = 4 → descLen b % 8 = 0 → inR 8 16777216 (descLen b) = true → descAddr b % 8 = 0 → shadowBusy d = true →
         ∀ h, Leaves (.planLoadDma w h) s w (ends 0x01 [])) ∧
       (∀ r, descOp b = 5 → dictBusy d = false → descLen b = 16 → descAddr b % 8 = 0 → d.host.cmd.noHost = false →
         dictFind (descLoc b).1 (descLoc b).2 = some r →
         Leaves (.dictDescribe w true) s w
           (ends 0x00 [(descAddr b, describeBytes d r (descLoc b).1 (descLoc b).2)]))) ∧
     (∀ b, d.host.cmd.cur = some b → d.host.cmd.executed = true → d.host.cmd.result ≠ 0xFF → d.host.cmd.writes = [] →
       bit (fieldAt b 5 1) 0 = false → Leaves (.commandComplete w) s w (advanceC (journalWrite d b d.host.cmd.result))) ∧
     (d.host.cmd.cur = none → Leaves (.commandComplete w) s w d)) ∧
  (∀ (s : State) (w : At) (rq : Requester),
     let d := s.found w
     let c := d.get 0x1101 0x05
     (s.takes w rq 0x1100 0x03 = true → let e := d.put 0x1100 0x03 1
       Leaves (.cmdqEnable w rq 1) s w (((e.put 0x1100 0x05 (e.get 0x1100 0x04)).putBit 0x1100 0x06 2 false).answer 0x00)) ∧
     (s.takes w rq 0x1100 0x03 = true → Leaves (.cmdqEnable w rq 0) s w ((d.put 0x1100 0x03 0).answer 0x00)) ∧
     (s.takes w rq 0x1101 0x03 = true → d.host.held = [] → let e := d.put 0x1101 0x03 1
       Leaves (.evqEnable w rq 1) s w ((e.put 0x1101 0x05 (e.get 0x1101 0x04)).answer 0x00)) ∧
     (s.takes w rq 0x1101 0x03 = true → Leaves (.evqEnable w rq 0) s w ((d.put 0x1101 0x03 0).answer 0x00)) ∧
     (∀ v, s.runs w.k = true → hostOn s.pkg = true → v < 2 ^ 32 →
       (serialSub 32 v c ≤ serialSub 32 (d.get 0x1101 0x04) c → d.host.held = [] →
         Leaves (.evqDb w v) s w (d.put 0x1101 0x05 v)) ∧
       (serialSub 32 (d.get 0x1101 0x04) c < serialSub 32 v c → Becomes (.evqDb w v) s w (d.dbBad 1 v 0xFFFF))))

/-- DMA channels (R341, R343, R344): a packet in hand that has room is written with its record, converted as R342
says, and one without room stalls its output; a completion doorbell inside the records frees their bytes; the hold
time signals; DMA_CFG enables and disables a channel; a credit wait is counted and raised. -/
def Obligations.DmaChannels : Prop :=
  ∀ (s : State) (w : At) (c : Nat), s.runs w.k = true → c < 16 →
    let d := s.found w
    let i := 0x7000 + c
    let x := d.dmaCh c
    (∀ t p, d.dmaOn c = true → s.pkg.hpUp = true → (d.output ⟨2, c⟩).tx = some t →
      dmaPlace d c (16 + (dmaBody (d.dmaCfg c) (t.bytes.drop 16)).length) = some p →
      Becomes (.dmaPacketTransfer w c false) s w (dmaWrite d c t p x.credit)) ∧
    (∀ t, d.dmaOn c = true → s.pkg.hpUp = true → (d.output ⟨2, c⟩).tx = some t → d.getBit i 0x0B 1 = true →
      dmaPlace d c (16 + (dmaBody (d.dmaCfg c) (t.bytes.drop 16)).length) = none →
      ∀ f, Leaves (.dmaPacketTransfer w c f) s w d) ∧
    (∀ v, hostOn s.pkg = true → v < 2 ^ 32 → d.getBit i 0x0B 1 = false →
      let n := serialSub 32 v (d.get i 0x08)
      n ≤ serialSub 32 (d.get i 0x07) (d.get i 0x08) →
      Leaves (.dmaCqDb w c v) s w ((d.setDma c { x with
        used := x.used - ((x.recs.take n).foldl (· + ·) 0), recs := x.recs.drop n }).put i 0x08 v)) ∧
    (∀ v, hostOn s.pkg = true → v < 2 ^ 32 →
      serialSub 32 (d.get i 0x07) (d.get i 0x08) < serialSub 32 v (d.get i 0x08) →
      Becomes (.dmaCqDb w c v) s w (d.dbBad (2 + c) v c)) ∧
    (∀ t, x.firstAt = some t → bits (d.dmaCfg c) 24 8 ≠ 0 → t + usTime (bits (d.dmaCfg c) 24 8) ≤ d.now →
      bit (d.dmaCfg c) 9 = true →
      Leaves (.dmaIntHold w c) s w ((d.setDma c { x with unsig := 0, firstAt := none }).vector (3 + c))) ∧
    (x.firstAt = none → Leaves (.dmaIntHold w c) s w d) ∧
    (d.dmaOn c = true → Becomes (.creditStall w c) s w ((((d.setDma c { x with credit := true }).putBit i 0x0B 2
      true).bump 0x1103 0x04 1).raise 0x97 c)) ∧
    (d.dmaOn c = false → Leaves (.creditStall w c) s w d ∧ Leaves (.dmaDisable w c) s w d) ∧
    (d.dmaOn c = true → Becomes (.dmaDisable w c) s w (dmaDisableOp d c)) ∧
    (∀ rq v, v < 2 ^ 32 → bits v 10 6 = 0 → s.takes w rq i 0x01 = true →
      (dmaCfgOk v = false → Leaves (.dmaCfg w rq c v) s w (d.answer 0x02)) ∧
      (dmaCfgOk v = true → bit (d.dmaCfg c) 0 = true → v / 2 ≠ d.dmaCfg c / 2 →
        Leaves (.dmaCfg w rq c v) s w (d.answer 0x01)) ∧
      (dmaCfgOk v = true → bit (d.dmaCfg c) 0 = false → bit v 0 = false →
        Leaves (.dmaCfg w rq c v) s w ((d.put i 0x01 v).answer 0x00)) ∧
      (dmaCfgOk v = true → bit (d.dmaCfg c) 0 = false → bit v 0 = true →
        let e := dmaEnable ((d.answer 0xFF).put i 0x01 v) c
        e.still = true → e.sleep = 0 → Leaves (.dmaCfg w rq c v) s w (e.answer 0x00)))

/-- Function-level reset, the link and PE_PERST_N (R339, R344, R351, R437): an FLR of a PF disables its queues and
channels and ends its session, one of PF4 its window; the link comes up in every strand with its rate, and goes down
in every strand with its channels disabled and HP_LINK_DOWN raised. The store aperture and errors of the service
matrix (R328, R347): a read of BAR4 in debug mode answers the store's bytes of the page that BAR4_PAGE names, any
other an error; a request that reaches no target is counted, one that is not answered in time is raised, each is
shown in SM_LAST_ERR, and a command of the command engine ends with ACCESS_ERROR. -/
def Obligations.HostLink : Prop :=
  (∀ (s : State) (w : At), s.ready = true →
     let d := s.found w
     let g := { s.pkg with out := [] }
     let all (p : Pkg) (f : Strand → Strand) : State :=
       settleAll (({ s with pkg := p }.mapStrands fun d => { d with out := [] }).mapStrands f)
     Becomes (.flr w false) s w (flrOp d) ∧
     exec (.flr w true) s = .next ({ s with pkg := g.flr4 }.setStrand w.k d) ∧
     exec .pePerstN s = .next (all { g with hpUp := false, perstN := false, win4 := {} } perstStrand) ∧
     exec .pePerstNRelease s = .next { s with pkg := { s.pkg with perstN := true } } ∧
     (s.pkg.hpUp = true → exec .hpLinkDown s = .next (all { g with hpUp := false } linkDownStrand)) ∧
     (s.pkg.hpUp = false → exec .hpLinkDown s = .next s) ∧
     (∀ speed width, s.pkg.perstN = true → s.pkg.domain 0x40 = 2 → 1 ≤ speed → speed ≤ 5 →
       (width = 1 ∨ width = 2 ∨ width = 4 ∨ width = 8) →
       exec (.hpLinkUp speed width) s = .next (all { g with hpUp := true } (linkUpStrand speed width)))) ∧
  (∀ (s : State) (w : At) (master target addr : Nat), s.runs w.k = true →
     let d := s.found w
     let c := d.host.cmd
     let e := masterError d master
     let shown (kind target : Nat) : Strand :=
       e.put 0x1103 0x06 (master % 8 + target % 8 * 2 ^ 3 + kind % 4 * 2 ^ 6 + addr % 2 ^ 56 * 2 ^ 8)
     (master ≠ 2 → e = d) ∧
     (master = 2 → c.cur.isSome = true → c.executed = false →
       e = { d with host := { d.host with cmd := { c with executed := true, result := 0x01 } } }) ∧
     Becomes (.smDecodeMiss w master addr) s w (((shown 0 7).bump 0x1103 0x03 1).raise 0x93 0xFFFF) ∧
     Becomes (.smTimeout w master target addr) s w ((shown 1 target).raise 0x94 0xFFFF) ∧
     (∀ off len, hostOn s.pkg = true → d.get 0xF000 0x01 = 1 → off + len ≤ 0x100000 →
       Leaves (.bar4Read w off len) s w
         (d.emit .completion off (d.storeRead (d.get 0x1104 0x01 * 0x100000 + off) len))) ∧
     (∀ off len, hostOn s.pkg = true → (d.get 0xF000 0x01 ≠ 1 ∨ 0x100000 < off + len) →
       Becomes (.bar4Read w off len) s w ((decodeMissOp d 4 off).emit .completion off [])))

/-! ### Management and the Lanyard (12_management.md) -/

/-- The checks of a dictionary access in their order (R371): the target answers, as the package monitor does PF4,
the entry exists, protection grants it, the access kind, the length, the value; the first that fails gives the
result code, and a write that passes them has its entry's effect. An access behind one that still runs waits. -/
def Obligations.DictionaryChecks : Prop :=
  ∀ (s : State) (w : At) (rq : Requester) (index sub : Nat) (b : List Byte), s.ready = true → s.awake = true →
    let d := s.found w
    let g := { s.pkg with out := [] }
    let i := Instr.registerWrite w rq index sub b
    let up := rq = .pf4 ∨ reachable d index sub true = true
    (¬up → Leaves i s w (d.answer 0x09)) ∧
    (up → findEntry rq index sub = none → Leaves i s w (d.answer 0x03)) ∧
    (∀ r, up → findEntry rq index sub = some r →
      (d.granted rq index sub r.level true = false → Leaves i s w (d.answer 0x04)) ∧
      (d.granted rq index sub r.level true = true → mustWait d index sub = true →
        Leaves i s w ({ d with mgmt := { d.mgmt with
          queue := d.mgmt.queue ++ [askFor 4 rq 2 index sub b.length b] } }.answer 0xFF)) ∧
      (d.granted rq index sub r.level true = true → mustWait d index sub = false →
        let e := noteLevel d rq r
        (r.access = 0 → Leaves i s w (e.answer 0x01)) ∧
        (r.access ≠ 0 → lengthOk r b.length = false → Leaves i s w (e.answer 0x05)) ∧
        (r.access ≠ 0 → lengthOk r b.length = true → typeOk r b = false → Leaves i s w (e.answer 0x02)) ∧
        (r.access ≠ 0 → lengthOk r b.length = true → typeOk r b = true →
          let x := entryWrite g (e.answer 0xFF) rq index sub b
          x.1.newId = none → x.1.domain 0x40 ≠ 0 → x.1.domain 0x41 ≠ 0 → x.2.still = true → x.2.sleep = 0 →
          LeavesPart i s w x.1 x.2)))

/-- What a requester may do (R374 to R376, R378): the first entry of the table that names its class and the index
decides; it gives its level, 0 only with a session, and a write-protect bit refuses writes; without an entry nothing
is granted but the four open locations. Changes of the protection table (R375): an entry whose range is reversed is
refused; any other takes its value without the reserved bits and the change is counted and raised. -/
def Obligations.Protection : Prop :=
  (∀ (d : Strand) (rq : Requester) (index sub lv : Nat) (isWrite : Bool), openLoc index sub = false →
     (index < 0x1200 ∨ 0x12FF < index ∨ d.hasSession rq = false) →
     (∀ n e, n < 32 → e = d.protEntryOf n → protDecides e rq index = true →
       (∀ m, m < n → protDecides (d.protEntryOf m) rq index = false) →
       (d.granted rq index sub lv isWrite = true ↔
         (if bits e 8 2 ≠ 0 then bits e 8 2 else if d.hasSession rq then 0 else 1) ≤ lv ∧
           (isWrite = true → bit e 10 = false))) ∧
     ((∀ n, n < 32 → protDecides (d.protEntryOf n) rq index = false) → d.granted rq index sub lv isWrite = false)) ∧
  (∀ (s : State) (w : At) (rq : Requester),
     let d := (s.found w).touchSession rq
     (∀ n v, n < 32 → v < 2 ^ 64 → s.takes w rq 0x1200 n = true →
       (protBad v = true → Leaves (.protEntry w rq n v) s w (d.answer 0x02)) ∧
       (protBad v = false → exec (.protEntry w rq n v) s =
         .next (shareDomains (settle (s.leave w.k (((d.put 0x1200 n (protMask v)).protChanged).answer 0x00)) w.k)))) ∧
     (∀ b, b.length = 256 → s.takes w rq 0x1201 0x01 = true →
       (((List.range 32).any fun n => protBad (fieldAt b (8 * n) 8)) = true →
         Leaves (.protTable w rq b) s w (d.answer 0x02)) ∧
       (((List.range 32).any fun n => protBad (fieldAt b (8 * n) 8)) = false → exec (.protTable w rq b) s =
         .next (shareDomains (settle (s.leave w.k ((((List.range 32).foldl (fun (e : Strand) n =>
           e.put 0x1200 n (protMask (fieldAt b (8 * n) 8))) d).protChanged).answer 0x00)) w.k)))))

/-- Requests of the Lanyard at their node (R357 to R359): a request of a new requester, or ahead of its last one, is
performed and answered on its port, and the requester's entry keeps the response; a repeated request gets the stored
response again and one that is behind is discarded and counted; a frame for another node does nothing. The debug
port (R438): a frame for a strand whose sage runs is a request of the debug class, answered in the debug register;
one for another strand, or without power in the test domain, has no answer; a frame that is no request clears the
register only. -/
def Obligations.LanyardRequests : Prop :=
  (∀ (s : State) (w : At) (port type : Nat) (f : LydFrame) (i : Instr), s.ready = true → s.awake = true →
     f.type = type → (i = .read w port f ∧ type = 1 ∨ i = .lanyardWrite w port f ∧ type = 2 ∨ i = .describe w port f ∧ type = 3) →
     let d := s.found w
     let g := { s.pkg with out := [] }
     let rq := frameRequester f
     let a : Ask := { port := port, rq := rq, f := f }
     let isNew := ∀ e ∈ d.mgmt.table, e.rq = rq → serialSub 16 f.seq e.seq ≠ 0 ∧ serialSub 16 f.seq e.seq ≤ 32767
     port ≤ 1 →
     (takesIn g d f = false → Leaves i s w d) ∧
     (takesIn g d f = true → isNew → lydFull d f = true → Leaves i s w (d.bump 0x1141 0x07 1)) ∧
     (∀ c, takesIn g d f = true → isNew → lydFull d f = false → c ≠ 0xFF → arriveAs (tableTake d rq f.seq) rq type f.index f.subindex = .error c →
       Leaves i s w (deliver g ((tableTake d rq f.seq).answer c) a c []).2) ∧
     (∀ r, takesIn g d f = true → isNew → lydFull d f = false → mustWait d f.index f.subindex = false →
       arriveAs (tableTake d rq f.seq) rq type f.index f.subindex = .ok r →
       (type = 3 → Leaves i s w
         (let e := (tableTake d rq f.seq).answerData (describeBytes d r f.index f.subindex)
          (deliver g e a 0x00 e.resp.data).2)) ∧
       (type = 1 →
         let e := readGranted g (tableTake d rq f.seq) rq r f.index f.subindex f.len
         e.resp.code ≠ 0xFF → e.still = true → Leaves i s w (deliver g e a e.resp.code e.resp.data).2) ∧
       (type = 2 →
         let x := writeGranted g (tableTake d rq f.seq) rq r f.index f.subindex f.payload
         x.2.resp.code ≠ 0xFF → x.1.newId = none → x.1.domain 0x40 ≠ 0 → x.1.domain 0x41 ≠ 0 → x.2.still = true →
         x.2.sleep = 0 → LeavesPart i s w x.1 (deliver x.1 x.2 a x.2.resp.code x.2.resp.data).2)) ∧
     (∀ e, takesIn g d f = true → (d.mgmt.table.find? fun e => decide (e.rq = rq)) = some e →
       let again := { d with mgmt := { d.mgmt with table := e :: d.mgmt.table.erase e } }
       (f.seq = e.seq → e.seq < 65536 → e.resp ≠ [] → Leaves i s w ((lydSend g again port e.resp).bump 0x1141 0x06 1)) ∧
       (f.seq = e.seq → e.seq < 65536 → e.resp = [] → Leaves i s w again) ∧
       (32767 < serialSub 16 f.seq e.seq → d.flt.onceDone.contains 0xA6 = true → Leaves i s w (d.bump 0x1141 0x05 1)) ∧
       (32767 < serialSub 16 f.seq e.seq → type ≠ 2 → Becomes i s w ((d.bump 0x1141 0x05 1).raiseOnce 0xA6 port)))) ∧
  (∀ (s : State) (w : At) (f : LydFrame), s.ready = true → s.awake = true →
     let d := s.found w
     let g := { s.pkg with out := [], jtagIr := 0x3A }
     let a : Ask := { port := 2, rq := .dbg, f := f }
     ((s.pkg.domain 0x43 ≠ 2 ∨ f.dstStrand ≠ d.id.num ∨ d.sageUp = false) → LeavesPart (.dbgFrame w f) s w g d) ∧
     (s.pkg.domain 0x43 = 2 → f.dstStrand = d.id.num → d.sageUp = true →
       ((f.resp = true ∨ f.type = 0 ∨ 4 ≤ f.type) → LeavesPart (.dbgFrame w f) s w { g with dbgReg := [] } d) ∧
       (∀ c, f.resp = false → (f.type = 1 ∨ f.type = 2 ∨ f.type = 3) → c ≠ 0xFF →
         arriveAs d .dbg f.type f.index f.subindex = .error c →
         LeavesPart (.dbgFrame w f) s w { g with dbgReg := lydBytes (responseTo { g with dbgReg := [] } d f c []) } (d.answer c)) ∧
       (∀ r, f.resp = false → (f.type = 1 ∨ f.type = 2 ∨ f.type = 3) → arriveAs d .dbg f.type f.index f.subindex = .ok r →
         mustWait d f.index f.subindex = false →
         let x := perform { g with dbgReg := [] } d a r
         x.2.resp.code ≠ 0xFF → x.1.newId = none → x.1.domain 0x40 ≠ 0 → x.1.domain 0x41 ≠ 0 → x.2.still = true →
         x.2.sleep = 0 → LeavesPart (.dbgFrame w f) s w
           { x.1 with dbgReg := lydBytes (responseTo x.1 x.2 f x.2.resp.code x.2.resp.data) } x.2)))

/-- A broadcast write is counted and performed in a node of its scope and never answered; its failure is counted
with its code (R360). A frame that arrives whole is counted and its copy leaves by the other port; a frame with a
bad CRC and one that was aborted are counted and their copy is aborted; a node whose sage does not run only forwards
(R358). In a part that is unpowered or in device reset each node is a bypass: what comes in at one port leaves by
the other (R11). -/
def Obligations.BroadcastsAndForwarding : Prop :=
  (∀ (s : State) (w : At) (port : Nat) (f : LydFrame) (b : List Byte), s.ready = true → s.awake = true → port ≤ 1 →
     let d := s.found w
     let g := { s.pkg with out := [] }
     let fwd (aborted : Bool) : Instr := .lydFrameForward w port aborted b
     ((d.sageUp = false ∨ f.resp = true ∨ s.pkg.devId = none ∨ (f.allStrands = false ∧ f.dstStrand ≠ d.id.num)) →
       Leaves (.bcastWrite w port f) s w d) ∧
     (∀ c, d.sageUp = true → f.resp = false → s.pkg.devId.isSome = true → (f.allStrands = true ∨ f.dstStrand = d.id.num) →
       lydFull d f = false → arriveAs (d.bump 0x1141 0x08 1) (frameRequester f) 4 f.index f.subindex = .error c →
       (c = 3 ∨ c = 4 ∨ c = 9) →
       Leaves (.bcastWrite w port f) s w
         (((((d.bump 0x1141 0x08 1).answer c)).bump 0x1141 0x09 1).put 0x1141 0x0A c)) ∧
     (∀ ab, d.sageUp = false → Leaves (fwd ab) s w (forwardCopy g d port ab b)) ∧
     (d.sageUp = true → Leaves (fwd true) s w ((forwardCopy g d port true b).bump 0x1141 0x03 1)) ∧
     (d.sageUp = true → lydParse b = none → d.flt.onceDone.contains 0xA5 = true →
       Leaves (fwd false) s w ((forwardCopy g d port true b).bump 0x1141 0x02 1)) ∧
     (∀ p, d.sageUp = true → lydParse b = some p → (p.type = 0 ∨ 8 ≤ p.type) →
       Leaves (fwd false) s w (((forwardCopy g d port false b).bump 0x1141 0x01 1).bump 0x1141 0x04 1)) ∧
     (∀ p, d.sageUp = true → lydParse b = some p → (p.type = 1 ∨ p.type = 2 ∨ p.type = 3) → p.dstStrand ≠ d.id.num →
       Leaves (fwd false) s w ((forwardCopy g d port false b).bump 0x1141 0x01 1))) ∧
  (∀ (s : State) (w : At) (port : Nat) (aborted : Bool) (b : List Byte), s.pkg.inHold = true → port ≤ 1 →
     let other := if aborted then 3 - port else 1 - port
     Leaves (.lydFrameForward w port aborted b) s w { s.found w with out := [⟨.lanyard, other, b⟩] })

/-- Enumeration (R363 to R365): at strand 0 of a part that is no head, an ENUM frame gives the device ID of its
segment and position and goes on with the next position, and past 255 is refused with a report; a head counts
refusals, starts enumeration when it is due, when it is told to, and when an unassigned part asks; an unassigned
part reports upstream. Beacons and links (R355, R365, R366): a head sends a BEACON every second; a BEACON at another
part ends NO_HEAD, which begins 3 s after the last one; another head's SERIAL above a head is HEAD_CONFLICT; a port
of the part that loses its link is raised. -/
def Obligations.EnumerationAndBeacons : Prop :=
  (∀ (s : State) (w : At) (f : LydFrame), s.ready = true → w.k = .s0 → s.st0.id = .s0 →
     let d := s.found w
     let g := { s.pkg with out := [] }
     let seg := fieldAt f.payload 0 1
     let pos := fieldAt f.payload 1 2
     let h := { g with posSeen := pos, lastEnum := some d.sage }
     d.sageUp = true →
     (g.straps.head = false → 1 ≤ pos → pos ≤ 255 →
       BecomesPart (.enum w f) s w { h with newId := some (seg * 256 + pos) }
         (lydSend h d 1 (lydBytes { f with
           type := 5
           payload := natToBytes 1 seg ++ natToBytes 2 (pos + 1) ++ f.payload.drop 3 }))) ∧
     (g.straps.head = false → pos = 0 → LeavesPart (.enum w f) s w h d) ∧
     (g.straps.head = false → 255 < pos → BecomesPart (.enum w f) s w h
       (lydSend h ((enumReport h d 1).raiseOnce 0xA8 0) 1 (lydBytes { f with type := 5 }))) ∧
     (g.straps.head = true → (frameSerial f = d.get 0x1000 0x06 ∨ g.conflict = true) → Leaves (.enum w f) s w d) ∧
     (g.straps.head = true → seg = 1 → Leaves (.enumReport w f) s w (d.bump 0x1140 0x08 1)) ∧
     (g.straps.head = false → Leaves (.enumReport w f) s w d) ∧
     (g.straps.head = true → seg = 3 → (g.lastEnum.getD 0) + secTime 1 ≤ d.sage →
       BecomesPart (.enumReport w f) s w (enumBegin g d).1 (enumBegin g d).2) ∧
     (g.straps.head = true → g.firstEnum = false → msTime 500 ≤ d.sage →
       BecomesPart (.enumStart w) s w (enumBegin { g with firstEnum := true } d).1
         (enumBegin { g with firstEnum := true } d).2) ∧
     (g.firstEnum = true → Leaves (.enumStart w) s w d) ∧
     (∀ rq, s.takes w rq 0x1140 0x06 = true →
       (g.conflict = true → Leaves (.lydEnumStart w rq 1) s w (d.answer 0x01)) ∧
       (g.conflict = false → g.straps.head = false → Leaves (.lydEnumStart w rq 1) s w (d.answer 0x00))) ∧
     (g.devId = none → (g.lastEnum.getD 0) + secTime 1 ≤ d.sage → (∀ t, g.reported = some t → t + secTime 1 ≤ d.sage) →
       LeavesPart (.unassignedReportTx w) s w { g with reported := some d.sage } (enumReport g d 3)) ∧
     (g.devId.isSome = true → Leaves (.unassignedReportTx w) s w d)) ∧
  (∀ (s : State) (w : At) (port : Nat) (f : LydFrame), s.ready = true →
     let d := s.found w
     let g := { s.pkg with out := [] }
     (d.sageUp = true → g.straps.head = false →
       Leaves (.beacon w port f) s w { d with mgmt := { d.mgmt with beaconIn := d.sage, noHead := false } }) ∧
     (d.sageUp = true → g.straps.head = true → d.id = .s0 → port = 0 → frameSerial f ≠ d.get 0x1000 0x06 → g.conflict = false →
       BecomesPart (.beacon w port f) s w { g with conflict := true } ((enumReport g d 2).raiseOnce 0xA9 0)) ∧
     (d.sageUp = false → Leaves (.beacon w port f) s w d ∧ Leaves (.beaconTx w) s w d ∧ Leaves (.noHeadTimeout w) s w d) ∧
     (d.sageUp = true → d.id = .s0 → g.straps.head = true → (∀ t, g.beaconAt = some t → t + secTime 1 ≤ d.sage) →
       LeavesPart (.beaconTx w) s w { g with beaconAt := some d.sage }
         (ownSend g d 1 7 (natToBytes 1 g.straps.seg ++ zeros 7 ++ serialBytes d))) ∧
     (g.straps.head = false → Leaves (.beaconTx w) s w d) ∧
     (d.sageUp = true → g.straps.head = false → d.mgmt.noHead = false → d.mgmt.beaconIn + secTime 3 ≤ d.sage →
       Becomes (.noHeadTimeout w) s w ({ d with mgmt := { d.mgmt with noHead := true } }.raiseOnce 0xAA 0)) ∧
     (d.sage < d.mgmt.beaconIn + secTime 3 → Leaves (.noHeadTimeout w) s w d) ∧
     (d.id = .s0 → g.upLink = true → BecomesPart (.lydLinkDown w 0) s w { g with upLink := false } (d.raiseOnce 0xA4 0)) ∧
     (d.id = .s3 → g.downLink = true →
       BecomesPart (.lydLinkDown w 1) s w { g with downLink := false } (d.raiseOnce 0xA4 1)) ∧
     (d.id = .s0 → LeavesPart (.lydLinkUp w 0) s w { g with upLink := true } d) ∧
     (d.id = .s3 → LeavesPart (.lydLinkUp w 1) s w { g with downLink := true } d) ∧
     (d.id ≠ edgeStrand port → Leaves (.lydLinkDown w port) s w d ∧ Leaves (.lydLinkUp w port) s w d))

/-- Level-0 sessions (R378, R379): CHALLENGE gives a nonce bound to its requester; the matching RESPONSE within 10 s
opens a session, any other is counted and the third in a row locks out; a session ends by release or idle time, a
lockout at its time. The value of a nonce is the model's free value (assumption log 6). -/
def Obligations.Sessions : Prop :=
  ∀ (s : State) (w : At) (rq : Requester), s.ready = true →
    let d := s.found w
    let others := d.mgmt.nonces.filter fun x => decide (x.rq ≠ rq)
    let mine := d.mgmt.nonces.find? fun x => decide (x.rq = rq)
    let n := Config.nonce (4 * d.freeCtr + d.id.num) % 2 ^ 128
    let open_ := d.dictFree = true ∧ rq ≠ .pf4
    (open_ → s.pkg.key = none → Leaves (.challenge w rq) s w (d.answer 0x01)) ∧
    (open_ → s.pkg.key.isSome = true → d.lockedOut = true → Leaves (.challenge w rq) s w (d.answer 0x04)) ∧
    (open_ → s.pkg.key.isSome = true → d.lockedOut = false → Leaves (.challenge w rq) s w
      ({ d with freeCtr := d.freeCtr + 1, mgmt := { d.mgmt with nonces := ⟨rq, n, d.sage⟩ :: others } }.answerData
        (natToBytes 16 n))) ∧
    (∀ b, b.length = 16 → open_ → s.awake = true → d.lockedOut = true → Leaves (.response w rq b) s w (d.answer 0x04)) ∧
    (∀ b key x, b.length = 16 → open_ → s.awake = true → d.lockedOut = false → s.pkg.key = some key → mine = some x →
      d.sage ≤ x.at_ + secTime 10 → expectedResponse key d rq x.nonce = b →
      Leaves (.response w rq b) s w (({ d with mgmt := { d.mgmt with
        nonces := others
        sessions := ⟨rq, d.sage⟩ :: d.mgmt.sessions.filter fun y => decide (y.rq ≠ rq)
        fails := 0 } }.put 0x1210 0x07 10).answer 0x00)) ∧
    (∀ b, b.length = 16 → open_ → s.awake = true → d.lockedOut = false →
      (∀ key x, s.pkg.key = some key → mine = some x →
        x.at_ + secTime 10 < d.sage ∨ expectedResponse key d rq x.nonce ≠ b) →
      d.flt.onceDone.contains 0xAC = true → d.flt.onceDone.contains 0xAD = true →
      let e := (responseFail { d with mgmt := { d.mgmt with nonces := others } })
      Leaves (.response w rq b) s w e ∧ e.resp.code = 0x02 ∧ e.hasSession rq = d.hasSession rq ∧
        (e.mgmt.lockUntil = if d.mgmt.fails + 1 < 3 then d.mgmt.lockUntil else some (d.sage + secTime (d.get 0x1210 0x07)))) ∧
    (open_ → s.awake = true → Leaves (.level0Release w rq 1) s w ((d.endSession rq).answer 0x00) ∧
      Leaves (.level0Release w rq 0) s w (d.answer 0x00)) ∧
    (∀ x, (d.mgmt.sessions.find? fun y => decide (y.rq = rq)) = some x →
      (x.last + secTime (d.get 0x1210 0x05) ≤ d.sage → Leaves (.sessionIdleTimeout w rq) s w (d.endSession rq)) ∧
      (d.sage < x.last + secTime (d.get 0x1210 0x05) → Leaves (.sessionIdleTimeout w rq) s w d)) ∧
    (∀ t, d.mgmt.lockUntil = some t →
      (t ≤ d.sage → Leaves (.lockoutExpire w) s w { d with mgmt := { d.mgmt with lockUntil := none } }) ∧
      (d.sage < t → Leaves (.lockoutExpire w) s w d))

/-- One-time memory and the package's entries (R353, R354, R362, R370, R380): a key or a patch is burnt once, and a
second burn of it is refused; the end of a burn programs it, or fails with OTP_PROG_FAIL; LOCAL_DEVICE_ID takes its
value while the part has no device ID of the Lanyard; the watchdog resets the sage for at most 50 ms. -/
def Obligations.OtpAndSage : Prop :=
  ∀ (s : State) (w : At) (rq : Requester) (b : List Byte),
    let d := s.found w
    let g := { s.pkg with out := [] }
    (b.length = 32 → s.takes w rq 0x1211 0x01 = true →
      ((s.pkg.key.isSome = true ∨ s.pkg.burnKey.isSome = true) → Leaves (.level0Key w rq b) s w (d.answer 0x01)) ∧
      (s.pkg.key = none → s.pkg.burnKey = none → bytesToNat b = 0 → Leaves (.level0Key w rq b) s w (d.answer 0x02)) ∧
      (s.pkg.key = none → s.pkg.burnKey = none → bytesToNat b ≠ 0 →
        LeavesPart (.level0Key w rq b) s w { g with burnKey := some (bytesToNat b) } (d.answer 0xFF))) ∧
    (∀ slot, slot < 32 → 1 ≤ b.length → b.length ≤ 256 → s.takes w rq 0x10C0 slot = true →
      let e := d.touchSession rq
      let has := smGet (fun _ => ([] : List Byte)) s.pkg.patches slot ≠ [] ∨ ∃ x ∈ s.pkg.burnPatch, x.1 = slot
      (has → Leaves (.sagePatch w rq slot b) s w (e.answer 0x01)) ∧
      (¬has → LeavesPart (.sagePatch w rq slot b) s w { g with burnPatch := s.pkg.burnPatch ++ [(slot, b)] }
        (e.answer 0xFF))) ∧
    (∀ v, s.ready = true → s.pkg.burnKey = some v →
      (∃ t, exec (.otpBurnDone w true) s = .next t ∧ t.pkg.key = some v ∧ t.pkg.burnKey = none) ∧
      (d.flt.onceDone.contains 0xA2 = true →
        ∃ t, exec (.otpBurnDone w false) s = .next t ∧ t.pkg.key = s.pkg.key ∧ t.pkg.burnKey = none)) ∧
    (s.ready = true → s.pkg.burnKey = none → s.pkg.burnPatch = [] → ∀ ok, Leaves (.otpBurnDone w ok) s w d) ∧
    (∀ v, v < 65536 → s.takes w rq 0x1081 0x01 = true →
      (s.pkg.devId.isSome = true → Leaves (.localDeviceId w rq v) s w (d.answer 0x01)) ∧
      (s.pkg.devId = none → LeavesPart (.localDeviceId w rq v) s w (g.put 0x1081 0x01 v) (d.answer 0x00))) ∧
    (s.ready = true → Becomes (.sageWatchdog w) s w (sageWatchdogOp g d)) ∧
    (smGet zeroAt d.tm.candSince 8 = 0 →
      (sageWatchdogOp g d).mgmt.bootUntil ≤ d.sage + msTime 50 ∧ (sageWatchdogOp g d).mgmt.sessions = [] ∧
      (sageWatchdogOp g d).mgmt.table = [] ∧ (sageWatchdogOp g d).mgmt.queue = [])

/-! ### Counters and health (02, 03, 04, 05, 07, 08, 09, 13) -/

/-- The clear rows (R65, R93, R124, R152, R233, R260, R409): a write of 1 sets the counters of the row to 0,
MARGIN_MIN to the present margin, and changes no other value of the dictionary and nothing else of the strand, but
that TRIG_CNT_CLEAR first lets the outputs take what is due and clears the detectors' counts; a write of 0 changes
nothing. -/
def Obligations.CounterClears : Prop :=
  ∀ (s : State) (w : At) (rq : Requester),
    let d := s.found w
    let rowOn (e : Strand) (i : Nat → Instr) (index sub : Nat) (val : Nat → Nat → Option Nat) : Prop :=
      s.takes w rq index sub = true →
      (∃ regs, Leaves (i 1) s w ({ e with regs := regs }.answer 0x00) ∧
        ∀ j x, x < 256 → ({ e with regs := regs } : Strand).get j x = (val j x).getD (e.get j x)) ∧
      Leaves (i 0) s w (d.answer 0x00)
    let row (i : Nat → Instr) (index sub : Nat) (val : Nat → Nat → Option Nat) : Prop := rowOn d i index sub val
    let zeroIn (index : Nat) (l : List Nat) (j x : Nat) : Option Nat := if j = index ∧ x ∈ l then some 0 else none
    d.regsOk = true →
    (∀ p, p < 272 → row (.healthClear w rq p) (0x5100 + p) 0x0E fun j x =>
      if j = 0x5100 + p ∧ x = 7 then some (d.get (0x5100 + p) 6 % 2 ^ 16)
      else zeroIn (0x5100 + p) [3, 4, 5, 9, 0xA, 0xB, 0xD] j x) ∧
    row (.accCntClear w rq) 0x5800 0x09 (zeroIn 0x5800 [1, 2, 3, 4, 5, 6, 7, 8]) ∧
    row (.cbCntClear w rq) 0x5700 0x07 (zeroIn 0x5700 [1, 2, 3, 4, 5, 6]) ∧
    row (.bsqCntClear w rq) 0x6823 0x01 (fun j x =>
      if (j = 0x6800 ∧ (x = 1 ∨ x = 2)) ∨ (j = 0x6810 ∧ (x = 1 ∨ x = 2 ∨ x = 4 ∨ x = 5)) ∨ (j = 0x6820 ∧ x = 4) ∨
        (j = 0x6822 ∧ (x = 2 ∨ x = 3)) then some 0 else none) ∧
    rowOn (toutsSettle { d with trig := { d.trig with detDrops := [] } }) (.trigCntClear w rq) 0x7800 0x0A (fun j x =>
      if (j = 0x7800 ∧ 1 ≤ x ∧ x ≤ 9) ∨ (0x7806 ≤ j ∧ j ≤ 0x7808 ∧ x ≤ 4) ∨ (j = 0x7809 ∧ x ≤ 3) ∨
        (0x7840 ≤ j ∧ j ≤ 0x787F ∧ (x = 1 ∨ x = 3)) then some 0 else none) ∧
    row (.ingCntClear w rq) 0x4000 0x09 (fun j x =>
      if (j = 0x4000 ∧ 1 ≤ x ∧ x ≤ 8) ∨ (j = 0x4001 ∧ 1 ≤ x ∧ x ≤ 12) ∨ (j = 0x4002 ∧ x ≤ 25) ∨
        (0x4300 ≤ j ∧ j ≤ 0x431F) then some 0 else none) ∧
    row (.faultCntClear w rq) 0x2831 0x01 (fun j x => if j = 0x2830 ∧ x < 192 then some 0 else none) ∧
    (∀ n, n < 26 → s.takes w rq (0x3100 + n) 0x0D = true →
      let e := laneCntClearOp (d.answer 0xFF) n
      let x := refsRecheck { s.pkg with out := [] } (e.answer 0x00)
      (x.still = true → x.sleep = 0 → Leaves (.laneCntClear w rq n 1) s w x) ∧ (e.lane n).symSec = 0 ∧
        ∀ y ∈ [2, 3, 4, 5, 6, 7, 8, 0xC, 0xF], e.get (0x3100 + n) y = 0)

/-! ### Faults, the control pair and recovery (13_faults_recovery.md) -/

/-- What one capture does (R384 to R386, R391): a source with a bad wire is not processed; a masked one is counted
and nothing else; any other is counted, shown in FAULT_LAST, and sets its group's PENDING bit unless its severity is
INFO; an INFO fault leaves FAULT_FIRST, another one fills it when it is empty and sets OVERFLOW when it is not. -/
def Obligations.CollectorRecords : Prop :=
  ∀ (g : Pkg) (d : Strand) (src inst : Nat), src < 192 → d.regsOk = true →
    let cfg := d.get 0x2810 src
    let w := d.freeNat.1
    (bit cfg 3 = true → capture g d (src, inst) = d) ∧
    (bit cfg 3 = false → bit cfg 2 = true → capture g d (src, inst) = d.bump 0x2830 src 1) ∧
    (bit cfg 3 = false → bit cfg 2 = false →
      let grp := src / 16
      let own := bits cfg 0 2
      let esc := own ≠ 0 ∧ d.getBit 0x2801 grp 0 = true
      ∃ k : Taken, k.src = src ∧ k.inst = inst ∧ k.sev = (if d.getBit 0x2801 grp 0 = true ∧ own ≠ 0 then min 3 (own + 1) else own) ∧
        (k.esc = true ↔ esc) ∧ k.time = d.now + w % (nsTime 977 + 1) ∧
        k.epoch = epochOf (if promiseSources.contains src then d.now else k.time) ∧
        ∃ e, capture g d (src, inst) = react g e k ∧
          e.get 0x2830 src = min (d.get 0x2830 src + 1) (2 ^ 32 - 1) ∧
          e.get 0x2800 0x02 = faultRecord d k % 2 ^ 256 ∧
          (own ≠ 0 → e.getBit 0x2801 grp 0 = true) ∧ (own = 0 → e.get 0x2801 grp = d.get 0x2801 grp) ∧
          (own = 0 → e.get 0x2800 0x01 = d.get 0x2800 0x01) ∧
          (own ≠ 0 → d.getBit 0x2800 0x01 11 = false → e.get 0x2800 0x01 = faultRecord d k % 2 ^ 256) ∧
          (own ≠ 0 → d.getBit 0x2800 0x01 11 = true → e.getBit 0x2800 0x01 12 = true))

/-! ### The whole block -/

/-- One sample takes its faults in ascending source number, each processed in the state that the one before it left
(R385); a raised source joins the rails in its place. -/
def Obligations.FaultOrder : Prop :=
  ∀ (g : Pkg) (d : Strand), railsOk d.flt.rails = true →
    (∃ fs : List (Nat × Nat), fs.Pairwise (fun a b => a.1 < b.1) ∧
      (∀ f, f ∈ fs ↔ f ∈ d.flt.rails ∧ sampledSource g d f.1 f.2 = true) ∧
      sampleRails g d = fs.foldl (capture g) { d with flt := { d.flt with rails := [] } }) ∧
    ∀ src inst, railsOk (d.raise src inst).flt.rails = true ∧
      (∀ f ∈ d.flt.rails, f ∈ (d.raise src inst).flt.rails) ∧ ∃ i, (src, i) ∈ (d.raise src inst).flt.rails

/-! ### Faults, the control pair and recovery (13_faults_recovery.md) -/

/-- Signals of faults (R383, R384): a source drives its strand's rails with its instance, a package source those of
all four strands; a bad link word flushes its queue (R228), a bad row of the queue descriptors is noted (R229), and
so is a bad unit of the trigger tables (R261); a bad rail pair is noted once, counts as CTRL wire fault of its
source, and a retest clears it. Writes of the collector's entries (R386 to R388, R391): FAULT_CFG sets SEVERITY and
MASK, which sources 0x05 to 0x07 refuse to lower; FAULT_REACT takes DEVICE_RESET in group 0xB only; an
acknowledgement clears the group's bits; the first record is cleared. -/
def Obligations.FaultSignalsAndWrites : Prop :=
  (∀ (s : State) (w : At), s.ready = true →
     let d := s.found w
     let g := { s.pkg with out := [] }
     (∀ src inst, src < 192 → src ≠ 0x59 → src ≠ 0x5A → src ≠ 0x66 → (src < 0xB0 ∨ 0xB4 < src) →
       Becomes (.faultSignal w src inst) s w (d.raise src inst)) ∧
     (∀ inst, Becomes (.faultSignal w 0x59 inst) s w (flushLink d inst) ∧
       Becomes (.faultSignal w 0x5A inst) s w ((rowBad d inst).raise 0x5A inst) ∧
       Becomes (.faultSignal w 0x66 inst) s w
         { d.raise 0x66 inst with trig := { d.trig with bad := (inst :: d.trig.bad).dedup } }) ∧
     (∀ src inst, 0xB0 ≤ src → src ≤ 0xB4 → exec (.faultSignal w src inst) s =
       .next (settleAll ((s.mapStrands fun d => { d with out := [] }).mapStrands fun d => d.raise src inst))) ∧
     (∀ src inst, 192 ≤ src → Leaves (.faultSignal w src inst) s w d) ∧
     (∀ src, src < 192 → d.getBit 0x2810 src 3 = false → sampledSource g d src 0xFFFF = true →
       Becomes (.railFault w src) s w ((d.putBit 0x2810 src 3 true).raise 0x00 src)) ∧
     (∀ src, (192 ≤ src ∨ d.getBit 0x2810 src 3 = true) → Leaves (.railFault w src) s w d) ∧
     (∀ rq v, v < 256 → s.takes w rq 0x2800 0x05 = true →
       (v < 192 → Leaves (.faultWireRetest w rq v) s w ((d.putBit 0x2810 v 3 false).answer 0x00)) ∧
       (192 ≤ v → Leaves (.faultWireRetest w rq v) s w (d.answer 0x02)))) ∧
  (∀ (s : State) (w : At) (rq : Requester) (v : Nat), v < 256 →
     let d := s.found w
     (∀ src, src < 192 → s.takes w rq 0x2810 src = true →
       ((5 ≤ src ∧ src ≤ 7 ∧ bits v 0 3 ≠ 3) → Leaves (.faultCfg w rq src v) s w (d.answer 0x02)) ∧
       (¬(5 ≤ src ∧ src ≤ 7 ∧ bits v 0 3 ≠ 3) →
         Leaves (.faultCfg w rq src v) s w ((d.putF 0x2810 src 0 3 (bits v 0 3)).answer 0x00))) ∧
     (∀ grp sev, grp < 12 → sev < 4 → s.takes w rq (0x2820 + grp) sev = true →
       ((bit v 5 = true ∧ grp ≠ 0x0B) → Leaves (.faultReact w rq grp sev v) s w (d.answer 0x02)) ∧
       ((bit v 5 = false ∨ grp = 0x0B) →
         Leaves (.faultReact w rq grp sev v) s w ((d.put (0x2820 + grp) sev (bits v 0 6)).answer 0x00))) ∧
     (∀ grp, grp < 12 → s.takes w rq 0x2801 grp = true →
       (bit v 0 = true → Leaves (.faultGroupAck w rq grp v) s w ((refreshInt (d.put 0x2801 grp 0)).answer 0x00)) ∧
       (bit v 0 = false → Leaves (.faultGroupAck w rq grp v) s w (d.answer 0x00))) ∧
     (s.takes w rq 0x2800 0x04 = true → Leaves (.faultFirstClear w rq 1) s w ((d.put 0x2800 0x01 0).answer 0x00) ∧
       Leaves (.faultFirstClear w rq 0) s w (d.answer 0x00)))

/-- ERR_N (R390): a release before the minimum width has passed waits for it, and then, or at its end, the pin is
released. The recovery ladder (R402): a step that completes starts the watch of LADDER_WINDOW_S; an instance that
stays clean for it leaves the ladder; a strand reset's step completes at STRAND_UP only. -/
def Obligations.ErrNAndLadder : Prop :=
  (∀ (s : State) (w : At) (rq : Requester), 
     let d := s.found w
     let low (e : Strand) : Strand := (e.putBit 0x2840 0x03 0 false).pin 6 false
     (s.takes w rq 0x2840 0x02 = true → d.getBit 0x2840 0x03 0 = true →
       (d.flt.errUntil ≤ d.sage → Leaves (.errNRelease w rq 1) s w ((low d).answer 0x00)) ∧
       (d.sage < d.flt.errUntil →
         Leaves (.errNRelease w rq 1) s w ({ d with flt := { d.flt with errRelease := true } }.answer 0x00))) ∧
     (s.takes w rq 0x2840 0x02 = true → d.getBit 0x2840 0x03 0 = false → Leaves (.errNRelease w rq 1) s w (d.answer 0x00)) ∧
     (s.ready = true → d.flt.errRelease = true → d.flt.errUntil ≤ d.sage → d.getBit 0x2840 0x03 0 = true →
       Leaves (.errNMinExpire w) s w (low { d with flt := { d.flt with errRelease := false } })) ∧
     (s.ready = true → (d.flt.errRelease = false ∨ d.sage < d.flt.errUntil) → Leaves (.errNMinExpire w) s w d)) ∧
  (∀ (s : State) (w : At) (fn inst : Nat), s.ready = true →
     let d := s.found w
     (∀ l, d.ladder fn inst = some l →
       (l.busy = true → l.step ≠ 3 → Leaves (.ladderStepDone w fn inst) s w
         (d.setLadder { l with busy := false, until_ := d.sage + secTime (d.get 0x2860 0x02) })) ∧
       ((l.busy = false ∨ l.step = 3) → Leaves (.ladderStepDone w fn inst) s w d) ∧
       (l.busy = false → l.until_ ≤ d.sage →
         Leaves (.ladderCleanExpire w fn inst) s w (d.setLadder { l with step := 0 })) ∧
       ((l.busy = true ∨ d.sage < l.until_) → Leaves (.ladderCleanExpire w fn inst) s w d)) ∧
     (d.ladder fn inst = none → Leaves (.ladderStepDone w fn inst) s w d ∧ Leaves (.ladderCleanExpire w fn inst) s w d))

/-- A miscompare (R395) of a pair opens the gap: each unit whose own checks failed counts it, the unit that alone is
clean (else the ACTIVE one) runs, the other is FENCED, CTRL_STATE is SIMPLEX and CTRL_MISCOMPARE is raised; without
a pair nothing happens. The audit after it (R396) resets the fenced unit where the active one passes, changes over
where only the fenced one does, and else enters SAFE. Checks and tests of the units (R397 to R399): a standby whose
checks or periodic test fail is fenced, and an active one without a standby takes the strand to SAFE; a unit that
passes the test after its reset waits, or is copied where CTRL_REINTEG_AUTO says so, and one that fails is
INELIGIBLE; a copy that is complete waits for its boundary. -/
def Obligations.ControlPair : Prop :=
  (∀ (s : State) (w : At), s.runs w.k = true →
     let d := s.found w
     let a := d.activeUnit
     let counted (b : Bool) (u : Nat) (e : Strand) : Strand := if b then bumpUnit e u 32 16 else e
     (∀ f0 f1, d.ctrlState ≠ 0 → Leaves (.ctrlMiscompare w f0 f1) s w d) ∧
     (∀ f0 f1 win, d.ctrlState = 0 → (f0 = true → f1 = false → win = 1) → (f0 = false → f1 = true → win = 0) →
       (f0 = f1 → win = a) → a ≤ 1 →
       let e := counted f1 1 (counted f0 0 d)
       let e := bumpUnit (setUnit e (1 - win) 2) (1 - win) 16 16
       let e := if win = a then e else makeActive e win
       let e := (e.put 0x2850 0x01 2).raise 0x01 (1 - win)
       Becomes (.ctrlMiscompare w f0 f1) s w { e with flt := { e.flt with missAt := e.now + 1 } }) ∧
     (∀ p0 p1, d.flt.missAt = 0 → Leaves (.ctrlAudit w p0 p1) s w d) ∧
     (∀ p0 p1, d.flt.missAt ≠ 0 → a ≤ 1 →
       let ok (u : Nat) : Bool := if u = 0 then p0 else p1
       let e := { d with flt := { d.flt with missAt := 0 } }
       (ok a = true → Leaves (.ctrlAudit w p0 p1) s w (resetUnit e (1 - a))) ∧
       (ok a = false → ok (1 - a) = true →
         Becomes (.ctrlAudit w p0 p1) s w ((taintInFlight (resetUnit (makeActive e (1 - a)) a)).raise 0x02 a)) ∧
       (ok a = false → ok (1 - a) = false → Becomes (.ctrlAudit w p0 p1) s w (enterSafe e false)))) ∧
  (∀ (s : State) (w : At) (u : Nat), s.runs w.k = true → u ≤ 1 →
     let d := s.found w
     let b := 1 - d.activeUnit
     let failed := bumpUnit d u 32 16
     (failed.unitState u = 1 → failed.ctrlState = 0 → Becomes (.ctrlCheckFail w u) s w (standbyFails failed u)) ∧
     (failed.unitState u ≠ 1 → u = failed.activeUnit → failed.ctrlState ≠ 0 → failed.stState = 1 →
       Becomes (.ctrlCheckFail w u) s w (simplexFails failed)) ∧
     (failed.unitState u ≠ 1 → u ≠ failed.activeUnit → Leaves (.ctrlCheckFail w u) s w failed) ∧
     (d.ctrlState = 0 → d.unitState b = 1 →
       Leaves (.ctrlSelftest w true) s w (setLastTest (bumpUnit d b 64 32) b true) ∧
       Becomes (.ctrlSelftest w false) s w (standbyFails (setLastTest (bumpUnit d b 48 16) b false) b)) ∧
     (∀ p, (d.ctrlState ≠ 0 ∨ d.unitState b ≠ 1) → Leaves (.ctrlSelftest w p) s w d) ∧
     (∀ p, d.unitState u ≠ 3 → Leaves (.ctrlUnitTestDone w u p) s w d) ∧
     (d.unitState u = 3 →
       let e (p : Bool) := setLastTest { d with flt := { d.flt with fenceAt := 0 } } u p
       Leaves (.ctrlUnitTestDone w u false) s w (setUnit (e false) u 6) ∧
       ((e true).getBit 0x2850 0x03 0 = false → (e true).inReset = false →
         Leaves (.ctrlUnitTestDone w u true) s w (setUnit (e true) u 4)) ∧
       ((e true).getBit 0x2850 0x03 0 = true → (e true).inReset = false →
         Leaves (.ctrlUnitTestDone w u true) s w (startCopy (e true) u))) ∧
     (∀ rq, s.takes w rq 0x2850 0x04 = true →
       (d.unitState b = 4 → Leaves (.ctrlReintegStart w rq 1) s w ((startCopy d b).answer 0x00)) ∧
       (d.unitState b ≠ 4 → Leaves (.ctrlReintegStart w rq 1) s w (d.answer 0x00))) ∧
     (d.flt.copying = some u → Leaves (.ctrlReintegCopyDone w) s w { d with flt := { d.flt with copied := true } }) ∧
     (d.flt.copying = none → Leaves (.ctrlReintegCopyDone w) s w d) ∧
     (Leaves (.simplexAudit w true) s w d) ∧
     (d.ctrlState = 0 → Leaves (.simplexAudit w false) s w d) ∧
     (d.ctrlState ≠ 0 → d.stState = 1 → Becomes (.simplexAudit w false) s w (simplexFails d)))

/-- Requests for SAFE and resets (R400, R401, R404): SAFE_ENTER takes a running strand to SAFE; a request for a
strand reset or a device reset is taken up by the collector; a strand that is ready to start comes up on the units
that have passed. Retests (R406, R407): a cell domain without a role in the ACTIVE plan, and a lane group with no
lane in use, is powered off and on again; one that is in use is refused; the self-test of a failed cell, or of one
in TESTING, gives it back with the state of its place in CELL_MAP or leaves it FAILED. -/
def Obligations.ResetsAndRetests : Prop :=
  (∀ (s : State) (w : At) (rq : Requester),
     let d := s.found w
     let z := d.touchSession rq
     let g := { s.pkg with out := [] }
     let via (i : Instr) (e : Strand) : Prop := exec i s = .next (shareDomains (settle (s.leave w.k e) w.k))
     (s.takes w rq 0x2850 0x07 = true → via (.safeEnter w rq 1) ((enterSafe z d.flt.unitFit).answer 0x00) ∧
       Leaves (.safeEnter w rq 0) s w (z.answer 0x00)) ∧
     (s.takes w rq 0x2850 0x08 = true →
       via (.strandResetReq w rq 1) ({ d with flt := { d.flt with resetReq := true } }.answer 0x00) ∧
       Leaves (.strandResetReq w rq 0) s w (d.answer 0x00)) ∧
     (s.takes w rq 0x2850 0x09 = true →
       via (.deviceResetReq w rq 1) ({ z with flt := { d.flt with devReq := true } }.answer 0x00) ∧
       Leaves (.deviceResetReq w rq 0) s w (z.answer 0x00)) ∧
     (s.ready = true → Becomes (.strandReset w) s w (strandResetOp d)) ∧
     (s.ready = true → mayStart g d = true → Becomes (.strandUp w) s w (strandUpOp g d)) ∧
     (s.ready = true → mayStart g d = false → Leaves (.strandUp w) s w d) ∧
     (∀ straps, s.ready = true → exec (.deviceReset straps) s = .next (coldStart s straps true))) ∧
  (∀ (s : State) (w : At) (rq : Requester) (n : Nat), n < 256 →
     let d := s.found w
     let g := { s.pkg with out := [] }
     let used := d.hasPlan && (List.range 256).any fun l => decide (d.physOf l / 34 = n) && imgRole d.plan.active l
     let lanes := (groupPairs n).any fun k => d.laneInUse (d.laneNo k)
     let via (i : Instr) (e : Strand) : Prop := exec i s = .next (shareDomains (settle (s.leave w.k e) w.k))
     (s.takes w rq 0x2870 0x01 = true →
       (8 ≤ n → Leaves (.retestCellDomain w rq n) s w (d.answer 0x02)) ∧
       (n < 8 → used = true → Leaves (.retestCellDomain w rq n) s w (d.answer 0x01)) ∧
       (n < 8 → used = false → via (.retestCellDomain w rq n) ((cycleDomain g d (4 + n)).answer 0x00))) ∧
     (s.takes w rq 0x2870 0x02 = true →
       (3 ≤ n → Leaves (.retestLaneGroup w rq n) s w (d.answer 0x02)) ∧
       (n < 3 → lanes = true → Leaves (.retestLaneGroup w rq n) s w (d.answer 0x01)) ∧
       (n < 3 → lanes = false → via (.retestLaneGroup w rq n) ((cycleDomain g d n).answer 0x00))) ∧
     (∀ p, s.ready = true → p < 272 →
       let st := d.cellState p
       let spliced := d.work.splices.any fun x => decide (x.spare = p) || decide (x.old = p)
       let e := { d with pow := { d.pow with selfTest := d.pow.selfTest.filter fun x => decide (x ≠ p) } }
       let role := if d.logicalOf p = 0xFFFF then 0 else if d.hasRole p = true then 1 else 2
       let due := (st = 4 ∧ d.pow.selfTest.contains p = true) ∨ (st = 3 ∧ spliced = false)
       (due → Leaves (.cellSelftestDone w p true) s w (setCellState e p role) ∧
         Leaves (.cellSelftestDone w p false) s w (setCellState e p 4)) ∧
       (¬due → ∀ pass, Leaves (.cellSelftestDone w p pass) s w d)))

/-- What a strand reset leaves (R339, R401, R302): the strand is in reset with no plan and no session, its packets,
beats, trigger and ingest state empty, its time starting at 0, the values of dictionary entries that are kept as
they were, and the held events replaced by STRAND_RESET. -/
def Obligations.StrandResetLeaves : Prop :=
  ∀ (d : Strand), d.regsOk = true →
    let e := strandResetOp d
    e.stState = 0 ∧ e.now = 0 ∧ e.sage = d.sage ∧ e.id = d.id ∧ e.cells = [] ∧ e.beats = [] ∧ e.q = {} ∧ e.trig = {} ∧
      e.mgmt.sessions = [] ∧ e.host.held.length = 1 ∧ e.hasPlan = false ∧ e.store.rowMap = d.store.rowMap ∧
      e.flt.resetReq = false ∧ e.get 0x1103 0x01 = min (d.get 0x1103 0x01 + 1) (2 ^ 32 - 1) ∧
      ∀ src, src < 192 → bits (e.get 0x2810 src) 0 3 = bits (d.get 0x2810 src) 0 3

/-! ### Power, heat and the package (14_power_thermal_reset.md) -/

/-- Power domains of a strand (R410 to R413): DOMAIN_REQ wakes a domain that is off and powers off one that nothing
needs, and refuses one that is needed; a waking domain that reaches power-good is ON with its time shown; one that
is late, or loses power-good, is FAILED, held off, and raised; under automatic control a needed domain that is off
wakes. Without a good XIN a lane group and the control pair do not wake, and this is raised (R415). Shared domains
(R410, R413): power-good of a waking one turns it ON; one that fails is FAILED and raised in strand 0's collector,
and the store-die domain loses the contents of every strand's partition. Phases (R408, R418): a phase that fails
takes a spare off its regulator and is raised, once more for the last spare; with no spare left a strand regulator
loses a phase and the profile of the ACTIVE plan is limited. -/
def Obligations.PowerControl : Prop :=
  (∀ (s : State) (w : At) (rq : Requester) (n : Nat), n < 16 →
     let d := s.found w
     let g := { s.pkg with out := [] }
     let waking := { d.setDomain n 1 with pow := { d.pow with
       wakeBy := smSet zeroAt d.pow.wakeBy n (d.sage + usTime (2 * wakeUs n)) } }
     let clockless := (n < 3 ∨ n = 0x0F) ∧ s.pkg.get 0x2601 0x01 ≠ 0
     let after (i : Instr) (e : Strand) : Prop := exec i s = .next (shareDomains (settle (s.leave w.k e) w.k))
     (s.takes w rq 0x2402 n = true →
       (d.domain n ≠ 1 → d.domain n ≠ 2 → heldOff d n = false → ¬clockless →
         Leaves (.domainReq w rq n 1) s w (waking.answer 0x00)) ∧
       (d.domain n ≠ 1 → d.domain n ≠ 2 → heldOff d n = false → clockless →
         after (.domainReq w rq n 1) ((d.raise 0xB7 n).answer 0x00)) ∧
       ((d.domain n = 1 ∨ d.domain n = 2) → Leaves (.domainReq w rq n 1) s w (d.answer 0x00)) ∧
       (heldOff d n = true → Leaves (.domainReq w rq n 1) s w (d.answer 0x00)) ∧
       (domainNeeded d n = true → Leaves (.domainReq w rq n 0) s w (d.answer 0x01)) ∧
       (domainNeeded d n = false → d.domain n = 0 → Leaves (.domainReq w rq n 0) s w (d.answer 0x00)) ∧
       (domainNeeded d n = false → d.domain n ≠ 0 →
         let e := (domainOff (d.answer 0xFF) n 0).answer 0x00
         e.still = true → e.sleep = 0 → Leaves (.domainReq w rq n 0) s w e)) ∧
     (s.ready = true → d.getBit 0x2400 0x02 0 = true → d.domain n = 0 → domainNeeded d n = true → heldOff d n = false →
       (¬clockless → Leaves (.domainWake w n) s w waking) ∧
       (clockless → Becomes (.domainWake w n) s w (d.raise 0xB7 n))) ∧
     (s.ready = true → (d.getBit 0x2400 0x02 0 = false ∨ d.domain n ≠ 0 ∨ domainNeeded d n = false ∨ heldOff d n = true) →
       Leaves (.domainWake w n) s w d) ∧
     (∀ us, s.ready = true → d.domain n ≠ 1 → Leaves (.domainPowerGood w n us) s w d) ∧
     (∀ us, s.ready = true → d.domain n = 1 → (n = 3 ∨ 12 ≤ n) →
       let e := (d.setDomain n 2).put 0x2403 n (min us 0xFFFF)
       Leaves (.domainPowerGood w n us) s w { e with pow := { e.pow with wakeBy := smSet zeroAt e.pow.wakeBy n 0 } }) ∧
     (∀ us, s.ready = true → d.domain n = 1 → Becomes (.domainPowerGood w n us) s w (domainGoodOp d n us)) ∧
     (s.ready = true → d.domain n = 1 → smGet zeroAt d.pow.wakeBy n ≤ d.sage →
       Becomes (.domainWakeTimeout w n) s w (refsRecheck g ((domainOff d n 3).raise 0xB7 n))) ∧
     (s.ready = true → d.domain n = 2 →
       Becomes (.domainPowerLoss w n) s w (refsRecheck g ((domainOff d n 3).raise 0xB7 n)))) ∧
  (∀ (s : State) (w : At) (n us : Nat), s.ready = true → 0x40 ≤ n → n ≤ 0x43 →
     let d := s.found w
     let g := { s.pkg with out := [] }
     let fails (r : State) : State := settle ({ r with pkg := { r.pkg with out := [] }.setDomain n 3 }.setStrand .s0
       ((r.found (atZero w)).raise 0xB7 n)) .s0
     (s.pkg.domain n = 1 → LeavesPart (.domainPowerGood w n us) s w (g.setDomain n 2) d) ∧
     (s.pkg.domain n ≠ 1 → Leaves (.domainPowerGood w n us) s w d) ∧
     (∀ i, (i = .domainPowerLoss w n ∧ s.pkg.domain n = 2) ∨ (i = .domainWakeTimeout w n ∧ s.pkg.domain n = 1) →
       ((0x42 ≤ n ∨ (n = 0x40 ∧ s.pkg.hpUp = false)) → exec i s = .next (fails s)) ∧
       (n = 0x41 → exec i s = .next (fails (s.mapStrands loseStore))) ∧
       (n = 0x40 → (linkDownOp s).pkg.inHold = false → exec i s = .next (fails (linkDownOp s)))) ∧
     (s.pkg.domain n ≠ 2 → exec (.domainPowerLoss w n) s = .next s) ∧
     (s.pkg.domain n ≠ 1 → exec (.domainWakeTimeout w n) s = .next s) ∧
     (s.awake = true → s.pkg.domain n ≠ 0 → exec (.domainWake w n) s = .next s) ∧
     ((∀ k, (s.strand k).sleep = 0) → s.pkg.domain n = 0 →
       exec (.domainWake w n) s = .next { s with pkg := s.pkg.setDomain n 1 })) ∧
  (∀ (s : State) (w : At) (r dom : Nat) (c : Currents), s.ready = true →
     let d := s.found w
     let z := s.found (atZero w)
     let g := { s.pkg with out := [] }
     let v := d.get 0x2412 r
     let u := s.pkg.get 0x2603 (r - 3)
     (r < 3 → 0 < bits v 8 8 → Becomes (.pwrPhaseFail w r dom c) s w
       (((d.put 0x2412 r (setBits v 8 8 (bits v 8 8 - 1))).raise 0xB5 dom).raiseIf (decide (bits v 8 8 = 1)) 0xB6 dom)) ∧
     (r < 3 → bits v 8 8 = 0 → d.hasPlan = false →
       Leaves (.pwrPhaseFail w r dom c) s w (d.put 0x2412 r (setBits v 0 8 (bits v 0 8 - 1)))) ∧
     (r < 3 → bits v 8 8 = 0 → d.hasPlan = true →
       let p := fitting d r (bits v 0 8 - 1) c.peak
       let cap := d.get 0x2413 0x01
       Leaves (.pwrPhaseFail w r dom c) s w ((d.put 0x2412 r (setBits v 0 8 (bits v 0 8 - 1))).put 0x2413 0x01
         (if cap = 0xFF then p else max cap p))) ∧
     ((r = 3 ∨ r = 4) → 0 < bits u 8 8 → BecomesPart (.pwrPhaseFail w r dom c) s (atZero w)
       (g.put 0x2603 (r - 3) (setBits u 8 8 (bits u 8 8 - 1)))
       ((z.raise 0xB5 dom).raiseIf (decide (bits u 8 8 = 1)) 0xB6 dom)) ∧
     ((r = 3 ∨ r = 4) → bits u 8 8 = 0 → LeavesPart (.pwrPhaseFail w r dom c) s (atZero w)
       (g.put 0x2603 (r - 3) (setBits u 0 8 (bits u 0 8 - 1))) z))

/-- Heat (R419, R420): a reading is shown, and enters the epoch's peak unless its sensor is left out; a sensor that
fails its self-check is left out and raised once, and the sensor of the store dies is not read without the package
monitor (R9); 165 °C powers everything off and calls for a strand reset; a cell domain at 155 °C is powered off;
what heat shut down may run again when the grade has stayed low for THERM_DWELL_MS. Sleep (R423): STRAND_POWER takes
0 to 2 only, is refused while a plan is active, powers every domain of the strand off and leaves its state, and with
2 loses its store contents; 0 starts the strand's units anew, and raises a control pair that finds no good XIN
(R415). -/
def Obligations.HeatAndSleep : Prop :=
  (∀ (s : State) (w : At) (n : Nat), s.ready = true →
     let d := s.found w
     let g := { s.pkg with out := [] }
     let shown (t : Int) : Strand := { d.putInt 0x2411 n 16 t with pow := { d.pow with sampled := (n :: d.pow.sampled).dedup } }
     (∀ (t : Int), (n < 12 ∨ (n = 12 ∧ s.pkg.domain 0x42 = 2)) → t < 1650 → readingOff d n t = false → d.pow.sensorBad.contains n = false → d.pow.stripOff = false →
       let e := shown t
       Leaves (.thermSample w n t true) s w { e with pow := { e.pow with peak := some (max t (d.pow.peak.getD t)) } }) ∧
     (∀ (t : Int), (n < 12 ∨ (n = 12 ∧ s.pkg.domain 0x42 = 2)) → t < 1650 → d.pow.sensorBad.contains n = false →
       let e := (shown t).raise 0xBB (sensorDomain n)
       Becomes (.thermSample w n t false) s w { e with pow := { e.pow with sensorBad := n :: d.pow.sensorBad } }) ∧
     (∀ (t : Int) ok, (n < 12 ∨ (n = 12 ∧ s.pkg.domain 0x42 = 2)) → 1650 ≤ t → d.pow.stripOff = false →
       ∃ e, Becomes (.thermSample w n t ok) s w e ∧ e.pow.stripOff = true ∧ e.flt.resetReq = true) ∧
     (∀ t ok, (13 ≤ n ∨ (n = 12 ∧ s.pkg.domain 0x42 ≠ 2)) → Leaves (.thermSample w n t ok) s w d) ∧
     (4 ≤ n → n < 0x0C → 1550 ≤ d.getInt 0x2411 (n - 4) 16 → d.pow.thermOff.contains n = false →
       let e := (domainOff d n 0).raise 0xBA n
       Becomes (.thermDomainShutdown w n) s w { e with pow := { e.pow with
         thermOff := n :: d.pow.thermOff
         restRun := 0 } }) ∧
     ((n < 4 ∨ 0x0C ≤ n ∨ d.getInt 0x2411 (n - 4) 16 < 1550) → Leaves (.thermDomainShutdown w n) s w d) ∧
     (restartDue d = false → Leaves (.thermRestart w n) s w d) ∧
     (restartDue d = true → n = 0xFF → Leaves (.thermRestart w n) s w { d with pow := { d.pow with stripOff := false } }) ∧
     (restartDue d = true → n ≠ 0xFF → d.pow.thermOff.contains n = true → d.pow.stripOff = false →
       let e := { d with pow := { d.pow with thermOff := d.pow.thermOff.filter fun x => decide (x ≠ n) } }
       Becomes (.thermRestart w n) s w (if domainNeeded e n then wakeDomain g e n else e))) ∧
  (∀ (s : State) (w : At) (rq : Requester) (v : Nat),
     let d := s.found w
     let after (e : Strand) : Prop := exec (.strandPower w rq v) s = .next (shareDomains (settle (s.leave w.k (e.answer 0x00)) w.k))
     let asleep := (allDomainsOff (restartStrand (abandonCmd (d.answer 0xFF)) true)).put 0x2400 0x01 v
     (v = 0 → s.ready = true → d.sleep ≠ 0 → d.sageUp = true → dictBusy d = false → rq ≠ .pf4 →
       d.granted rq 0x2400 0x01 1 true = true → after ((unitsReset { d.put 0x2400 0x01 0 with
         sageBase := d.sageBase + d.now
         now := 0 }).raiseIf (decide (s.pkg.get 0x2601 0x01 ≠ 0)) 0xB7 0x0F)) ∧
     (s.takes w rq 0x2400 0x01 = true →
     (2 < v → v < 256 → Leaves (.strandPower w rq v) s w (d.answer 0x02)) ∧
     (v = 0 → Leaves (.strandPower w rq v) s w (d.answer 0x00)) ∧
     ((v = 1 ∨ v = 2) → d.hasPlan = true → Leaves (.strandPower w rq v) s w (d.answer 0x01)) ∧
     (v = 1 → d.hasPlan = false → after asleep) ∧
     (v = 2 → d.hasPlan = false → after (loseStore asleep))))

/-- XIN, the always-on clock and the feeds (R414 to R417): AOCLK takes its calibration against XIN while XIN
oscillates, and against a reference otherwise; XIN that stops fails every running strand's control pair; a feed that
leaves its range is raised in all four strands, once until it is back, and so are both VIN feeds low. XIN_STATUS and
the feeds are watched while the package monitor has power (R9). -/
def Obligations.XinAndFeeds : Prop :=
  ∀ (s : State) (w : At) (f : Feed), s.ready = true →
    let d := s.found w
    let g := { s.pkg with out := [] }
    let seen := s.pkg.domain 0x42 = 2
    let all (p : Pkg) (h : Strand → Strand) : State :=
      settleAll (({ s with pkg := p }.mapStrands fun d => { d with out := [] }).mapStrands h)
    let inRange := { g with feeds := s.pkg.feeds.filter fun x => decide (x ≠ f) }
    let xin (v : Nat) : Pkg := { (if seen then s.pkg.put 0x2601 0x01 v else s.pkg) with
      xinOk := s.pkg.xinOk && decide (v ≠ 1), out := [] }
    let calibrates (src : Nat) : Prop :=
      src = 0 ∨ (src = 1 ∧ s.pkg.get 0x2601 0x01 ≠ 1) ∨ (src = 2 ∧ s.pkg.get 0x2601 0x01 = 1)
    (∀ src ppm, calibrates src →
      LeavesPart (.aoclkCal w src ppm) s w ((g.put 0x2601 0x03 src).put 0x2601 0x02 (ofSigned 32 ppm)) d) ∧
    (∀ src ppm, ¬calibrates src → Leaves (.aoclkCal w src ppm) s w d) ∧
    (∀ v, 2 < v → exec (.xinStatusChange v) s = .next s) ∧
    (s.pkg.xinOk = true → exec (.xinStatusChange 1) s =
      .next (settleAll ({ s with pkg := xin 1 }.mapStrands fun d =>
        if d.inReset then { d with out := [] } else (({ d with out := [] } : Strand).setDomain 0x0F 3).raise 0xB7 0x0F))) ∧
    (∀ v, v ≤ 2 → (v ≠ 1 ∨ s.pkg.xinOk = false) → exec (.xinStatusChange v) s = .next { s with pkg := xin v }) ∧
    (s.pkg.feeds.contains f = false →
      (seen → exec (.feedOutOfRange f) s =
        .next (all { g with feeds := f :: s.pkg.feeds } fun d => d.raiseAny (feedSource f))) ∧
      (¬seen → exec (.feedOutOfRange f) s = .next { s with pkg := { g with feeds := f :: s.pkg.feeds } })) ∧
    (s.pkg.feeds.contains f = true → exec (.feedOutOfRange f) s = .next s) ∧
    (s.pkg.powered = true → (f = .vioA ∨ f = .vioB) → exec (.feedInRange f) s = .next { s with pkg := inRange }) ∧
    (s.pkg.powered = true → (f = .vinA ∨ f = .vinB) →
      exec (.feedInRange f) s = .next { s with pkg := { inRange with feedsLow := false } }) ∧
    (s.pkg.feedsLow = false →
      (seen → exec .pwrFeedsLow s = .next (all { g with feedsLow := true } fun d => d.raiseAny 0xB2)) ∧
      (¬seen → exec .pwrFeedsLow s = .next { s with pkg := { g with feedsLow := true } })) ∧
    (s.pkg.feedsLow = true → exec .pwrFeedsLow s = .next s)

/-- The package pins (R417, R421, R422, R437, R438): below 1.50 V the regulators shut down; a fall of PWR_EN of 10
µs or more takes the power, a rise gives it back where the feeds are in range, and the rising edge of POR_N is a
cold start; TEST_EN holds the part in device reset. The JTAG port (R438): each instruction selects its register;
with TEST_EN high, or without power of the part or of its test/debug domain, the pins serve none. -/
def Obligations.PinsAndJtag : Prop :=
  (∀ (s : State) (straps : Straps) (ns : Nat) (ok : Bool),
     let off (t : State) : Prop := t.pkg.inHold = true ∧ t.pkg.key = s.pkg.key ∧ t.pkg.patches = s.pkg.patches
     let started (t : State) : Prop := t.pkg.key = s.pkg.key ∧ t.pkg.straps = straps ∧ t.st0.now = 0 ∧ t.st1.now = 0 ∧
       t.st2.now = 0 ∧ t.st3.now = 0
     (∃ t, exec .regulatorShutdown s = .next t ∧ off t ∧ t.pkg.powered = false) ∧
     (10000 ≤ ns → ∃ t, exec (.pwrEnFall ns) s = .next t ∧ off t ∧ t.pkg.pwrEn = false ∧ t.pkg.porN = false) ∧
     (s.pkg.testEn = false → ∃ t, exec (.testEn true) s = .next t ∧ off t ∧ t.pkg.testEn = true) ∧
     (s.pkg.testEn = true → s.pkg.powered = true → s.pkg.pwrEn = true → s.pkg.porN = true →
       ∃ t, exec (.testEn false) s = .next t ∧ t.pkg.testEn = false ∧ t.pkg.inHold = false ∧ t.pkg.key = s.pkg.key) ∧
     (s.pkg.testEn = true → (s.pkg.powered = false ∨ s.pkg.pwrEn = false ∨ s.pkg.porN = false) →
       exec (.testEn false) s = .next { s with pkg := { s.pkg with testEn := false } }) ∧
     (ns < 10000 → exec (.pwrEnFall ns) s = .next s) ∧
     (s.pkg.pwrEn = false → exec (.pwrEnRise ok) s =
       .next { s with pkg := { s.pkg with pwrEn := true, powered := ok && s.pkg.vinOk } }) ∧
     (s.pkg.pwrEn = true → exec (.pwrEnRise ok) s = .next s) ∧
     (s.pkg.powered = true → s.pkg.pwrEn = true → s.pkg.testEn = false →
       ∃ t, exec (.porNRelease straps) s = .next t ∧ started t ∧ t.pkg.porN = true) ∧
     ((s.pkg.powered = false ∨ s.pkg.pwrEn = false ∨ s.pkg.testEn = true) →
       exec (.porNRelease straps) s = .next { s with pkg := { s.pkg with porN := true } }) ∧
     (exec (.testEn s.pkg.testEn) s = .next s)) ∧
  (∀ (s : State) (pins preload : Nat),
     let on := s.pkg.powered = true ∧ s.pkg.pwrEn = true ∧ s.pkg.testEn = false ∧ s.pkg.domain 0x43 = 2
     let code := s.st0.get 0x1000 0x05 % 16 * 2 ^ 28 + s.st0.get 0x1000 0x03 % 65536 * 2 ^ 12 + Config.jedecCode % 2048 * 2 + 1
     let sets (i : Instr) (g : Pkg) : Prop := exec i s = .next { s with pkg := g }
     (on → sets .extest { s.pkg with jtagIr := 0x00, jtagPins := s.pkg.jtagBsr } ∧
       sets (.samplePreload pins preload) { s.pkg with jtagIr := 0x02, jtagDr := pins, jtagBsr := preload } ∧
       sets .bypass { s.pkg with jtagIr := 0xFF, jtagDr := 0 } ∧
       sets .idcode { s.pkg with jtagIr := 0x01, jtagDr := code }) ∧
     (¬on → sets .extest s.pkg ∧ sets (.samplePreload pins preload) s.pkg ∧ sets .bypass s.pkg ∧ sets .idcode s.pkg))
end

