-- ==== Sys2Proof/Laws/Tables.lean ====
section
/-! SUPPORT. Sparse tables: a read after a write, and the canonical form that every write keeps. -/

namespace Sys2Proof.Machine

variable {α : Type} [DecidableEq α] {dflt : Nat → α}

omit [DecidableEq α] in
@[simp] theorem smGet_nil (dflt : Nat → α) (i : Nat) : smGet dflt [] i = dflt i := rfl

theorem smWfFrom_mono {m : SMap α} {a b : Nat} (h : smWfFrom dflt a m = true) (hb : b ≤ a) :
    smWfFrom dflt b m = true := by
  cases m with
  | nil => rfl
  | cons x m =>
    obtain ⟨k, v⟩ := x
    simp only [smWfFrom, Bool.and_eq_true, decide_eq_true_eq] at h ⊢
    exact ⟨⟨by omega, h.1.2⟩, h.2⟩

/-- A key below all keys of a table reads its default. -/
theorem smGet_below {m : SMap α} {lo i : Nat} (h : smWfFrom dflt lo m = true) (hi : i < lo) :
    smGet dflt m i = dflt i := by
  induction m generalizing lo with
  | nil => rfl
  | cons x m ih =>
    obtain ⟨k, v⟩ := x
    simp only [smWfFrom, Bool.and_eq_true, decide_eq_true_eq] at h
    have hk : k ≠ i := by omega
    simpa [smGet, hk] using ih h.2 (by omega)

/-- Another key keeps its value. -/
theorem smGet_smSet_other (m : SMap α) {i j : Nat} (v : α) (h : j ≠ i) :
    smGet dflt (smSet dflt m i v) j = smGet dflt m j := by
  induction m with
  | nil =>
    simp only [smSet]
    split
    · rfl
    · simp [smGet, Ne.symm h]
  | cons x m ih =>
    obtain ⟨k, w⟩ := x
    simp only [smSet]
    split
    · split
      · rfl
      · simp [smGet, Ne.symm h]
    · split
      · rename_i hk
        subst hk
        split <;> simp [smGet, Ne.symm h]
      · simp only [smGet]
        split
        · rfl
        · exact ih

/-- The written key reads the written value. -/
theorem smGet_smSet_same {m : SMap α} (h : smWf dflt m = true) (i : Nat) (v : α) :
    smGet dflt (smSet dflt m i v) i = v := by
  unfold smWf at h
  generalize 0 = lo at h
  induction m generalizing lo with
  | nil =>
    simp only [smSet]
    split
    · rename_i hv
      simp [hv]
    · simp [smGet]
  | cons x m ih =>
    obtain ⟨k, w⟩ := x
    simp only [smWfFrom, Bool.and_eq_true, decide_eq_true_eq] at h
    simp only [smSet]
    split
    · rename_i hik
      split
      · rename_i hv
        have hk : k ≠ i := by omega
        simp only [smGet, hk, if_false]
        rw [smGet_below h.2 (by omega), hv]
      · simp [smGet]
    · split
      · rename_i hk
        subst hk
        split
        · rename_i hv
          rw [smGet_below h.2 (by omega), hv]
        · simp [smGet]
      · rename_i hk
        have hk' : k ≠ i := fun e => hk e.symm
        simp only [smGet, hk', if_false]
        exact ih _ h.2

theorem smSet_wfFrom {m : SMap α} {lo i : Nat} (h : smWfFrom dflt lo m = true) (hi : lo ≤ i) (v : α) :
    smWfFrom dflt lo (smSet dflt m i v) = true := by
  induction m generalizing lo with
  | nil =>
    simp only [smSet]
    split
    · rfl
    · rename_i hv
      simp [smWfFrom, hi, hv]
  | cons x m ih =>
    obtain ⟨k, w⟩ := x
    have h' := h
    simp only [smWfFrom, Bool.and_eq_true, decide_eq_true_eq] at h
    simp only [smSet]
    split
    · rename_i hik
      split
      · exact h'
      · rename_i hv
        simp only [smWfFrom, Bool.and_eq_true, decide_eq_true_eq]
        exact ⟨⟨hi, hv⟩, ⟨by omega, h.1.2⟩, h.2⟩
    · split
      · rename_i hk
        subst hk
        split
        · exact smWfFrom_mono h.2 (by omega)
        · rename_i hv
          simp only [smWfFrom, Bool.and_eq_true, decide_eq_true_eq]
          exact ⟨⟨hi, hv⟩, h.2⟩
      · simp only [smWfFrom, Bool.and_eq_true, decide_eq_true_eq]
        exact ⟨h.1, ih h.2 (by omega)⟩

/-- A write keeps the canonical form. -/
theorem smSet_wf {m : SMap α} (h : smWf dflt m = true) (i : Nat) (v : α) : smWf dflt (smSet dflt m i v) = true :=
  smSet_wfFrom h (Nat.zero_le _) v

/-- Two tables in canonical form that read alike are equal. -/
theorem smap_ext {m n : SMap α} (hm : smWf dflt m = true) (hn : smWf dflt n = true)
    (h : ∀ i, smGet dflt m i = smGet dflt n i) : m = n := by
  unfold smWf at hm hn
  generalize 0 = lo at hm hn
  induction m generalizing lo n with
  | nil =>
    cases n with
    | nil => rfl
    | cons y n =>
      obtain ⟨k, v⟩ := y
      simp only [smWfFrom, Bool.and_eq_true, decide_eq_true_eq] at hn
      have := h k
      simp [smGet] at this
      exact absurd this.symm hn.1.2
  | cons x m ih =>
    obtain ⟨k, v⟩ := x
    cases n with
    | nil =>
      simp only [smWfFrom, Bool.and_eq_true, decide_eq_true_eq] at hm
      have := h k
      simp [smGet] at this
      exact absurd this hm.1.2
    | cons y n =>
      obtain ⟨l, w⟩ := y
      have hm0 := hm
      have hn0 := hn
      simp only [smWfFrom, Bool.and_eq_true, decide_eq_true_eq] at hm hn
      have hkl : k = l := by
        rcases Nat.lt_trichotomy k l with hlt | heq | hgt
        · have hk := h k
          rw [smGet_below (lo := l) (m := (l, w) :: n) (by simpa [smWfFrom] using ⟨hn.1.2, hn.2⟩) hlt] at hk
          simp [smGet] at hk
          exact absurd hk hm.1.2
        · exact heq
        · have hl := h l
          rw [smGet_below (lo := k) (m := (k, v) :: m) (by simpa [smWfFrom] using ⟨hm.1.2, hm.2⟩) hgt] at hl
          simp [smGet] at hl
          exact absurd hl.symm hn.1.2
      subst hkl
      have hvw : v = w := by simpa [smGet] using h k
      subst hvw
      have : m = n := by
        refine ih (fun i => ?_) (k + 1) hm.2 hn.2
        by_cases hi : i = k
        · subst hi
          rw [smGet_below hm.2 (by omega), smGet_below hn.2 (by omega)]
        · have := h i
          simpa [smGet, Ne.symm hi] using this
      rw [this]

/-! ### Bytes of the store and of the cells -/

/-- Stored bytes keep the canonical form of a memory. -/
theorem writeMem_wf {m : SMap Byte} (h : Memory.wf m = true) (a : Nat) (b : List Byte) :
    Memory.wf (writeMem m a b) = true := by
  induction b generalizing m a with
  | nil => exact h
  | cons x b ih => exact ih (smSet_wf h a x) (a + 1)

/-- Bytes outside the stored ones read as before. -/
theorem writeMem_other (m : SMap Byte) (a : Nat) (b : List Byte) {i : Nat} (h : i < a ∨ a + b.length ≤ i) :
    smGet zeroByteAt (writeMem m a b) i = smGet zeroByteAt m i := by
  induction b generalizing m a with
  | nil => rfl
  | cons x b ih =>
    simp only [List.length_cons] at h
    rw [writeMem, ih _ _ (by omega), smGet_smSet_other _ _ (by omega)]

/-- The stored bytes read back. -/
theorem writeMem_same {m : SMap Byte} (hm : Memory.wf m = true) (a : Nat) (b : List Byte) {i : Nat} (h : i < b.length) :
    smGet zeroByteAt (writeMem m a b) (a + i) = b[i] := by
  induction b generalizing m a i with
  | nil => simp at h
  | cons x b ih =>
    rw [writeMem]
    cases i with
    | zero => rw [writeMem_other _ _ _ (by omega)]; simpa using smGet_smSet_same hm a x
    | succ i =>
      have := ih (smSet_wf hm a x) (a + 1) (i := i) (by simpa using h)
      simpa [Nat.add_assoc, Nat.add_comm 1 i] using this

end Sys2Proof.Machine
end

