-- ==== Sys2Proof/Laws/State.lean ====
section
/-! SUPPORT. What each named update of a strand, the package and the state leaves in each field, so that no later
proof unfolds a record update. -/

namespace Sys2Proof.Machine

/-! ### `Strand.put` -/

@[simp] theorem Strand.put_id (d : Strand) (i s v : Nat) :
    (d.put i s v).id = d.id := rfl
@[simp] theorem Strand.put_now (d : Strand) (i s v : Nat) :
    (d.put i s v).now = d.now := rfl
@[simp] theorem Strand.put_sageBase (d : Strand) (i s v : Nat) :
    (d.put i s v).sageBase = d.sageBase := rfl
@[simp] theorem Strand.put_regs (d : Strand) (i s v : Nat) :
    (d.put i s v).regs = smSet (dictDefault d.id.num) d.regs (locKey i s) (v % 2 ^ dictWidth (locKey i s)) := rfl
@[simp] theorem Strand.put_pendW (d : Strand) (i s v : Nat) :
    (d.put i s v).pendW = d.pendW := rfl
@[simp] theorem Strand.put_resp (d : Strand) (i s v : Nat) :
    (d.put i s v).resp = d.resp := rfl
@[simp] theorem Strand.put_out (d : Strand) (i s v : Nat) :
    (d.put i s v).out = d.out := rfl
@[simp] theorem Strand.put_freeCtr (d : Strand) (i s v : Nat) :
    (d.put i s v).freeCtr = d.freeCtr := rfl
@[simp] theorem Strand.put_cells (d : Strand) (i s v : Nat) :
    (d.put i s v).cells = d.cells := rfl
@[simp] theorem Strand.put_dbg (d : Strand) (i s v : Nat) :
    (d.put i s v).dbg = d.dbg := rfl
@[simp] theorem Strand.put_beats (d : Strand) (i s v : Nat) :
    (d.put i s v).beats = d.beats := rfl
@[simp] theorem Strand.put_ct (d : Strand) (i s v : Nat) :
    (d.put i s v).ct = d.ct := rfl
@[simp] theorem Strand.put_ctWords (d : Strand) (i s v : Nat) :
    (d.put i s v).ctWords = d.ctWords := rfl
@[simp] theorem Strand.put_ctPos (d : Strand) (i s v : Nat) :
    (d.put i s v).ctPos = d.ctPos := rfl
@[simp] theorem Strand.put_descJ (d : Strand) (i s v : Nat) :
    (d.put i s v).descJ = d.descJ := rfl
@[simp] theorem Strand.put_store (d : Strand) (i s v : Nat) :
    (d.put i s v).store = d.store := rfl
@[simp] theorem Strand.put_ing (d : Strand) (i s v : Nat) :
    (d.put i s v).ing = d.ing := rfl
@[simp] theorem Strand.put_plan (d : Strand) (i s v : Nat) :
    (d.put i s v).plan = d.plan := rfl
@[simp] theorem Strand.put_work (d : Strand) (i s v : Nat) :
    (d.put i s v).work = d.work := rfl
@[simp] theorem Strand.put_q (d : Strand) (i s v : Nat) :
    (d.put i s v).q = d.q := rfl
@[simp] theorem Strand.put_trig (d : Strand) (i s v : Nat) :
    (d.put i s v).trig = d.trig := rfl
@[simp] theorem Strand.put_lanes (d : Strand) (i s v : Nat) :
    (d.put i s v).lanes = d.lanes := rfl
@[simp] theorem Strand.put_tm (d : Strand) (i s v : Nat) :
    (d.put i s v).tm = d.tm := rfl
@[simp] theorem Strand.put_host (d : Strand) (i s v : Nat) :
    (d.put i s v).host = d.host := rfl
@[simp] theorem Strand.put_mgmt (d : Strand) (i s v : Nat) :
    (d.put i s v).mgmt = d.mgmt := rfl
@[simp] theorem Strand.put_flt (d : Strand) (i s v : Nat) :
    (d.put i s v).flt = d.flt := rfl
@[simp] theorem Strand.put_pow (d : Strand) (i s v : Nat) :
    (d.put i s v).pow = d.pow := rfl

/-! ### `Strand.putDefault` -/

@[simp] theorem Strand.putDefault_id (d : Strand) (i s : Nat) :
    (d.putDefault i s).id = d.id := rfl
@[simp] theorem Strand.putDefault_now (d : Strand) (i s : Nat) :
    (d.putDefault i s).now = d.now := rfl
@[simp] theorem Strand.putDefault_sageBase (d : Strand) (i s : Nat) :
    (d.putDefault i s).sageBase = d.sageBase := rfl
@[simp] theorem Strand.putDefault_regs (d : Strand) (i s : Nat) :
    (d.putDefault i s).regs = smSet (dictDefault d.id.num) d.regs (locKey i s) (dictDefault d.id.num (locKey i s)) := rfl
@[simp] theorem Strand.putDefault_pendW (d : Strand) (i s : Nat) :
    (d.putDefault i s).pendW = d.pendW := rfl
@[simp] theorem Strand.putDefault_resp (d : Strand) (i s : Nat) :
    (d.putDefault i s).resp = d.resp := rfl
@[simp] theorem Strand.putDefault_out (d : Strand) (i s : Nat) :
    (d.putDefault i s).out = d.out := rfl
@[simp] theorem Strand.putDefault_freeCtr (d : Strand) (i s : Nat) :
    (d.putDefault i s).freeCtr = d.freeCtr := rfl
@[simp] theorem Strand.putDefault_cells (d : Strand) (i s : Nat) :
    (d.putDefault i s).cells = d.cells := rfl
@[simp] theorem Strand.putDefault_dbg (d : Strand) (i s : Nat) :
    (d.putDefault i s).dbg = d.dbg := rfl
@[simp] theorem Strand.putDefault_beats (d : Strand) (i s : Nat) :
    (d.putDefault i s).beats = d.beats := rfl
@[simp] theorem Strand.putDefault_ct (d : Strand) (i s : Nat) :
    (d.putDefault i s).ct = d.ct := rfl
@[simp] theorem Strand.putDefault_ctWords (d : Strand) (i s : Nat) :
    (d.putDefault i s).ctWords = d.ctWords := rfl
@[simp] theorem Strand.putDefault_ctPos (d : Strand) (i s : Nat) :
    (d.putDefault i s).ctPos = d.ctPos := rfl
@[simp] theorem Strand.putDefault_descJ (d : Strand) (i s : Nat) :
    (d.putDefault i s).descJ = d.descJ := rfl
@[simp] theorem Strand.putDefault_store (d : Strand) (i s : Nat) :
    (d.putDefault i s).store = d.store := rfl
@[simp] theorem Strand.putDefault_ing (d : Strand) (i s : Nat) :
    (d.putDefault i s).ing = d.ing := rfl
@[simp] theorem Strand.putDefault_plan (d : Strand) (i s : Nat) :
    (d.putDefault i s).plan = d.plan := rfl
@[simp] theorem Strand.putDefault_work (d : Strand) (i s : Nat) :
    (d.putDefault i s).work = d.work := rfl
@[simp] theorem Strand.putDefault_q (d : Strand) (i s : Nat) :
    (d.putDefault i s).q = d.q := rfl
@[simp] theorem Strand.putDefault_trig (d : Strand) (i s : Nat) :
    (d.putDefault i s).trig = d.trig := rfl
@[simp] theorem Strand.putDefault_lanes (d : Strand) (i s : Nat) :
    (d.putDefault i s).lanes = d.lanes := rfl
@[simp] theorem Strand.putDefault_tm (d : Strand) (i s : Nat) :
    (d.putDefault i s).tm = d.tm := rfl
@[simp] theorem Strand.putDefault_host (d : Strand) (i s : Nat) :
    (d.putDefault i s).host = d.host := rfl
@[simp] theorem Strand.putDefault_mgmt (d : Strand) (i s : Nat) :
    (d.putDefault i s).mgmt = d.mgmt := rfl
@[simp] theorem Strand.putDefault_flt (d : Strand) (i s : Nat) :
    (d.putDefault i s).flt = d.flt := rfl
@[simp] theorem Strand.putDefault_pow (d : Strand) (i s : Nat) :
    (d.putDefault i s).pow = d.pow := rfl

/-! ### `Strand.raise` -/

@[simp] theorem Strand.raise_id (d : Strand) (src inst : Nat) :
    (d.raise src inst).id = d.id := rfl
@[simp] theorem Strand.raise_now (d : Strand) (src inst : Nat) :
    (d.raise src inst).now = d.now := rfl
@[simp] theorem Strand.raise_sageBase (d : Strand) (src inst : Nat) :
    (d.raise src inst).sageBase = d.sageBase := rfl
@[simp] theorem Strand.raise_regs (d : Strand) (src inst : Nat) :
    (d.raise src inst).regs = d.regs := rfl
@[simp] theorem Strand.raise_pendW (d : Strand) (src inst : Nat) :
    (d.raise src inst).pendW = d.pendW := rfl
@[simp] theorem Strand.raise_resp (d : Strand) (src inst : Nat) :
    (d.raise src inst).resp = d.resp := rfl
@[simp] theorem Strand.raise_out (d : Strand) (src inst : Nat) :
    (d.raise src inst).out = d.out := rfl
@[simp] theorem Strand.raise_freeCtr (d : Strand) (src inst : Nat) :
    (d.raise src inst).freeCtr = d.freeCtr := rfl
@[simp] theorem Strand.raise_cells (d : Strand) (src inst : Nat) :
    (d.raise src inst).cells = d.cells := rfl
@[simp] theorem Strand.raise_dbg (d : Strand) (src inst : Nat) :
    (d.raise src inst).dbg = d.dbg := rfl
@[simp] theorem Strand.raise_beats (d : Strand) (src inst : Nat) :
    (d.raise src inst).beats = d.beats := rfl
@[simp] theorem Strand.raise_ct (d : Strand) (src inst : Nat) :
    (d.raise src inst).ct = d.ct := rfl
@[simp] theorem Strand.raise_ctWords (d : Strand) (src inst : Nat) :
    (d.raise src inst).ctWords = d.ctWords := rfl
@[simp] theorem Strand.raise_ctPos (d : Strand) (src inst : Nat) :
    (d.raise src inst).ctPos = d.ctPos := rfl
@[simp] theorem Strand.raise_descJ (d : Strand) (src inst : Nat) :
    (d.raise src inst).descJ = d.descJ := rfl
@[simp] theorem Strand.raise_store (d : Strand) (src inst : Nat) :
    (d.raise src inst).store = d.store := rfl
@[simp] theorem Strand.raise_ing (d : Strand) (src inst : Nat) :
    (d.raise src inst).ing = d.ing := rfl
@[simp] theorem Strand.raise_plan (d : Strand) (src inst : Nat) :
    (d.raise src inst).plan = d.plan := rfl
@[simp] theorem Strand.raise_work (d : Strand) (src inst : Nat) :
    (d.raise src inst).work = d.work := rfl
@[simp] theorem Strand.raise_q (d : Strand) (src inst : Nat) :
    (d.raise src inst).q = d.q := rfl
@[simp] theorem Strand.raise_trig (d : Strand) (src inst : Nat) :
    (d.raise src inst).trig = d.trig := rfl
@[simp] theorem Strand.raise_lanes (d : Strand) (src inst : Nat) :
    (d.raise src inst).lanes = d.lanes := rfl
@[simp] theorem Strand.raise_tm (d : Strand) (src inst : Nat) :
    (d.raise src inst).tm = d.tm := rfl
@[simp] theorem Strand.raise_host (d : Strand) (src inst : Nat) :
    (d.raise src inst).host = d.host := rfl
@[simp] theorem Strand.raise_mgmt (d : Strand) (src inst : Nat) :
    (d.raise src inst).mgmt = d.mgmt := rfl
@[simp] theorem Strand.raise_flt (d : Strand) (src inst : Nat) :
    (d.raise src inst).flt = { d.flt with rails := addRail src (inst % 65536) d.flt.rails } := rfl
@[simp] theorem Strand.raise_pow (d : Strand) (src inst : Nat) :
    (d.raise src inst).pow = d.pow := rfl

/-! ### `Strand.emit` -/

@[simp] theorem Strand.emit_id (d : Strand) (kind : OutKind) (addr : Nat) (b : List Byte) :
    (d.emit kind addr b).id = d.id := rfl
@[simp] theorem Strand.emit_now (d : Strand) (kind : OutKind) (addr : Nat) (b : List Byte) :
    (d.emit kind addr b).now = d.now := rfl
@[simp] theorem Strand.emit_sageBase (d : Strand) (kind : OutKind) (addr : Nat) (b : List Byte) :
    (d.emit kind addr b).sageBase = d.sageBase := rfl
@[simp] theorem Strand.emit_regs (d : Strand) (kind : OutKind) (addr : Nat) (b : List Byte) :
    (d.emit kind addr b).regs = d.regs := rfl
@[simp] theorem Strand.emit_pendW (d : Strand) (kind : OutKind) (addr : Nat) (b : List Byte) :
    (d.emit kind addr b).pendW = d.pendW := rfl
@[simp] theorem Strand.emit_resp (d : Strand) (kind : OutKind) (addr : Nat) (b : List Byte) :
    (d.emit kind addr b).resp = d.resp := rfl
@[simp] theorem Strand.emit_out (d : Strand) (kind : OutKind) (addr : Nat) (b : List Byte) :
    (d.emit kind addr b).out = d.out ++ [⟨kind, addr, b⟩] := rfl
@[simp] theorem Strand.emit_freeCtr (d : Strand) (kind : OutKind) (addr : Nat) (b : List Byte) :
    (d.emit kind addr b).freeCtr = d.freeCtr := rfl
@[simp] theorem Strand.emit_cells (d : Strand) (kind : OutKind) (addr : Nat) (b : List Byte) :
    (d.emit kind addr b).cells = d.cells := rfl
@[simp] theorem Strand.emit_dbg (d : Strand) (kind : OutKind) (addr : Nat) (b : List Byte) :
    (d.emit kind addr b).dbg = d.dbg := rfl
@[simp] theorem Strand.emit_beats (d : Strand) (kind : OutKind) (addr : Nat) (b : List Byte) :
    (d.emit kind addr b).beats = d.beats := rfl
@[simp] theorem Strand.emit_ct (d : Strand) (kind : OutKind) (addr : Nat) (b : List Byte) :
    (d.emit kind addr b).ct = d.ct := rfl
@[simp] theorem Strand.emit_ctWords (d : Strand) (kind : OutKind) (addr : Nat) (b : List Byte) :
    (d.emit kind addr b).ctWords = d.ctWords := rfl
@[simp] theorem Strand.emit_ctPos (d : Strand) (kind : OutKind) (addr : Nat) (b : List Byte) :
    (d.emit kind addr b).ctPos = d.ctPos := rfl
@[simp] theorem Strand.emit_descJ (d : Strand) (kind : OutKind) (addr : Nat) (b : List Byte) :
    (d.emit kind addr b).descJ = d.descJ := rfl
@[simp] theorem Strand.emit_store (d : Strand) (kind : OutKind) (addr : Nat) (b : List Byte) :
    (d.emit kind addr b).store = d.store := rfl
@[simp] theorem Strand.emit_ing (d : Strand) (kind : OutKind) (addr : Nat) (b : List Byte) :
    (d.emit kind addr b).ing = d.ing := rfl
@[simp] theorem Strand.emit_plan (d : Strand) (kind : OutKind) (addr : Nat) (b : List Byte) :
    (d.emit kind addr b).plan = d.plan := rfl
@[simp] theorem Strand.emit_work (d : Strand) (kind : OutKind) (addr : Nat) (b : List Byte) :
    (d.emit kind addr b).work = d.work := rfl
@[simp] theorem Strand.emit_q (d : Strand) (kind : OutKind) (addr : Nat) (b : List Byte) :
    (d.emit kind addr b).q = d.q := rfl
@[simp] theorem Strand.emit_trig (d : Strand) (kind : OutKind) (addr : Nat) (b : List Byte) :
    (d.emit kind addr b).trig = d.trig := rfl
@[simp] theorem Strand.emit_lanes (d : Strand) (kind : OutKind) (addr : Nat) (b : List Byte) :
    (d.emit kind addr b).lanes = d.lanes := rfl
@[simp] theorem Strand.emit_tm (d : Strand) (kind : OutKind) (addr : Nat) (b : List Byte) :
    (d.emit kind addr b).tm = d.tm := rfl
@[simp] theorem Strand.emit_host (d : Strand) (kind : OutKind) (addr : Nat) (b : List Byte) :
    (d.emit kind addr b).host = d.host := rfl
@[simp] theorem Strand.emit_mgmt (d : Strand) (kind : OutKind) (addr : Nat) (b : List Byte) :
    (d.emit kind addr b).mgmt = d.mgmt := rfl
@[simp] theorem Strand.emit_flt (d : Strand) (kind : OutKind) (addr : Nat) (b : List Byte) :
    (d.emit kind addr b).flt = d.flt := rfl
@[simp] theorem Strand.emit_pow (d : Strand) (kind : OutKind) (addr : Nat) (b : List Byte) :
    (d.emit kind addr b).pow = d.pow := rfl

/-! ### `Strand.answer` -/

@[simp] theorem Strand.answer_id (d : Strand) (code : Nat) :
    (d.answer code).id = d.id := rfl
@[simp] theorem Strand.answer_now (d : Strand) (code : Nat) :
    (d.answer code).now = d.now := rfl
@[simp] theorem Strand.answer_sageBase (d : Strand) (code : Nat) :
    (d.answer code).sageBase = d.sageBase := rfl
@[simp] theorem Strand.answer_regs (d : Strand) (code : Nat) :
    (d.answer code).regs = d.regs := rfl
@[simp] theorem Strand.answer_pendW (d : Strand) (code : Nat) :
    (d.answer code).pendW = d.pendW := rfl
@[simp] theorem Strand.answer_resp (d : Strand) (code : Nat) :
    (d.answer code).resp = ⟨code, []⟩ := rfl
@[simp] theorem Strand.answer_out (d : Strand) (code : Nat) :
    (d.answer code).out = d.out := rfl
@[simp] theorem Strand.answer_freeCtr (d : Strand) (code : Nat) :
    (d.answer code).freeCtr = d.freeCtr := rfl
@[simp] theorem Strand.answer_cells (d : Strand) (code : Nat) :
    (d.answer code).cells = d.cells := rfl
@[simp] theorem Strand.answer_dbg (d : Strand) (code : Nat) :
    (d.answer code).dbg = d.dbg := rfl
@[simp] theorem Strand.answer_beats (d : Strand) (code : Nat) :
    (d.answer code).beats = d.beats := rfl
@[simp] theorem Strand.answer_ct (d : Strand) (code : Nat) :
    (d.answer code).ct = d.ct := rfl
@[simp] theorem Strand.answer_ctWords (d : Strand) (code : Nat) :
    (d.answer code).ctWords = d.ctWords := rfl
@[simp] theorem Strand.answer_ctPos (d : Strand) (code : Nat) :
    (d.answer code).ctPos = d.ctPos := rfl
@[simp] theorem Strand.answer_descJ (d : Strand) (code : Nat) :
    (d.answer code).descJ = d.descJ := rfl
@[simp] theorem Strand.answer_store (d : Strand) (code : Nat) :
    (d.answer code).store = d.store := rfl
@[simp] theorem Strand.answer_ing (d : Strand) (code : Nat) :
    (d.answer code).ing = d.ing := rfl
@[simp] theorem Strand.answer_plan (d : Strand) (code : Nat) :
    (d.answer code).plan = d.plan := rfl
@[simp] theorem Strand.answer_work (d : Strand) (code : Nat) :
    (d.answer code).work = d.work := rfl
@[simp] theorem Strand.answer_q (d : Strand) (code : Nat) :
    (d.answer code).q = d.q := rfl
@[simp] theorem Strand.answer_trig (d : Strand) (code : Nat) :
    (d.answer code).trig = d.trig := rfl
@[simp] theorem Strand.answer_lanes (d : Strand) (code : Nat) :
    (d.answer code).lanes = d.lanes := rfl
@[simp] theorem Strand.answer_tm (d : Strand) (code : Nat) :
    (d.answer code).tm = d.tm := rfl
@[simp] theorem Strand.answer_host (d : Strand) (code : Nat) :
    (d.answer code).host = d.host := rfl
@[simp] theorem Strand.answer_mgmt (d : Strand) (code : Nat) :
    (d.answer code).mgmt = d.mgmt := rfl
@[simp] theorem Strand.answer_flt (d : Strand) (code : Nat) :
    (d.answer code).flt = d.flt := rfl
@[simp] theorem Strand.answer_pow (d : Strand) (code : Nat) :
    (d.answer code).pow = d.pow := rfl

/-! ### `Strand.answerData` -/

@[simp] theorem Strand.answerData_id (d : Strand) (b : List Byte) :
    (d.answerData b).id = d.id := rfl
@[simp] theorem Strand.answerData_now (d : Strand) (b : List Byte) :
    (d.answerData b).now = d.now := rfl
@[simp] theorem Strand.answerData_sageBase (d : Strand) (b : List Byte) :
    (d.answerData b).sageBase = d.sageBase := rfl
@[simp] theorem Strand.answerData_regs (d : Strand) (b : List Byte) :
    (d.answerData b).regs = d.regs := rfl
@[simp] theorem Strand.answerData_pendW (d : Strand) (b : List Byte) :
    (d.answerData b).pendW = d.pendW := rfl
@[simp] theorem Strand.answerData_resp (d : Strand) (b : List Byte) :
    (d.answerData b).resp = ⟨0x00, b⟩ := rfl
@[simp] theorem Strand.answerData_out (d : Strand) (b : List Byte) :
    (d.answerData b).out = d.out := rfl
@[simp] theorem Strand.answerData_freeCtr (d : Strand) (b : List Byte) :
    (d.answerData b).freeCtr = d.freeCtr := rfl
@[simp] theorem Strand.answerData_cells (d : Strand) (b : List Byte) :
    (d.answerData b).cells = d.cells := rfl
@[simp] theorem Strand.answerData_dbg (d : Strand) (b : List Byte) :
    (d.answerData b).dbg = d.dbg := rfl
@[simp] theorem Strand.answerData_beats (d : Strand) (b : List Byte) :
    (d.answerData b).beats = d.beats := rfl
@[simp] theorem Strand.answerData_ct (d : Strand) (b : List Byte) :
    (d.answerData b).ct = d.ct := rfl
@[simp] theorem Strand.answerData_ctWords (d : Strand) (b : List Byte) :
    (d.answerData b).ctWords = d.ctWords := rfl
@[simp] theorem Strand.answerData_ctPos (d : Strand) (b : List Byte) :
    (d.answerData b).ctPos = d.ctPos := rfl
@[simp] theorem Strand.answerData_descJ (d : Strand) (b : List Byte) :
    (d.answerData b).descJ = d.descJ := rfl
@[simp] theorem Strand.answerData_store (d : Strand) (b : List Byte) :
    (d.answerData b).store = d.store := rfl
@[simp] theorem Strand.answerData_ing (d : Strand) (b : List Byte) :
    (d.answerData b).ing = d.ing := rfl
@[simp] theorem Strand.answerData_plan (d : Strand) (b : List Byte) :
    (d.answerData b).plan = d.plan := rfl
@[simp] theorem Strand.answerData_work (d : Strand) (b : List Byte) :
    (d.answerData b).work = d.work := rfl
@[simp] theorem Strand.answerData_q (d : Strand) (b : List Byte) :
    (d.answerData b).q = d.q := rfl
@[simp] theorem Strand.answerData_trig (d : Strand) (b : List Byte) :
    (d.answerData b).trig = d.trig := rfl
@[simp] theorem Strand.answerData_lanes (d : Strand) (b : List Byte) :
    (d.answerData b).lanes = d.lanes := rfl
@[simp] theorem Strand.answerData_tm (d : Strand) (b : List Byte) :
    (d.answerData b).tm = d.tm := rfl
@[simp] theorem Strand.answerData_host (d : Strand) (b : List Byte) :
    (d.answerData b).host = d.host := rfl
@[simp] theorem Strand.answerData_mgmt (d : Strand) (b : List Byte) :
    (d.answerData b).mgmt = d.mgmt := rfl
@[simp] theorem Strand.answerData_flt (d : Strand) (b : List Byte) :
    (d.answerData b).flt = d.flt := rfl
@[simp] theorem Strand.answerData_pow (d : Strand) (b : List Byte) :
    (d.answerData b).pow = d.pow := rfl

/-! ### `Strand.setCell` -/

@[simp] theorem Strand.setCell_id (d : Strand) (p : Nat) (c : Cell) :
    (d.setCell p c).id = d.id := rfl
@[simp] theorem Strand.setCell_now (d : Strand) (p : Nat) (c : Cell) :
    (d.setCell p c).now = d.now := rfl
@[simp] theorem Strand.setCell_sageBase (d : Strand) (p : Nat) (c : Cell) :
    (d.setCell p c).sageBase = d.sageBase := rfl
@[simp] theorem Strand.setCell_regs (d : Strand) (p : Nat) (c : Cell) :
    (d.setCell p c).regs = d.regs := rfl
@[simp] theorem Strand.setCell_pendW (d : Strand) (p : Nat) (c : Cell) :
    (d.setCell p c).pendW = d.pendW := rfl
@[simp] theorem Strand.setCell_resp (d : Strand) (p : Nat) (c : Cell) :
    (d.setCell p c).resp = d.resp := rfl
@[simp] theorem Strand.setCell_out (d : Strand) (p : Nat) (c : Cell) :
    (d.setCell p c).out = d.out := rfl
@[simp] theorem Strand.setCell_freeCtr (d : Strand) (p : Nat) (c : Cell) :
    (d.setCell p c).freeCtr = d.freeCtr := rfl
@[simp] theorem Strand.setCell_cells (d : Strand) (p : Nat) (c : Cell) :
    (d.setCell p c).cells = smSet (fun _ => ({} : Cell)) d.cells p c := rfl
@[simp] theorem Strand.setCell_dbg (d : Strand) (p : Nat) (c : Cell) :
    (d.setCell p c).dbg = d.dbg := rfl
@[simp] theorem Strand.setCell_beats (d : Strand) (p : Nat) (c : Cell) :
    (d.setCell p c).beats = d.beats := rfl
@[simp] theorem Strand.setCell_ct (d : Strand) (p : Nat) (c : Cell) :
    (d.setCell p c).ct = d.ct := rfl
@[simp] theorem Strand.setCell_ctWords (d : Strand) (p : Nat) (c : Cell) :
    (d.setCell p c).ctWords = d.ctWords := rfl
@[simp] theorem Strand.setCell_ctPos (d : Strand) (p : Nat) (c : Cell) :
    (d.setCell p c).ctPos = d.ctPos := rfl
@[simp] theorem Strand.setCell_descJ (d : Strand) (p : Nat) (c : Cell) :
    (d.setCell p c).descJ = d.descJ := rfl
@[simp] theorem Strand.setCell_store (d : Strand) (p : Nat) (c : Cell) :
    (d.setCell p c).store = d.store := rfl
@[simp] theorem Strand.setCell_ing (d : Strand) (p : Nat) (c : Cell) :
    (d.setCell p c).ing = d.ing := rfl
@[simp] theorem Strand.setCell_plan (d : Strand) (p : Nat) (c : Cell) :
    (d.setCell p c).plan = d.plan := rfl
@[simp] theorem Strand.setCell_work (d : Strand) (p : Nat) (c : Cell) :
    (d.setCell p c).work = d.work := rfl
@[simp] theorem Strand.setCell_q (d : Strand) (p : Nat) (c : Cell) :
    (d.setCell p c).q = d.q := rfl
@[simp] theorem Strand.setCell_trig (d : Strand) (p : Nat) (c : Cell) :
    (d.setCell p c).trig = d.trig := rfl
@[simp] theorem Strand.setCell_lanes (d : Strand) (p : Nat) (c : Cell) :
    (d.setCell p c).lanes = d.lanes := rfl
@[simp] theorem Strand.setCell_tm (d : Strand) (p : Nat) (c : Cell) :
    (d.setCell p c).tm = d.tm := rfl
@[simp] theorem Strand.setCell_host (d : Strand) (p : Nat) (c : Cell) :
    (d.setCell p c).host = d.host := rfl
@[simp] theorem Strand.setCell_mgmt (d : Strand) (p : Nat) (c : Cell) :
    (d.setCell p c).mgmt = d.mgmt := rfl
@[simp] theorem Strand.setCell_flt (d : Strand) (p : Nat) (c : Cell) :
    (d.setCell p c).flt = d.flt := rfl
@[simp] theorem Strand.setCell_pow (d : Strand) (p : Nat) (c : Cell) :
    (d.setCell p c).pow = d.pow := rfl

/-! ### `Strand.atTime` -/

@[simp] theorem Strand.atTime_id (d : Strand) (t : Nat) :
    (d.atTime t).id = d.id := rfl
@[simp] theorem Strand.atTime_now (d : Strand) (t : Nat) :
    (d.atTime t).now = max d.now t := rfl
@[simp] theorem Strand.atTime_sageBase (d : Strand) (t : Nat) :
    (d.atTime t).sageBase = d.sageBase := rfl
@[simp] theorem Strand.atTime_regs (d : Strand) (t : Nat) :
    (d.atTime t).regs = d.regs := rfl
@[simp] theorem Strand.atTime_pendW (d : Strand) (t : Nat) :
    (d.atTime t).pendW = d.pendW := rfl
@[simp] theorem Strand.atTime_resp (d : Strand) (t : Nat) :
    (d.atTime t).resp = d.resp := rfl
@[simp] theorem Strand.atTime_out (d : Strand) (t : Nat) :
    (d.atTime t).out = [] := rfl
@[simp] theorem Strand.atTime_freeCtr (d : Strand) (t : Nat) :
    (d.atTime t).freeCtr = d.freeCtr := rfl
@[simp] theorem Strand.atTime_cells (d : Strand) (t : Nat) :
    (d.atTime t).cells = d.cells := rfl
@[simp] theorem Strand.atTime_dbg (d : Strand) (t : Nat) :
    (d.atTime t).dbg = d.dbg := rfl
@[simp] theorem Strand.atTime_beats (d : Strand) (t : Nat) :
    (d.atTime t).beats = d.beats := rfl
@[simp] theorem Strand.atTime_ct (d : Strand) (t : Nat) :
    (d.atTime t).ct = d.ct := rfl
@[simp] theorem Strand.atTime_ctWords (d : Strand) (t : Nat) :
    (d.atTime t).ctWords = d.ctWords := rfl
@[simp] theorem Strand.atTime_ctPos (d : Strand) (t : Nat) :
    (d.atTime t).ctPos = d.ctPos := rfl
@[simp] theorem Strand.atTime_descJ (d : Strand) (t : Nat) :
    (d.atTime t).descJ = d.descJ := rfl
@[simp] theorem Strand.atTime_store (d : Strand) (t : Nat) :
    (d.atTime t).store = d.store := rfl
@[simp] theorem Strand.atTime_ing (d : Strand) (t : Nat) :
    (d.atTime t).ing = d.ing := rfl
@[simp] theorem Strand.atTime_plan (d : Strand) (t : Nat) :
    (d.atTime t).plan = d.plan := rfl
@[simp] theorem Strand.atTime_work (d : Strand) (t : Nat) :
    (d.atTime t).work = d.work := rfl
@[simp] theorem Strand.atTime_q (d : Strand) (t : Nat) :
    (d.atTime t).q = d.q := rfl
@[simp] theorem Strand.atTime_trig (d : Strand) (t : Nat) :
    (d.atTime t).trig = d.trig := rfl
@[simp] theorem Strand.atTime_lanes (d : Strand) (t : Nat) :
    (d.atTime t).lanes = d.lanes := rfl
@[simp] theorem Strand.atTime_tm (d : Strand) (t : Nat) :
    (d.atTime t).tm = d.tm := rfl
@[simp] theorem Strand.atTime_host (d : Strand) (t : Nat) :
    (d.atTime t).host = d.host := rfl
@[simp] theorem Strand.atTime_mgmt (d : Strand) (t : Nat) :
    (d.atTime t).mgmt = d.mgmt := rfl
@[simp] theorem Strand.atTime_flt (d : Strand) (t : Nat) :
    (d.atTime t).flt = d.flt := rfl
@[simp] theorem Strand.atTime_pow (d : Strand) (t : Nat) :
    (d.atTime t).pow = d.pow := rfl

/-! ### Free values -/

@[simp] theorem Strand.freeNat_id (d : Strand) : d.freeNat.2.id = d.id := rfl
@[simp] theorem Strand.freeNat_now (d : Strand) : d.freeNat.2.now = d.now := rfl
@[simp] theorem Strand.freeNat_sageBase (d : Strand) : d.freeNat.2.sageBase = d.sageBase := rfl
@[simp] theorem Strand.freeNat_regs (d : Strand) : d.freeNat.2.regs = d.regs := rfl
@[simp] theorem Strand.freeNat_pendW (d : Strand) : d.freeNat.2.pendW = d.pendW := rfl
@[simp] theorem Strand.freeNat_resp (d : Strand) : d.freeNat.2.resp = d.resp := rfl
@[simp] theorem Strand.freeNat_out (d : Strand) : d.freeNat.2.out = d.out := rfl
@[simp] theorem Strand.freeNat_freeCtr (d : Strand) : d.freeNat.2.freeCtr = d.freeCtr + 1 := rfl
@[simp] theorem Strand.freeNat_cells (d : Strand) : d.freeNat.2.cells = d.cells := rfl
@[simp] theorem Strand.freeNat_dbg (d : Strand) : d.freeNat.2.dbg = d.dbg := rfl
@[simp] theorem Strand.freeNat_beats (d : Strand) : d.freeNat.2.beats = d.beats := rfl
@[simp] theorem Strand.freeNat_ct (d : Strand) : d.freeNat.2.ct = d.ct := rfl
@[simp] theorem Strand.freeNat_descJ (d : Strand) : d.freeNat.2.descJ = d.descJ := rfl
@[simp] theorem Strand.freeNat_ctWords (d : Strand) : d.freeNat.2.ctWords = d.ctWords := rfl
@[simp] theorem Strand.freeNat_ctPos (d : Strand) : d.freeNat.2.ctPos = d.ctPos := rfl
@[simp] theorem Strand.freeNat_store (d : Strand) : d.freeNat.2.store = d.store := rfl
@[simp] theorem Strand.freeNat_ing (d : Strand) : d.freeNat.2.ing = d.ing := rfl
@[simp] theorem Strand.freeNat_plan (d : Strand) : d.freeNat.2.plan = d.plan := rfl
@[simp] theorem Strand.freeNat_work (d : Strand) : d.freeNat.2.work = d.work := rfl
@[simp] theorem Strand.freeNat_q (d : Strand) : d.freeNat.2.q = d.q := rfl
@[simp] theorem Strand.freeNat_trig (d : Strand) : d.freeNat.2.trig = d.trig := rfl
@[simp] theorem Strand.freeNat_lanes (d : Strand) : d.freeNat.2.lanes = d.lanes := rfl
@[simp] theorem Strand.freeNat_tm (d : Strand) : d.freeNat.2.tm = d.tm := rfl
@[simp] theorem Strand.freeNat_host (d : Strand) : d.freeNat.2.host = d.host := rfl
@[simp] theorem Strand.freeNat_mgmt (d : Strand) : d.freeNat.2.mgmt = d.mgmt := rfl
@[simp] theorem Strand.freeNat_flt (d : Strand) : d.freeNat.2.flt = d.flt := rfl
@[simp] theorem Strand.freeNat_pow (d : Strand) : d.freeNat.2.pow = d.pow := rfl

/-! ### Locations -/

/-- Another location keeps its value over a write. -/
theorem Strand.get_put_other (d : Strand) {i s j t : Nat} (v : Nat) (h : locKey j t ≠ locKey i s) :
    (d.put i s v).get j t = d.get j t := smGet_smSet_other _ _ h

/-- The written location reads the value, kept to its width. -/
theorem Strand.get_put_same {d : Strand} (h : d.regsOk = true) (i s v : Nat) :
    (d.put i s v).get i s = v % 2 ^ dictWidth (locKey i s) := smGet_smSet_same h _ _

/-- A write keeps the canonical form of the dictionary values. -/
theorem Strand.put_regsOk {d : Strand} (h : d.regsOk = true) (i s v : Nat) : (d.put i s v).regsOk = true :=
  smSet_wf h _ _

/-- Setting a location to its default keeps the canonical form. -/
theorem Strand.putDefault_regsOk {d : Strand} (h : d.regsOk = true) (i s : Nat) : (d.putDefault i s).regsOk = true :=
  smSet_wf h _ _

/-- Another location keeps its value when one goes back to its default. -/
theorem Strand.get_putDefault_other (d : Strand) {i s j t : Nat} (h : locKey j t ≠ locKey i s) :
    (d.putDefault i s).get j t = d.get j t := smGet_smSet_other _ _ h

/-- A location set back reads its default. -/
theorem Strand.get_putDefault_same {d : Strand} (h : d.regsOk = true) (i s : Nat) :
    (d.putDefault i s).get i s = dictDefault d.id.num (locKey i s) := smGet_smSet_same h _ _

@[simp] theorem Strand.raise_get (d : Strand) (src inst : Nat) (i j : Nat) : (d.raise src inst).get i j = d.get i j := rfl
@[simp] theorem Strand.emit_get (d : Strand) (kind : OutKind) (addr : Nat) (b : List Byte) (i j : Nat) :
    (d.emit kind addr b).get i j = d.get i j := rfl
@[simp] theorem Strand.answer_get (d : Strand) (code : Nat) (i j : Nat) : (d.answer code).get i j = d.get i j := rfl
@[simp] theorem Strand.answerData_get (d : Strand) (b : List Byte) (i j : Nat) : (d.answerData b).get i j = d.get i j := rfl
@[simp] theorem Strand.setCell_get (d : Strand) (p : Nat) (c : Cell) (i j : Nat) : (d.setCell p c).get i j = d.get i j := rfl
@[simp] theorem Strand.atTime_get (d : Strand) (t : Nat) (i j : Nat) : (d.atTime t).get i j = d.get i j := rfl
@[simp] theorem Strand.freeNat_get (d : Strand) (i j : Nat) : d.freeNat.2.get i j = d.get i j := rfl

/-- The cell set is the cell read. -/
theorem Strand.cell_setCell_same {d : Strand} (h : smWf (fun _ => ({} : Cell)) d.cells = true) (p : Nat) (c : Cell) :
    (d.setCell p c).cell p = c := smGet_smSet_same h p c

/-- Another cell stays as it is. -/
theorem Strand.cell_setCell_other (d : Strand) {p q : Nat} (c : Cell) (h : q ≠ p) :
    (d.setCell p c).cell q = d.cell q := smGet_smSet_other _ _ h

/-! ### Strands of a state -/

@[simp] theorem State.strand_s0 (s : State) : s.strand .s0 = s.st0 := rfl
@[simp] theorem State.strand_s1 (s : State) : s.strand .s1 = s.st1 := rfl
@[simp] theorem State.strand_s2 (s : State) : s.strand .s2 = s.st2 := rfl
@[simp] theorem State.strand_s3 (s : State) : s.strand .s3 = s.st3 := rfl

@[simp] theorem State.strand_setStrand_same (s : State) (k : StrandId) (d : Strand) : (s.setStrand k d).strand k = d := by
  cases k <;> rfl

theorem State.strand_setStrand_other (s : State) {k l : StrandId} (d : Strand) (h : l ≠ k) :
    (s.setStrand k d).strand l = s.strand l := by
  cases k <;> cases l <;> first | rfl | exact absurd rfl h

@[simp] theorem State.setStrand_strand (s : State) (k : StrandId) : s.setStrand k (s.strand k) = s := by
  cases k <;> rfl

@[simp] theorem State.setStrand_setStrand (s : State) (k : StrandId) (d e : Strand) :
    (s.setStrand k d).setStrand k e = s.setStrand k e := by cases k <;> rfl

@[simp] theorem State.setStrand_pkg (s : State) (k : StrandId) (d : Strand) : (s.setStrand k d).pkg = s.pkg := by
  cases k <;> rfl

@[simp] theorem State.setStrand_pending (s : State) (k : StrandId) (d : Strand) :
    (s.setStrand k d).pending = s.pending := by cases k <;> rfl

@[simp] theorem State.strand_leave_same (s : State) (k : StrandId) (d : Strand) : (s.leave k d).strand k = d := by
  cases k <;> rfl

theorem State.strand_leave_other (s : State) {k l : StrandId} (d : Strand) (h : l ≠ k) :
    (s.leave k d).strand l = s.strand l := by cases k <;> cases l <;> first | rfl | exact absurd rfl h

@[simp] theorem State.leave_pending (s : State) (k : StrandId) (d : Strand) : (s.leave k d).pending = s.pending := by
  cases k <;> rfl

@[simp] theorem State.leave_pkg (s : State) (k : StrandId) (d : Strand) :
    (s.leave k d).pkg = { s.pkg with out := [] } := by cases k <;> rfl

/-! ### The package -/

@[simp] theorem Pkg.put_out (g : Pkg) (i s v : Nat) : (g.put i s v).out = g.out := rfl
@[simp] theorem Pkg.put_straps (g : Pkg) (i s v : Nat) : (g.put i s v).straps = g.straps := rfl
@[simp] theorem Pkg.put_devId (g : Pkg) (i s v : Nat) : (g.put i s v).devId = g.devId := rfl
@[simp] theorem Pkg.put_newId (g : Pkg) (i s v : Nat) : (g.put i s v).newId = g.newId := rfl
@[simp] theorem Pkg.put_posSeen (g : Pkg) (i s v : Nat) : (g.put i s v).posSeen = g.posSeen := rfl
@[simp] theorem Pkg.put_lastEnum (g : Pkg) (i s v : Nat) : (g.put i s v).lastEnum = g.lastEnum := rfl
@[simp] theorem Pkg.put_reported (g : Pkg) (i s v : Nat) : (g.put i s v).reported = g.reported := rfl
@[simp] theorem Pkg.put_beaconAt (g : Pkg) (i s v : Nat) : (g.put i s v).beaconAt = g.beaconAt := rfl
@[simp] theorem Pkg.put_firstEnum (g : Pkg) (i s v : Nat) : (g.put i s v).firstEnum = g.firstEnum := rfl
@[simp] theorem Pkg.put_conflict (g : Pkg) (i s v : Nat) : (g.put i s v).conflict = g.conflict := rfl
@[simp] theorem Pkg.put_upLink (g : Pkg) (i s v : Nat) : (g.put i s v).upLink = g.upLink := rfl
@[simp] theorem Pkg.put_downLink (g : Pkg) (i s v : Nat) : (g.put i s v).downLink = g.downLink := rfl
@[simp] theorem Pkg.put_key (g : Pkg) (i s v : Nat) : (g.put i s v).key = g.key := rfl
@[simp] theorem Pkg.put_patches (g : Pkg) (i s v : Nat) : (g.put i s v).patches = g.patches := rfl
@[simp] theorem Pkg.put_burnKey (g : Pkg) (i s v : Nat) : (g.put i s v).burnKey = g.burnKey := rfl
@[simp] theorem Pkg.put_burnPatch (g : Pkg) (i s v : Nat) : (g.put i s v).burnPatch = g.burnPatch := rfl
@[simp] theorem Pkg.put_win4 (g : Pkg) (i s v : Nat) : (g.put i s v).win4 = g.win4 := rfl
@[simp] theorem Pkg.put_hpUp (g : Pkg) (i s v : Nat) : (g.put i s v).hpUp = g.hpUp := rfl
@[simp] theorem Pkg.put_xinOk (g : Pkg) (i s v : Nat) : (g.put i s v).xinOk = g.xinOk := rfl
@[simp] theorem Pkg.put_feeds (g : Pkg) (i s v : Nat) : (g.put i s v).feeds = g.feeds := rfl
@[simp] theorem Pkg.put_feedsLow (g : Pkg) (i s v : Nat) : (g.put i s v).feedsLow = g.feedsLow := rfl
@[simp] theorem Pkg.put_pwrEn (g : Pkg) (i s v : Nat) : (g.put i s v).pwrEn = g.pwrEn := rfl
@[simp] theorem Pkg.put_porN (g : Pkg) (i s v : Nat) : (g.put i s v).porN = g.porN := rfl
@[simp] theorem Pkg.put_testEn (g : Pkg) (i s v : Nat) : (g.put i s v).testEn = g.testEn := rfl
@[simp] theorem Pkg.put_perstN (g : Pkg) (i s v : Nat) : (g.put i s v).perstN = g.perstN := rfl
@[simp] theorem Pkg.put_powered (g : Pkg) (i s v : Nat) : (g.put i s v).powered = g.powered := rfl
@[simp] theorem Pkg.put_jtagIr (g : Pkg) (i s v : Nat) : (g.put i s v).jtagIr = g.jtagIr := rfl
@[simp] theorem Pkg.put_jtagBsr (g : Pkg) (i s v : Nat) : (g.put i s v).jtagBsr = g.jtagBsr := rfl
@[simp] theorem Pkg.put_jtagPins (g : Pkg) (i s v : Nat) : (g.put i s v).jtagPins = g.jtagPins := rfl
@[simp] theorem Pkg.put_jtagDr (g : Pkg) (i s v : Nat) : (g.put i s v).jtagDr = g.jtagDr := rfl
@[simp] theorem Pkg.put_dbgReg (g : Pkg) (i s v : Nat) : (g.put i s v).dbgReg = g.dbgReg := rfl
@[simp] theorem Pkg.put_inHold (g : Pkg) (i s v : Nat) : (g.put i s v).inHold = g.inHold := rfl
@[simp] theorem Pkg.vector4_regs (g : Pkg) (v : Nat) : (g.vector4 v).regs = g.regs := rfl
@[simp] theorem Pkg.vector4_straps (g : Pkg) (v : Nat) : (g.vector4 v).straps = g.straps := rfl
@[simp] theorem Pkg.vector4_devId (g : Pkg) (v : Nat) : (g.vector4 v).devId = g.devId := rfl
@[simp] theorem Pkg.vector4_newId (g : Pkg) (v : Nat) : (g.vector4 v).newId = g.newId := rfl
@[simp] theorem Pkg.vector4_posSeen (g : Pkg) (v : Nat) : (g.vector4 v).posSeen = g.posSeen := rfl
@[simp] theorem Pkg.vector4_lastEnum (g : Pkg) (v : Nat) : (g.vector4 v).lastEnum = g.lastEnum := rfl
@[simp] theorem Pkg.vector4_reported (g : Pkg) (v : Nat) : (g.vector4 v).reported = g.reported := rfl
@[simp] theorem Pkg.vector4_beaconAt (g : Pkg) (v : Nat) : (g.vector4 v).beaconAt = g.beaconAt := rfl
@[simp] theorem Pkg.vector4_firstEnum (g : Pkg) (v : Nat) : (g.vector4 v).firstEnum = g.firstEnum := rfl
@[simp] theorem Pkg.vector4_conflict (g : Pkg) (v : Nat) : (g.vector4 v).conflict = g.conflict := rfl
@[simp] theorem Pkg.vector4_upLink (g : Pkg) (v : Nat) : (g.vector4 v).upLink = g.upLink := rfl
@[simp] theorem Pkg.vector4_downLink (g : Pkg) (v : Nat) : (g.vector4 v).downLink = g.downLink := rfl
@[simp] theorem Pkg.vector4_patches (g : Pkg) (v : Nat) : (g.vector4 v).patches = g.patches := rfl
@[simp] theorem Pkg.vector4_burnKey (g : Pkg) (v : Nat) : (g.vector4 v).burnKey = g.burnKey := rfl
@[simp] theorem Pkg.vector4_burnPatch (g : Pkg) (v : Nat) : (g.vector4 v).burnPatch = g.burnPatch := rfl
@[simp] theorem Pkg.vector4_win4 (g : Pkg) (v : Nat) : (g.vector4 v).win4 = g.win4 := rfl
@[simp] theorem Pkg.vector4_hpUp (g : Pkg) (v : Nat) : (g.vector4 v).hpUp = g.hpUp := rfl
@[simp] theorem Pkg.vector4_xinOk (g : Pkg) (v : Nat) : (g.vector4 v).xinOk = g.xinOk := rfl
@[simp] theorem Pkg.vector4_feeds (g : Pkg) (v : Nat) : (g.vector4 v).feeds = g.feeds := rfl
@[simp] theorem Pkg.vector4_feedsLow (g : Pkg) (v : Nat) : (g.vector4 v).feedsLow = g.feedsLow := rfl
@[simp] theorem Pkg.vector4_pwrEn (g : Pkg) (v : Nat) : (g.vector4 v).pwrEn = g.pwrEn := rfl
@[simp] theorem Pkg.vector4_porN (g : Pkg) (v : Nat) : (g.vector4 v).porN = g.porN := rfl
@[simp] theorem Pkg.vector4_testEn (g : Pkg) (v : Nat) : (g.vector4 v).testEn = g.testEn := rfl
@[simp] theorem Pkg.vector4_perstN (g : Pkg) (v : Nat) : (g.vector4 v).perstN = g.perstN := rfl
@[simp] theorem Pkg.vector4_powered (g : Pkg) (v : Nat) : (g.vector4 v).powered = g.powered := rfl
@[simp] theorem Pkg.vector4_jtagIr (g : Pkg) (v : Nat) : (g.vector4 v).jtagIr = g.jtagIr := rfl
@[simp] theorem Pkg.vector4_jtagBsr (g : Pkg) (v : Nat) : (g.vector4 v).jtagBsr = g.jtagBsr := rfl
@[simp] theorem Pkg.vector4_jtagPins (g : Pkg) (v : Nat) : (g.vector4 v).jtagPins = g.jtagPins := rfl
@[simp] theorem Pkg.vector4_jtagDr (g : Pkg) (v : Nat) : (g.vector4 v).jtagDr = g.jtagDr := rfl
@[simp] theorem Pkg.vector4_dbgReg (g : Pkg) (v : Nat) : (g.vector4 v).dbgReg = g.dbgReg := rfl
@[simp] theorem Pkg.vector4_key (g : Pkg) (v : Nat) : (g.vector4 v).key = g.key := rfl

/-- Another package entry keeps its value over a write. -/
theorem Pkg.get_put_other (g : Pkg) {i s j t : Nat} (v : Nat) (h : locKey j t ≠ locKey i s) :
    (g.put i s v).get j t = g.get j t := smGet_smSet_other _ _ h

/-- The written package entry reads the value, kept to its width. -/
theorem Pkg.get_put_same {g : Pkg} (h : smWf (dictDefault 0) g.regs = true) (i s v : Nat) :
    (g.put i s v).get i s = v % 2 ^ dictWidth (locKey i s) := smGet_smSet_same h _ _

end Sys2Proof.Machine
end

