-- ==== Sys2Proof/Laws/Collector.lean ====
section
/-! SUPPORT. What follows a command: a strand with nothing for the collector stays as the command left it, so that a
command on a ready part answers exactly what its operation says. -/

namespace Sys2Proof.Machine

/-! ### The collector on a still strand -/

theorem still_iff (d : Strand) : d.still = true ↔ d.flt.rails = [] ∧ d.flt.resetReq = false ∧ d.flt.devReq = false ∧
    d.flt.pkgInt = false ∧ ∀ a ∈ d.mgmt.asks, a.cut = 0 := by
  simp [Strand.still, and_assoc]

theorem sampleN_of_no_rails (g : Pkg) (n : Nat) {d : Strand} (h : d.flt.rails = []) : sampleN g n d = d := by
  cases n <;> simp [sampleN, h]

theorem collect_of_still (g : Pkg) {d : Strand} (h : d.still = true) : collect g d = d := by
  obtain ⟨hr, hq, -⟩ := (still_iff d).1 h
  simp [collect, sampleN_of_no_rails g 6 hr, hq]

theorem deliverCut_of_still (g : Pkg) {d : Strand} (h : d.still = true) : deliverCut g d = (g, d) := by
  obtain ⟨-, -, -, -, ha⟩ := (still_iff d).1 h
  have hs : d.mgmt.asks.filter (fun a => decide (a.cut = 0)) = d.mgmt.asks := by
    rw [List.filter_eq_self]; intro a h; simpa using ha a h
  have hg : d.mgmt.asks.filter (fun a => decide (a.cut ≠ 0)) = [] := by
    rw [List.filter_eq_nil_iff]; intro a h; simpa using ha a h
  simp only [deliverCut, hs, hg, deliverAll, List.foldl_nil]

theorem collectAt_of_still {s : State} {k : StrandId} (h : (s.strand k).still = true) : collectAt s k = s := by
  simp [collectAt, collect_of_still s.pkg h, deliverCut_of_still s.pkg h]

theorem forgetInt_of_still {d : Strand} (h : d.still = true) : forgetInt d = d := by
  obtain ⟨-, -, -, hp, -⟩ := (still_iff d).1 h
  unfold forgetInt
  rw [show ({ d.flt with pkgInt := false } : Faults) = d.flt by rw [← hp]]

/-- Every strand is still. -/
def State.allStill (s : State) : Bool := s.st0.still && s.st1.still && s.st2.still && s.st3.still

theorem settlePkg_of_still {s : State} (h : s.allStill = true) : settlePkg s = s := by
  simp only [State.allStill, Bool.and_eq_true] at h
  obtain ⟨⟨⟨h0, h1⟩, h2⟩, h3⟩ := h
  have g0 := (still_iff _).1 h0
  have g1 := (still_iff _).1 h1
  have g2 := (still_iff _).1 h2
  have g3 := (still_iff _).1 h3
  simp [settlePkg, allStrands, forgetInt_of_still h0, forgetInt_of_still h1, forgetInt_of_still h2,
    forgetInt_of_still h3, g0, g1, g2, g3]

theorem allStill_strand {s : State} (h : s.allStill = true) (k : StrandId) : (s.strand k).still = true := by
  simp only [State.allStill, Bool.and_eq_true] at h
  cases k
  exacts [h.1.1.1, h.1.1.2, h.1.2, h.2]

theorem allStill_setStrand {s : State} (h : s.allStill = true) (k : StrandId) {d : Strand} (hd : d.still = true) :
    (s.setStrand k d).allStill = true := by
  simp only [State.allStill, Bool.and_eq_true] at h ⊢
  obtain ⟨⟨⟨h0, h1⟩, h2⟩, h3⟩ := h
  cases k <;> simp [State.setStrand, *]

theorem settle_of_still {s : State} (h : s.allStill = true) (hn : s.pkg.newId = none) (k : StrandId) :
    settle s k = s := by
  simp [settle, collectAt_of_still (allStill_strand h k), takeNewId, hn, settlePkg_of_still h]

theorem settleAll_of_still {s : State} (h : s.allStill = true) : settleAll s = s := by
  simp [settleAll, allStrands, collectAt_of_still (allStill_strand h _), settlePkg_of_still h]

/-! ### A command on a ready part -/

theorem ready_iff (s : State) : s.ready = true ↔ s.pkg.inHold = false ∧ s.pkg.newId = none ∧ s.allStill = true := by
  simp [State.ready, State.allStill, Option.isNone_iff_eq_none, and_assoc]

/-- A command on a strand and the package leaves what its operation answers, where that is still. -/
theorem onPart_of_ready {s : State} (h : s.ready = true) (w : At) (f : Pkg → Strand → Pkg × Strand) {g : Pkg} {d : Strand}
    (hf : f { s.pkg with out := [] } (s.found w) = (g, d)) (hg : g.newId = none) (hd : d.still = true) :
    onPart s w f = { s with pkg := g }.setStrand w.k d := by
  obtain ⟨hh, -, ha⟩ := (ready_iff s).1 h
  simp only [State.found] at hf
  simp only [onPart, hh, Bool.false_eq_true, if_false, hf]
  refine settle_of_still (allStill_setStrand (s := { s with pkg := g }) ha _ hd) ?_ _
  simp [hg]

/-- A command on a strand leaves what its operation answers, where that is still. -/
theorem onStrandPkg_of_ready {s : State} (h : s.ready = true) (w : At) (f : Pkg → Strand → Strand)
    (hd : (f { s.pkg with out := [] } (s.found w)).still = true) :
    onStrandPkg s w f = s.leave w.k (f { s.pkg with out := [] } (s.found w)) :=
  onPart_of_ready h w _ rfl ((ready_iff s).1 h).2.1 hd

theorem onStrand_of_ready {s : State} (h : s.ready = true) (w : At) (f : Strand → Strand)
    (hd : (f (s.found w)).still = true) : onStrand s w f = s.leave w.k (f (s.found w)) :=
  onPart_of_ready h w _ rfl ((ready_iff s).1 h).2.1 hd

@[simp] theorem found_live (s : State) (w : At) : (s.found w).live = (s.strand w.k).live := rfl

@[simp] theorem found_still (s : State) (w : At) : (s.found w).still = (s.strand w.k).still := rfl

theorem runs_ready {s : State} {k : StrandId} (h : s.runs k = true) : s.ready = true := by
  simp only [State.runs, Bool.and_eq_true] at h; exact h.1

theorem runs_live {s : State} {k : StrandId} (h : s.runs k = true) : (s.strand k).live = true := by
  simp only [State.runs, Bool.and_eq_true] at h; exact h.2

theorem ready_still {s : State} (h : s.ready = true) (k : StrandId) : (s.strand k).still = true :=
  allStill_strand ((ready_iff s).1 h).2.2 k

/-- A command of the data plane leaves what its operation answers, where that is still. -/
theorem onLive_of_runs {s : State} {w : At} (h : s.runs w.k = true) (f : Strand → Strand)
    (hd : (f (s.found w)).still = true) : onLive s w f = s.leave w.k (f (s.found w)) := by
  have hl : (s.found w).live = true := runs_live h
  have := onStrand_of_ready (runs_ready h) w (fun d => if d.live then f d else d) (by simpa [hl] using hd)
  simpa [onLive, hl] using this

theorem onLivePkg_of_runs {s : State} {w : At} (h : s.runs w.k = true) (f : Pkg → Strand → Strand)
    (hd : (f { s.pkg with out := [] } (s.found w)).still = true) :
    onLivePkg s w f = s.leave w.k (f { s.pkg with out := [] } (s.found w)) := by
  have hl : (s.found w).live = true := runs_live h
  have := onStrandPkg_of_ready (runs_ready h) w (fun g d => if d.live then f g d else d) (by simpa [hl] using hd)
  simpa [onLivePkg, hl] using this

/-- A strand whose fault state and waiting accesses are those of a still one is still. -/
theorem still_of_eq {d e : Strand} (h : e.still = true) (hf : d.flt = e.flt) (ha : d.mgmt.asks = e.mgmt.asks) :
    d.still = true := by simpa [Strand.still, hf, ha] using h

end Sys2Proof.Machine
end

