-- ==== Sys2Proof/Laws/Access.lean ====
section
/-! SUPPORT. A dictionary access on a ready part: with the checks of R371 passed and nothing before it in the
dictionary unit, a write does what its entry says, at once. -/

namespace Sys2Proof.Machine

/-! ### Shared domains -/

theorem awake_iff (s : State) : s.awake = true ↔ (∀ k, (s.strand k).sleep = 0) ∧ s.pkg.domain 0x40 ≠ 0 ∧
    s.pkg.domain 0x41 ≠ 0 := by
  simp only [State.awake, Bool.and_eq_true, decide_eq_true_eq]
  constructor
  · rintro ⟨⟨⟨⟨⟨h0, h1⟩, h2⟩, h3⟩, h4⟩, h5⟩
    exact ⟨fun k => by cases k <;> assumption, h4, h5⟩
  · rintro ⟨h, h4, h5⟩
    exact ⟨⟨⟨⟨⟨h .s0, h .s1⟩, h .s2⟩, h .s3⟩, h4⟩, h5⟩

/-- While no strand sleeps the shared domains stay as they are. -/
theorem shareDomains_of_awake {s : State} (h : s.awake = true) : shareDomains s = s := by
  obtain ⟨hs, h40, h41⟩ := (awake_iff s).1 h
  have e0 := hs .s0
  have e1 := hs .s1
  simp only [State.strand_s0, State.strand_s1] at e0 e1
  have n40 : shareDomain s 0x40 = s := by
    simp [shareDomain, sharedNeeded, e0, h40]
  have n41 : shareDomain s 0x41 = s := by
    simp [shareDomain, sharedNeeded, e0, h41]
  simp [shareDomains, n40, n41]

theorem awake_leave {s : State} (h : s.awake = true) (k : StrandId) {d : Strand} (hd : d.sleep = 0) :
    (s.leave k d).awake = true := by
  obtain ⟨hs, h40, h41⟩ := (awake_iff s).1 h
  refine (awake_iff _).2 ⟨fun l => ?_, ?_, ?_⟩
  · by_cases hl : l = k
    · subst hl; simpa using hd
    · rw [State.strand_leave_other s d hl]; exact hs l
  · rw [State.leave_pkg]; exact h40
  · rw [State.leave_pkg]; exact h41

/-! ### A write that the checks pass -/

theorem writable_iff (s : State) (w : At) (rq : Requester) (index sub lv : Nat) :
    s.writable w rq index sub lv = true ↔ s.ready = true ∧ s.awake = true ∧ (s.found w).sageUp = true ∧
      (s.found w).inReset = false ∧ dictBusy (s.found w) = false ∧ (s.found w).granted rq index sub lv true = true ∧
      rq ≠ .pf4 := by
  simp [State.writable, Strand.dictFree, Strand.mayWrite, and_assoc]

/-- The write of an entry of a strand: the access is answered by the entry's own rule. -/
theorem dictWriteCmd_of_writable {s : State} {w : At} {rq : Requester} {index sub : Nat} {r : DictRow} {b : List Byte}
    {d : Strand} (hr : dictFind index sub = some r) (hw : s.writable w rq index sub r.level = true) (ha : r.access ≠ 0)
    (hl : lengthOk r b.length = true) (ht : typeOk r b = true)
    (he : entryWrite { s.pkg with out := [] } ((noteLevel (s.found w) rq r).answer 0xFF) rq index sub b =
      ({ s.pkg with out := [] }, d))
    (hd : d.still = true) (hz : d.sleep = 0) :
    dictWriteCmd s w rq true index sub b = s.leave w.k d := by
  obtain ⟨h1, h2, h3, h4, h5, h6, h7⟩ := (writable_iff s w rq index sub r.level).1 hw
  have hx : dictWriteOp { s.pkg with out := [] } (s.found w) 4 rq index sub b = ({ s.pkg with out := [] }, d) := by
    simp [dictWriteOp, accessOp, askFor, arriveAs, arrive, reachable, h3, h4, findEntry, h7, hr, h6, mustWait, h5,
      perform, writeGranted, ha, hl, ht, he]
  have hp : onPart s w (fun g d => if true then dictWriteOp g d 4 rq index sub b else (g, d.answer 0x03)) =
      s.leave w.k d := onPart_of_ready h1 w _ (by simpa using hx) ((ready_iff s).1 h1).2.1 hd
  have hs : (s.leave w.k d).awake = true := awake_leave h2 _ hz
  show shareDomains (onPart s w (fun g d => if true then dictWriteOp g d 4 rq index sub b else (g, d.answer 0x03))) = _
  rw [hp, shareDomains_of_awake hs]

end Sys2Proof.Machine
end

