-- ==== Sys2Proof/Laws/Completion.lean ====
section
/-! SUPPORT. The next state of a command, shape by shape: what `exec` answers for a command that runs on a strand, on
the strand and the package, or on a strand's fast clocks, in the words of the statements. -/

namespace Sys2Proof.Machine

variable {s : State} {w : At} {i : Instr}

theorem ready_hold (h : s.ready = true) : s.pkg.inHold = false := ((ready_iff s).1 h).1

/-- A command on a part that is not held settles what its operation answers. -/
theorem onPart_eq (hh : s.pkg.inHold = false) (w : At) (f : Pkg → Strand → Pkg × Strand) {g : Pkg} {d : Strand}
    (hf : f { s.pkg with out := [] } (s.found w) = (g, d)) :
    onPart s w f = settle ({ s with pkg := g }.setStrand w.k d) w.k := by
  have hf' : f { s.pkg with out := [] } ((s.strand w.k).atTime w.t) = (g, d) := hf
  unfold onPart
  rw [if_neg (by simp [hh])]
  simp only [hf']

theorem becomesPart_of_onPart {f : Pkg → Strand → Pkg × Strand} {g : Pkg} {d : Strand} (h : s.ready = true)
    (hd : f { s.pkg with out := [] } (s.found w) = (g, d)) (he : exec i s = .next (onPart s w f)) :
    BecomesPart i s w g d := by
  rw [BecomesPart, he, onPart_eq (ready_hold h) w _ hd]

theorem becomes_of_onStrandPkg {f : Pkg → Strand → Strand} {d : Strand} (h : s.ready = true)
    (hd : f { s.pkg with out := [] } (s.found w) = d) (he : exec i s = .next (onStrandPkg s w f)) : Becomes i s w d := by
  rw [Becomes, he]
  exact congrArg _ (onPart_eq (ready_hold h) w _ (by rw [hd]))

theorem becomes_of_onStrand {f : Strand → Strand} {d : Strand} (h : s.ready = true) (hd : f (s.found w) = d)
    (he : exec i s = .next (onStrand s w f)) : Becomes i s w d := by
  rw [Becomes, he]
  exact congrArg _ (onPart_eq (ready_hold h) w _ (by rw [hd]))

theorem becomes_of_onLive {f : Strand → Strand} {d : Strand} (h : s.runs w.k = true) (hd : f (s.found w) = d)
    (he : exec i s = .next (onLive s w f)) : Becomes i s w d :=
  becomes_of_onStrand (runs_ready h) (by simp [runs_live h, hd]) he

theorem becomes_of_onLivePkg {f : Pkg → Strand → Strand} {d : Strand} (h : s.runs w.k = true)
    (hd : f { s.pkg with out := [] } (s.found w) = d) (he : exec i s = .next (onLivePkg s w f)) : Becomes i s w d :=
  becomes_of_onStrandPkg (runs_ready h) (by simp [runs_live h, hd]) he

theorem allStill_leave (h : s.ready = true) (k : StrandId) {d : Strand} (hd : d.still = true) :
    (s.leave k d).allStill = true := by
  have ha : ({ s with pkg := { s.pkg with out := [] } } : State).allStill = true := ((ready_iff s).1 h).2.2
  unfold State.leave
  exact allStill_setStrand ha k hd

/-- Where the strand that a command leaves has nothing for the collector, the command leaves exactly that. -/
theorem leaves_of_becomes {d : Strand} (h : s.ready = true) (hd : d.still = true) (hb : Becomes i s w d) :
    Leaves i s w d := by
  rw [Leaves, hb, settle_of_still (allStill_leave h w.k hd) (by simp [((ready_iff s).1 h).2.1])]

/-- The same with the package that the command leaves. -/
theorem leavesPart_of_becomesPart {g : Pkg} {d : Strand} (h : s.ready = true) (hd : d.still = true) (hn : g.newId = none)
    (hb : BecomesPart i s w g d) : LeavesPart i s w g d := by
  have ha : ({ s with pkg := g }.setStrand w.k d).allStill = true :=
    allStill_setStrand (s := { s with pkg := g }) (show s.allStill = true from ((ready_iff s).1 h).2.2) w.k hd
  rw [LeavesPart, hb, settle_of_still ha (by simp [hn])]

/-! ### Dictionary writes -/

theorem takes_writable {rq : Requester} {index sub : Nat} {r : DictRow} (hr : dictFind index sub = some r)
    (ht : s.takes w rq index sub = true) : s.writable w rq index sub r.level = true := by
  simpa [State.takes, hr] using ht

theorem takes_ready {rq : Requester} {index sub : Nat} (ht : s.takes w rq index sub = true) :
    s.ready = true ∧ s.awake = true ∧ (s.found w).sleep = 0 := by
  simp only [State.takes] at ht
  split at ht
  · obtain ⟨h1, h2, -⟩ := (writable_iff _ _ _ _ _ _).1 ht
    exact ⟨h1, h2, ((awake_iff s).1 h2).1 w.k⟩
  · simp at ht

/-- A write that the dictionary takes leaves what its entry's rule says. -/
theorem leaves_of_takes {rq : Requester} {index sub : Nat} {r : DictRow} {b : List Byte} {d : Strand}
    (ht : s.takes w rq index sub = true) (hr : dictFind index sub = some r)
    (hi : exec i s = .next (dictWriteCmd s w rq true index sub b)) (ha : r.access ≠ 0)
    (hl : lengthOk r b.length = true) (hty : typeOk r b = true)
    (he : entryWrite { s.pkg with out := [] } ((noteLevel (s.found w) rq r).answer 0xFF) rq index sub b =
      ({ s.pkg with out := [] }, d))
    (hd : d.still = true) (hz : d.sleep = 0) : Leaves i s w d := by
  rw [Leaves, hi, dictWriteCmd_of_writable hr (takes_writable hr ht) ha hl hty he hd hz]

/-- The same for an entry of fixed size, written with a number. -/
theorem leaves_of_regWrite {rq : Requester} {index sub v : Nat} {r : DictRow} {d : Strand}
    (ht : s.takes w rq index sub = true) (hr : dictFind index sub = some r) (hs : r.size ≠ 0)
    (hi : exec i s = .next (regWrite s w rq true index sub v)) (ha : r.access ≠ 0)
    (hv : v < 256 ^ r.size) (hty : r.type = 0 → v ≤ 1)
    (he : ∀ b, bytesToNat b = v → entryWrite { s.pkg with out := [] } ((noteLevel (s.found w) rq r).answer 0xFF) rq index
      sub b = ({ s.pkg with out := [] }, d))
    (hd : d.still = true) (hz : d.sleep = 0) : Leaves i s w d := by
  have hb : bytesToNat (natToBytes r.size v) = v := bytesToNat_natToBytes _ _ hv
  refine leaves_of_takes (b := natToBytes r.size v) ht hr ?_ ha ?_ ?_ (he _ hb) hd hz
  · simpa [regWrite, hr] using hi
  · simp [lengthOk, hs]
  · by_cases h0 : r.type = 0
    · simp [typeOk, hb, hty h0]
    · simp [typeOk, h0]

end Sys2Proof.Machine
end

