-- ==== Sys2Proof/Laws/Cells.lean ====
section
/-! SUPPORT. Cells through their control port: one cell replaced, the mirror of a cell, the owner tags of its tiles,
bytes stored in its memories. -/

namespace Sys2Proof.Machine

@[simp] theorem found_cell (s : State) (w : At) (p : Nat) : (s.found w).cell p = (s.strand w.k).cell p := rfl

/-- A replaced cell leaves nothing for the collector. -/
theorem found_setCell_still {s : State} {w : At} (h : s.runs w.k = true) (p : Nat) (c : Cell) :
    ((s.found w).setCell p c).still = true := still_of_eq (ready_still (runs_ready h) w.k) rfl rfl

/-- A command that runs on the fast clocks leaves what its operation makes of the strand. -/
theorem leaves_of_onLive {s : State} {w : At} {i : Instr} {f : Strand → Strand}
    (he : exec i s = .next (onLive s w f)) (h : s.runs w.k = true) (hd : (f (s.found w)).still = true) :
    Leaves i s w (f (s.found w)) := by
  rw [Leaves, he, onLive_of_runs h f hd]

/-- A cell without a mirror takes a control-port command alone. -/
theorem Strand.onCell_none {d : Strand} {p : Nat} (hp : p < 272) (hm : (d.cell p).mirror = none) (f : Cell → Cell) :
    d.onCell p f = d.setCell p (f (d.cell p)) := by
  simp [Strand.onCell, hp, hm]

/-- Owner tags cleared one tile after another: the listed tiles lose theirs, the others keep what they are. -/
theorem ownersCleared (c : Cell) (l : List Nat) (hw : smWf (fun _ => ({} : Tile)) c.tiles = true) :
    ∃ tiles, l.foldl (fun (c : Cell) s => c.setTile s { c.tile s with owner := none, collided := false }) c =
        { c with tiles := tiles } ∧ smWf (fun _ => ({} : Tile)) tiles = true ∧
      ∀ n, smGet (fun _ => ({} : Tile)) tiles n =
        if n ∈ l then { c.tile n with owner := none, collided := false } else c.tile n := by
  induction l generalizing c with
  | nil => exact ⟨c.tiles, rfl, hw, fun n => by simp [Cell.tile]⟩
  | cons a l ih =>
    obtain ⟨tiles, h1, hw2, h2⟩ := ih (c.setTile a { c.tile a with owner := none, collided := false }) (smSet_wf hw _ _)
    refine ⟨tiles, by simpa [Cell.setTile] using h1, hw2, fun n => ?_⟩
    rw [h2]
    by_cases hna : n = a
    · subst hna
      simp [Cell.tile, Cell.setTile, smGet_smSet_same hw]
    · simp [hna, Cell.tile, Cell.setTile, smGet_smSet_other _ _ hna]

end Sys2Proof.Machine
end

