-- ==== Sys2Proof/Laws/Decode.lean ====
section
/-! SUPPORT. The fields of a control-port word (R185), whatever its reserved bits hold. -/

namespace Sys2Proof

variable {op p addr arg r : Nat}

theorem packWord_op (ho : op < 16) : (packWord op p addr arg + r * 2 ^ 13) % 2 ^ 4 = op := by
  unfold packWord; omega

theorem packWord_cell (ho : op < 16) (hp : p < 512) : (packWord op p addr arg + r * 2 ^ 13) / 2 ^ 4 % 2 ^ 9 = p := by
  unfold packWord; omega

theorem packWord_addr (ho : op < 16) (hp : p < 512) (ha : addr < 2 ^ 16) (hr : r < 8) :
    (packWord op p addr arg + r * 2 ^ 13) / 2 ^ 16 % 2 ^ 16 = addr := by
  unfold packWord; omega

theorem packWord_arg (ho : op < 16) (hp : p < 512) (ha : addr < 2 ^ 16) (hx : arg < 2 ^ 32) (hr : r < 8) :
    (packWord op p addr arg + r * 2 ^ 13) / 2 ^ 32 % 2 ^ 32 = arg := by
  unfold packWord; omega

theorem packWord_lt (ho : op < 16) (hp : p < 512) (ha : addr < 2 ^ 16) (hx : arg < 2 ^ 32) :
    packWord op p addr arg < 2 ^ 64 := by
  unfold packWord; omega

/-- A word of 64 bits spells the command of its fields. -/
theorem decodeTableWord_packWord (ho : op < 16) (hp : p < 272) (ha : addr < 2 ^ 16) (hx : arg < 2 ^ 32) (hr : r < 8) :
    decodeTableWord 64 (packWord op p addr arg + r * 2 ^ 13) = controlCommand op p addr arg := by
  have h9 : p < 512 := by omega
  rw [decodeTableWord, if_pos rfl, controlWord]
  rw [packWord_cell ho h9, packWord_op ho, packWord_addr ho h9 ha hr, packWord_arg ho h9 ha hx hr,
    if_neg (by omega)]

end Sys2Proof
end

