-- ==== Sys2Proof/Laws/Dict.lean ====
section
/-! SUPPORT. Which row of the dictionary's tables defines a location, for a whole range of indexes at once. -/

namespace Sys2Proof.Machine

/-- The one row of a table that covers every index of a range at a subindex, if the rows before it keep clear of the
range. -/
def rangeRow (lo hi sub : Nat) : List DictRow → Option DictRow
  | [] => none
  | r :: l =>
    if hi < r.idxLo ∨ r.idxHi < lo ∨ sub < r.subLo ∨ r.subHi < sub then rangeRow lo hi sub l
    else if r.idxLo ≤ lo ∧ hi ≤ r.idxHi ∧ r.subLo ≤ sub ∧ sub ≤ r.subHi then some r
    else none

theorem find_of_rangeRow {lo hi sub : Nat} {r : DictRow} {l : List DictRow} (h : rangeRow lo hi sub l = some r) {i : Nat}
    (h1 : lo ≤ i) (h2 : i ≤ hi) : (l.find? fun r => decide (r.idxLo ≤ i) && decide (i ≤ r.idxHi) &&
      decide (r.subLo ≤ sub) && decide (sub ≤ r.subHi)) = some r := by
  induction l with
  | nil => simp [rangeRow] at h
  | cons a l ih =>
    simp only [rangeRow] at h
    split_ifs at h with h3 h4
    · rw [List.find?_cons_of_neg, ih h]
      simp only [Bool.and_eq_true, decide_eq_true_eq]
      omega
    · obtain rfl : a = r := by simpa using h
      rw [List.find?_cons_of_pos]
      simp only [Bool.and_eq_true, decide_eq_true_eq]
      omega

/-- A location of a range is defined by the range's row. -/
theorem dictFind_of_rangeRow {lo hi sub : Nat} {r : DictRow} (h : rangeRow lo hi sub dictRows = some r) {i : Nat}
    (h1 : lo ≤ i) (h2 : i ≤ hi) : dictFind i sub = some r := find_of_rangeRow h h1 h2

end Sys2Proof.Machine
end

