-- ==== Sys2Proof/Laws/Rails.lean ====
section
/-! SUPPORT. The sources at the rails of a strand (R384, R385): a raised source joins them in its place. -/

namespace Sys2Proof.Machine

/-- Nothing else joins the rails. -/
theorem mem_addRail {src inst : Nat} {l : List (Nat × Nat)} {f : Nat × Nat} (h : f ∈ addRail src inst l) :
    f = (src, inst) ∨ f ∈ l := by
  induction l with
  | nil => simpa [addRail] using h
  | cons a l ih =>
    obtain ⟨x, y⟩ := a
    simp only [addRail] at h
    split_ifs at h with h1 h2
    · simpa using h
    · exact .inr h
    · rcases List.mem_cons.1 h with h | h
      · simp [h]
      · rcases ih h with h | h <;> simp [h]

/-- Every source stays at the rails, and the raised one is there. -/
theorem addRail_mem (src inst : Nat) (l : List (Nat × Nat)) :
    (∀ f ∈ l, f ∈ addRail src inst l) ∧ ∃ i, (src, i) ∈ addRail src inst l := by
  induction l with
  | nil => simp [addRail]
  | cons a l ih =>
    obtain ⟨x, y⟩ := a
    obtain ⟨h1, i, h2⟩ := ih
    simp only [addRail]
    split_ifs with h3 h4
    · exact ⟨fun f hf => by simp [List.mem_cons.1 hf], inst, by simp⟩
    · subst h4
      exact ⟨fun f hf => hf, y, by simp⟩
    · refine ⟨fun f hf => ?_, i, by simp [h2]⟩
      rcases List.mem_cons.1 hf with h | h
      · simp [h]
      · simp [h1 f h]

/-- The rails stay in ascending order. -/
theorem addRail_ok (src inst : Nat) (hi : inst < 65536) {l : List (Nat × Nat)} (h : railsOk l = true) :
    railsOk (addRail src inst l) = true := by
  simp only [railsOk, Bool.and_eq_true, decide_eq_true_eq, List.all_eq_true] at h ⊢
  obtain ⟨hp, ha⟩ := h
  refine ⟨?_, fun f hf => ?_⟩
  · induction l with
    | nil => simp [addRail]
    | cons a l ih =>
      obtain ⟨x, y⟩ := a
      rw [List.pairwise_cons] at hp
      simp only [addRail]
      split_ifs with h3 h4
      · rw [List.pairwise_cons]
        refine ⟨fun b hb => ?_, List.pairwise_cons.2 hp⟩
        rcases List.mem_cons.1 hb with h | h
        · simp [h, h3]
        · exact lt_trans h3 (hp.1 b h)
      · exact List.pairwise_cons.2 hp
      · rw [List.pairwise_cons]
        refine ⟨fun b hb => ?_, ih hp.2 fun x hx => ha x (by simp [hx])⟩
        rcases mem_addRail hb with h | h
        · subst h
          simp
          omega
        · exact hp.1 b h
  · rcases mem_addRail hf with h | h
    · subst h
      exact hi
    · exact ha f h

end Sys2Proof.Machine
end

