-- ==== Sys2Proof/Tests/Slice0.lean ====
section
/-! SUPPORT. Tests of the model: the checks of well-formed commands, single steps with results from the spec, and for every
statement with hypotheses a state and operands that meet them. -/

namespace Sys2Proof.Tests

set_option Elab.async false

open Sys2Proof Sys2Proof.Machine

/-! ### States for the tests -/

/-- A command of strand 0 at a time. -/
abbrev at0 (t : Nat) : At := ⟨.s0, t⟩

/-- The state after reset with strand 0 changed. -/
def st0 (f : Strand → Strand) : State := { State.reset with st0 := f State.reset.st0 }

/-- The state after reset with the package changed. -/
def pkg0 (f : Pkg → Pkg) : State := { State.reset with pkg := f State.reset.pkg }

/-- A cell of strand 0 changed. -/
def cell0 (p : Nat) (f : Cell → Cell) : State := st0 fun d => d.setCell p (f (d.cell p))

/-- An image: section `i` of a type, instance and length stands at 0x10000 * (i + 1); then numbers at addresses. -/
def image (secs : List (Nat × Nat × Nat)) (nums : List (Nat × Nat × Nat)) : SMap Byte :=
  let dir := secs.zipIdx.map fun (x : (Nat × Nat × Nat) × Nat) =>
    (128 + 16 * x.2, 16, x.1.1 + x.1.2.1 * 2 ^ 16 + 0x10000 * (x.2 + 1) * 2 ^ 32 + x.1.2.2 * 2 ^ 64)
  (((16, 2, secs.length) :: dir) ++ nums).foldl
    (fun m (x : Nat × Nat × Nat) => writeMem m x.1 (natToBytes x.2.1 x.2.2)) []

/-- A strand that runs a plan. -/
def runs (m : SMap Byte) (d : Strand) : Strand := ({ d with plan := { d.plan with active := m } }).put 0x6000 0x06 1

/-- The host holds a level-0 session of strand 0. -/
def sess (s : State) : State := { s with st0 := { s.st0 with mgmt := { s.st0.mgmt with sessions := [⟨.host, 0⟩] } } }

/-! ### Cells (02_cell.md, 03_accumulation.md) -/

/-- SELECT names the memory by the low bits of its address (R185). -/
theorem test_select : (match exec (.select (at0 0) 3 2) State.reset with
    | .next t => (t.st0.cell 3).sel | _ => .stagingA) = CellMem.coefficient := by decide +kernel

/-- MIRROR takes the spare from bits 24..16 (R185). -/
theorem test_mirror : (match exec (.mirror (at0 0) 3 (1 + 33 * 65536)) State.reset with
    | .next t => (t.st0.cell 3).mirror | _ => none) = some 33 := by decide +kernel

theorem wit_control_port : State.reset.runs .s0 = true ∧ ((State.reset.strand .s0).cell 3).mirror = none ∧
    (∀ m : CellMem, m = .totals ∨ ∃ a : Fin 4, a.val % 4 = memCode m) ∧ bit 0x210001 0 = true ∧ bits 0x210001 16 9 < 272 ∧
    smWf (fun _ => ({} : Tile)) ((State.reset.strand .s0).cell 3).tiles = true := by
  refine ⟨by decide +kernel, by decide +kernel, fun m => ?_, by decide, by decide, by decide +kernel⟩
  cases m <;> decide

theorem wit_control_port_mirrored :
    let s := cell0 3 fun c => { c with mirror := some 33 }
    s.runs .s0 = true ∧ ((s.strand .s0).cell 3).mirror = some 33 := by decide +kernel

theorem wit_control_port_stores :
    let s := cell0 3 fun c => { c with pm := writeMem [] (64 * 127 + 24) (natToBytes 2 64) }
    let c := (s.strand .s0).cell 3
    s.runs .s0 = true ∧ c.mirror = none ∧ (∀ m : Fin 4, Memory.wf (c.memOf m) = true) ∧
      smWf (fun _ => ({} : Cell)) (s.strand .s0).cells = true ∧ 65532 + 4 ≤ memSize (memCode c.sel) ∧
      (s.strand .s0).work.swaps = [] ∧ (ag3Of c 127).mem < 3 ∧
      otherBase ((s.found (at0 0)).planOf ((s.found (at0 0)).runsAs 3)) ((s.found (at0 0)).runsAs 3) 127 (ag3Of c 127).base
        + 4 ≤ memSize (ag3Of c 127).mem := by decide +kernel

/-- A plan in which logical cell 0 has a role, a step that is valid, and power in the cell's domain. -/
def runnable : State := st0 fun d =>
  let d := (runs (image [(2, 0, 64)] []) d).put 0x2401 4 2
  d.setCell 0 { d.cell 0 with gateOpen := true }

theorem wit_run_start : runnable.runs .s0 = true ∧ (runnable.found (at0 0)).mayRun 0 = true ∧
    ((runnable.strand .s0).cell 0).running = false := by decide +kernel

theorem wit_kernel_step_still : (cellStep (State.reset.found (at0 0)) 5 ⟨0, 0⟩ []).still = true := by decide +kernel

/-- A cell that runs a list of one step: its parameter block in unit 4 names KERNEL 1 with 16 samples, its AG set is unit 5
(R35, R39). -/
def stepping : State := cell0 5 fun c => { c with
  running := true
  pm := writeMem (writeMem [] 0 (natToBytes 8 (4 + 5 * 2 ^ 8 + 2 ^ 15))) 256 (natToBytes 8 (1 + 16 * 2 ^ 16)) }

theorem wit_kernel_step :
    let c := (stepping.strand .s0).cell 5
    let se := c.stepAt c.pos
    stepping.runs .s0 = true ∧ c.running = true ∧ c.stopped = false ∧ c.pos < 32 ∧ c.ecc = [] ∧
      stepValid se (c.pmNat (64 * se.pbUnit) 64) (agSet (c.pmNat (64 * se.agUnit) 64)) = true := by decide +kernel

theorem wit_kernel_step_ends :
    let c := (stepping.strand .s0).cell 5
    let se := c.stepAt c.pos
    let pb := c.pmNat (64 * se.pbUnit) 64
    let d := (stepping.found (at0 0)).setCell 5 (c.upset [])
    let l := d.runsAs 5
    let x : StepEnv := ⟨5, l, c.pos, se, pb, agSet (c.pmNat (64 * se.agUnit) 64), d.planOf l, smGet zeroAt c.n0 se.pbUnit,
      stepBeams d (d.planOf l) l c.pos pb, 0, d.plan.rcSpent.contains 5 || d.plan.badCells.contains 5 || c.lostRun⟩
    pbKernel pb ≠ 3 ∧ se.rep = 1 ∧ (((List.range (min (2 ^ 16) se.rep)).foldl (stepRep x) (d, [])).1.cell 5).stopped = false := by decide +kernel

/-- A scrubber's read that corrects a word counts it (R32). -/
theorem test_scrub_corrected : (match exec (.cellScrubRead (at0 0) 7 .stagingB 100 .corrected) State.reset with
    | .next t => t.st0.get 0x5107 0x03 | _ => 0) = 1 := by decide +kernel

theorem wit_cell_health :
    let s := State.reset
    let d := s.found (at0 0)
    s.runs .s0 = true ∧ (d.hasRole 7 && spliceWanted d 7 && !(d.plan.rcSpent.contains 7) && d.sageUp) = false ∧
      8 * 4095 < memSize (memCode .coefficient) ∧ smGet zeroAt (d.cell 7).ecc (memCode .coefficient * 65536 + 4095) = 0 ∧
      8 * 127 < memSize (memCode .totals) ∧ d.get 0x5107 0x03 < 2 ^ 32 - 1 ∧ d.regsOk = true ∧ d.sageUp = true ∧
      (let e := noteEcc (d.bump 0x5107 0x03 1) 7
       (e.hasRole 7 && spliceWanted e 7 && !(e.plan.rcSpent.contains 7) && e.sageUp) = false) ∧
      s.takes (at0 0) .host 0x5810 0x03 = true ∧ d.debugMode = false ∧ d.dbg.request = none := by decide +kernel

/-- Debug mode with a request for a tile of cell 34 in a domain without power, and one of a cell whose domain has power. -/
def debugging (q : Nat) : State := st0 fun d =>
  { (d.put 0xF000 0x01 1).put 0x2401 4 2 with dbg := { d.dbg with request := some (q, 63) } }

theorem wit_debug_capture :
    let s := debugging 0
    let d := s.found (at0 0)
    let off := st0 fun d => d.put 0xF000 0x01 1
    let e := off.found (at0 0)
    s.takes (at0 0) .host 0x5810 0x03 = true ∧ d.debugMode = true ∧ d.domain (4 + cellDomain (d.get 0x5810 0x01)) = 2 ∧
      off.takes (at0 0) .host 0x5810 0x03 = true ∧ e.debugMode = true ∧
      e.domain (4 + cellDomain (e.get 0x5810 0x01)) ≠ 2 := by decide +kernel

theorem wit_debug_take :
    let d := (debugging 0).found (at0 0)
    let e := (debugging 34).found (at0 0)
    (debugging 0).runs .s0 = true ∧ d.dbg.request = some (0, 63) ∧ d.debugMode = true ∧ d.regsOk = true ∧
      d.domain (4 + cellDomain 0) = 2 ∧ (debugging 34).runs .s0 = true ∧ e.dbg.request = some (34, 63) ∧
      e.debugMode = true ∧ e.regsOk = true ∧ e.domain (4 + cellDomain 34) ≠ 2 := by decide +kernel

theorem wit_sage_down_margin :
    let s := st0 fun d => { d with mgmt := { d.mgmt with bootUntil := 1 } }
    (State.reset.found (at0 0)).sageUp = true ∧ s.runs .s0 = true ∧ (s.found (at0 0)).sageUp = false := by decide +kernel

theorem wit_cells_lost : smWf (fun _ => ({} : Cell)) (runnable.strand .s0).cells = true ∧ 33 / 34 = 0 ∧
    ((runnable.strand .s0).cell 33).tiles = [] := by decide +kernel

/-! ### Words of the control port (R185) -/

/-- OP 0x1 in [3:0], CELL 271 in [12:4], ADDR 0xFFFC in [31:16], ARG 0x80000001 in [63:32], with reserved bits set. -/
theorem test_word_write : decodeTableWord 64
    (0b10000000000000000000000000000001_1111111111111100_101_100001111_0001) =
      some (.write wordAt 271 0xFFFC 0x80000001) := by decide

theorem test_word_select : decodeTableWord 64
    (0b00000000000000000000000000000000_0000000000000010_000_000000011_0010) = some (.select wordAt 3 2) := by decide

theorem test_word_flags : decodeTableWord 64
    (0b00000000000000000000000000000010_0000000001111111_000_000000001_0011) = some (.flags wordAt 1 127 2) := by decide

theorem test_word_set_base : decodeTableWord 64
    (0b00000000000000001111111111100000_0000000000000101_000_000000001_0100) = some (.setBase wordAt 1 5 0xFFE0) := by decide

theorem test_word_set_n0 : decodeTableWord 64
    (0b11111111111111111111111111111111_0000000000000101_000_000000001_0101) =
      some (.setN0 wordAt 1 5 0xFFFFFFFF) := by decide

theorem test_word_copy_bank : decodeTableWord 64
    (0b00000000000000000000000000100000_0000000000000101_000_000000001_0110) = some (.copyBank wordAt 1 5 32) := by decide

theorem test_word_run_gate : decodeTableWord 64 (0b1_0000000000000000_000_100000000_0111) =
    some (.runGate wordAt 256 1) := by decide

theorem test_word_mirror : decodeTableWord 64 (0b0000000100001_0000000000000001_0000000000000000_000_000000001_1000) =
    some (.mirror wordAt 1 0x00210001) := by decide

theorem test_word_owners : decodeTableWord 64 (0b000_000000001_1001) = some (.owners wordAt 1) := by decide

/-- OP 0xA to 0xF and 0x0 are reserved; there is no cell 272. -/
theorem test_word_reserved : (∀ op : Fin 16, op.val = 0 ∨ 10 ≤ op.val → decodeTableWord 64 op.val = none) ∧
    decodeTableWord 64 (1 + 272 * 16) = none ∧ decodeTableWord 32 1 = none := by decide

theorem wit_control_words : (Instr.mirror wordAt 271 0x010F0001).wf = true ∧
    ownStrand (.mirror wordAt 271 0x010F0001) = some wordAt ∧
    encodeControl (.mirror wordAt 271 0x010F0001) = some (8 + 271 * 16 + 0x010F0001 * 2 ^ 32) := by decide +kernel

/-! ### Ingest, braid and correlation banks (04, 05, 07) -/

/-- A plan with one stream on lane 0 and a window that closes late. -/
def streaming : State := st0 fun d => runs (image [(5, 0, 32), (6, 0, 16)] [(0x10000, 32, 1), (0x20004, 4, 2000)]) d

/-- A block for stream 0 as its sender makes it (R98). -/
def block0 : List Byte := blockHeader 0 0 0 0 0 0 ++ zeros 256

theorem wit_block_accepted : streaming.runs .s0 = true ∧ (streaming.strand .s0).domain 3 = 2 ∧
    gateDecide (streaming.found (at0 0)) 0 false block0 = (0, 0) := by decide +kernel

/-- An accepted block is counted (R124). -/
theorem test_block_counted : (match exec (.blockArrival (at0 0) 0 false block0) streaming with
    | .next t => t.st0.get 0x4000 0x01 | _ => 0) = 1 := by decide +kernel

theorem wit_block_refused :
    let s := { streaming with st0 := { streaming.st0 with flt := { streaming.st0.flt with
      onceDone := [0x30, 0x31, 0x32, 0x33, 0x34, 0x35, 0x36] } } }
    s.runs .s0 = true ∧ (s.strand .s0).domain 3 = 2 ∧ (gateDecide (s.found (at0 0)) 0 true block0).1 = 2 ∧
      (∀ src, refuseSource 2 = some src → (s.found (at0 0)).flt.onceDone.contains src = true) ∧
      (s.found (at0 0)).regsOk = true := by
  refine ⟨by decide +kernel, by decide +kernel, by decide +kernel, fun src h => ?_, by decide +kernel⟩
  simp [refuseSource] at h
  subst h
  decide

/-- The refusals in order: SAFE, no room, a bad header, a stream that is not valid, the wrong lane, the wrong format. -/
theorem wit_gate_order :
    let d := streaming.found (at0 0)
    (d.put 0x2850 0x06 2).inSafe = true ∧ d.inSafe = false ∧ headerOk (block0.drop 1) = false ∧ headerOk block0 = true ∧
      (State.reset.st0.hasPlan && stValid 1) = false ∧ (d.hasPlan && stValid (imgStream d.plan.active 0)) = true ∧
      stLane (imgStream d.plan.active 0) ≠ d.endpointOf 1 ∧ stLane (imgStream d.plan.active 0) = d.endpointOf 0 ∧
      headerOk (blockHeader 0 1 0 0 0 0 ++ zeros 512) = true ∧
      (gateDecide d 0 false (blockHeader 0 1 0 0 0 0 ++ zeros 512)).1 = 6 := by decide +kernel

/-- The stream expects its first block; `x` stand in staging. -/
def expecting (x : List Staged) : State :=
  { streaming with st0 := { streaming.st0 with ing := { streaming.st0.ing with next := [(0, 1)], staged := x } } }

theorem wit_window_close :
    let on := fun (s : State) (t : Nat) => s.runs .s0 && decide ((s.strand .s0).domain 3 = 2) && (s.found (at0 t)).hasPlan &&
      stValid (imgStream (s.found (at0 t)).plan.active 0) && decide (smGet zeroAt (s.found (at0 t)).ing.next 0 = 1) &&
      decide (smGet zeroAt (s.found (at0 t)).ing.closed 0 = 0)
    let seen : State := { expecting [] with st0 :=
      { (expecting []).st0 with flt := { (expecting []).st0.flt with onceDone := [0x32] } } }
    let had := expecting [⟨0, 0, block0, 0, false, 0⟩]
    let late := fun (s : State) (t : Nat) => decide ((s.found (at0 t)).closing (s.found (at0 t)).plan.active 0 0 ≤
      time80 (s.found (at0 t)).now)
    on seen (2 ^ 48) = true ∧ late seen (2 ^ 48) = true ∧ (seen.found (at0 (2 ^ 48))).accepted 0 0 = false ∧
      (seen.found (at0 (2 ^ 48))).flt.onceDone.contains 0x32 = true ∧
      on had (2 ^ 48) = true ∧ late had (2 ^ 48) = true ∧ (had.found (at0 (2 ^ 48))).accepted 0 0 = true ∧
      on seen 0 = true ∧ late seen 0 = false := by decide +kernel

theorem wit_ingest_slot :
    let on := fun (s : State) => s.runs .s0 && decide ((s.strand .s0).domain 3 = 2) &&
      decide (smGet zeroAt (s.found (at0 0)).ing.next 0 = 0 + 1) && stValid (imgStream (s.found (at0 0)).plan.active 0) &&
      (s.found (at0 0)).hasPlan
    let x : Staged := ⟨0, 0, block0, 0, false, 0⟩
    on (expecting [x]) = true ∧ x.oldPlan = false ∧ x.slot ≤ time80 0 ∧
      (slotAccepted ((expecting [x]).found (at0 0)) x).still = true ∧
      on (expecting [{ x with slot := 1 }]) = true ∧ (time80 0 : Int) < 1 := by decide +kernel

/-- Without a staged block the slot takes a gap at I(k), and I(k) lies ahead of an instant before it (R102, R107). -/
theorem wit_ingest_slot_gap :
    let d := (expecting []).found (at0 0)
    let e := (expecting []).found (at0 (2 ^ 48))
    (time80 d.now : Int) < d.slotTime d.plan.active 0 0 ∧ e.slotTime e.plan.active 0 0 ≤ time80 e.now ∧
      (slotGap e 0 0).still = true := by decide +kernel

theorem wit_stream_delay :
    State.reset.takes (at0 0) .host (0x4200 + 4095 / 256) (4095 % 256) = true ∧ State.reset.st0.pendW = [] ∧
      0 ≤ stDelayMax (imgStream State.reset.st0.plan.active 4095) ∧
      stDelayMax (imgStream State.reset.st0.plan.active 4095) < 1 := by decide +kernel

/-- A plan with one beat of two entries from the epoch on. -/
def beating : State := st0 fun d => runs (image [(3, 0, 4096)]
  [(0x10000, 2, 1), (0x10010, 4, 1 + 65536), (0x10010 + 30, 2, 2)]) { d with plan := { d.plan with cclk := 1600 } }

theorem wit_beat_start :
    let d := beating.found (at0 (5 * 2 ^ 38))
    beating.runs .s0 = true ∧ d.braidOn = true ∧ (beatNumber d 0).isSome = true ∧ (d.beat 0).start = 0 ∧
      beatEntries (d.beatOf 0) ≠ 0 := by decide +kernel

theorem wit_slot_transfer :
    let s := { beating with st0 :=
      (beating.st0.setBeat 0 ⟨0, 1, 0, 1⟩).setCell 0 { beating.st0.cell 0 with gateOpen := true, stopped := true } }
    let d := s.found (at0 (5 * 2 ^ 38))
    let e := d.slotOf 0 0
    let dd := d.setBeat 0 { d.beat 0 with done := 1 }
    s.runs .s0 = true ∧ d.braidOn = true ∧ (d.beat 0).start ≠ 0 ∧ (d.beat 0).done ≤ 0 ∧ 0 + 1 < beatEntries (d.beatOf 0) ∧
      (match slotSource dd 0 e [] with
        | some (ws, d1) => decide (ws.length = slotWords e) &&
            (slotSink { s.pkg with out := [] } 0 e ⟨.stagingA, 0, 0, []⟩ 0 0 ws d1).still
        | none => false) = true := by decide +kernel

/-- A plan whose cell 0 has an FD step at entry 0 and a beam context 0 of a BP step at entry 1 (R28, R61). -/
def banked : State := st0 fun d =>
  let d := runs (image [(10, 0, 32)] [(0x10000, 32, 1 + 2 ^ 24 + 4 * 2 ^ 48)]) d
  let pm := [(0, 4 + 5 * 2 ^ 8), (8, 6 + 7 * 2 ^ 8 + 2 ^ 15), (256, 7), (64 * 5 + 24, 255 * 2 ^ 16), (64 * 6, 3),
    (64 * 7 + 24, 255 * 2 ^ 16)].foldl (fun m (x : Nat × Nat) => writeMem m x.1 (natToBytes 8 x.2)) []
  d.setCell 0 { d.cell 0 with pm := pm }

/-- One entry of zeros for the first place. -/
def load1 (n : Nat) : List Byte := natToBytes 2 0 ++ natToBytes 2 1 ++ zeros (4 + n)

theorem wit_bank_loads :
    let d := banked.found (at0 0)
    banked.takes (at0 0) .host 0x5400 0x01 = true ∧ loadOk d ⟨0, 0, load1 16⟩ = true ∧ loadWaits d ⟨0, 0, load1 16⟩ = false ∧
      (loadPlace d ⟨0, 0, load1 16⟩).isSome = true ∧
      banked.takes (at0 0) .host 0x8000 0x02 = true ∧ loadOk d ⟨1, 0, load1 1⟩ = true ∧
      loadWaits d ⟨1, 0, load1 1⟩ = false ∧ (loadPlace d ⟨1, 0, load1 1⟩).isSome = true := by decide +kernel

theorem wit_bank_loads_wait :
    let s := { banked with st0 := { banked.st0 with work := { banked.st0.work with
      swaps := [⟨0, 0, 0, true⟩, ⟨1, 1, 0, true⟩] } } }
    let d := s.found (at0 0)
    s.takes (at0 0) .host 0x5400 0x01 = true ∧ loadOk d ⟨0, 0, load1 16⟩ = true ∧ loadWaits d ⟨0, 0, load1 16⟩ = true ∧
      s.takes (at0 0) .host 0x8000 0x02 = true ∧ loadOk d ⟨1, 0, load1 1⟩ = true ∧
      loadWaits d ⟨1, 0, load1 1⟩ = true := by decide +kernel

theorem wit_loads_apply :
    let s := { banked with st0 := { banked.st0 with work := { banked.st0.work with held := [⟨0, 0, load1 16⟩] } } }
    let d := s.found (at0 0)
    s.runs .s0 = true ∧ s.awake = true ∧ d.mgmt.asks = [] ∧ d.mgmt.queue = [] ∧
      (d.work.held.all fun h => !(loadWaits d h)) = true := by decide +kernel

theorem wit_hot_writes :
    let s := { banked with st0 := { banked.st0 with work := { banked.st0.work with hots := [⟨2, 0, load1 1⟩] } } }
    let d := s.found (at0 0)
    s.takes (at0 0) .host 0x8000 0x04 = true ∧ loadOk d ⟨2, 0, load1 1⟩ = true ∧ s.runs .s0 = true ∧
      (d.cell 0).running = false ∧ (d.cell 0).gapHot = false ∧ hotCell d ⟨2, 0, load1 1⟩ = 0 ∧
      (let r := cell0 0 fun c => { c with running := true }
       r.runs .s0 = true ∧ ((r.found (at0 0)).cell 0).running = true) := by decide +kernel

theorem wit_bank_swaps :
    let d := banked.found (at0 0)
    d.hasPlan = true ∧ (State.reset.found (at0 0)).hasPlan = false ∧
      State.reset.takes (at0 0) .host 0x54FF 0x02 = true ∧ State.reset.takes (at0 0) .host 0x8FFF 0x03 = true ∧
      banked.takes (at0 0) .host 0x54FF 0x02 = true ∧ banked.takes (at0 0) .host 0x8FFF 0x03 = true ∧
      d.swapOf 0 255 = none ∧ d.swapOf 1 (ctxTarget (imgContext d.plan.active 4095)) = none ∧
      inTime d.now (boundaryAfter d.now) = true ∧ inTime d.now 1 = true ∧ inTime (banked.found (at0 (2 ^ 38))).now 1 = false := by
  decide +kernel

theorem wit_weight_generations :
    let d := { banked.st0 with work := { banked.st0.work with hots := [⟨2, 0, load1 1⟩] } }
    d.regsOk = true ∧ 0 ∈ stepContexts d.plan.active 1 ∧ 0 ∉ stepContexts d.plan.active 2 ∧ (d.cell 0).running = false ∧
      (d.cell 0).gapHot = false ∧ (d.work.hots.find? fun h => decide (hotCell d h = 0)) = some ⟨2, 0, load1 1⟩ := by decide +kernel

/-! ### Plans, commits and splices (06_plans.md) -/

/-- A shadow slot in a state (R154). -/
def shadow (n : Nat) : State := st0 fun d => d.setShadow n

theorem wit_plan_load :
    let s := State.reset
    s.takes (at0 0) .host 0x6000 0x01 = true ∧ shadowBusy (s.found (at0 0)) = false ∧
      shadowBusy ((shadow 2).found (at0 0)) = true ∧ shadowBusy ((shadow 5).found (at0 0)) = true ∧
      (shadow 5).takes (at0 0) .host 0x6000 0x01 = true ∧ fieldAt (natToBytes 8 0xFFFFF8) 0 4 = 0xFFFFF8 ∧
      fieldAt (natToBytes 8 0xFFFFF9) 0 4 % 8 ≠ 0 ∧ 0xFFFFF8 + (16 - 8) ≤ 0x01000000 := by decide +kernel

/-- Image bytes from offset 0 go into the SHADOW slot, and its state is LOADING (R154, R165). -/
theorem test_plan_load : (match exec (.planLoad (at0 0) .host (natToBytes 8 0 ++ [7, 9])) State.reset with
    | .next t => (t.st0.shadowState, t.st0.storeByte (t.st0.shadowBase + 1)) | _ => (9, 0)) = (1, 9) := by decide +kernel

theorem wit_plan_check :
    State.reset.takes (at0 0) .host 0x6000 0x02 = true ∧ (shadow 2).takes (at0 0) .host 0x6000 0x02 = true ∧
      (shadow 2).runs .s0 = true ∧ ((shadow 2).found (at0 0)).shadowState = 2 ∧
      (checkVerdict (shadow 2).pkg ((shadow 2).found (at0 0)) ((shadow 2).found (at0 0)).shadowImage).isSome = true := by
  decide +kernel

theorem wit_plan_commit :
    let s := shadow 3
    let p := { s with st0 := { s.st0 with plan := { s.st0.plan with pend := some 7 } } }
    s.takes (at0 0) .host 0x6000 0x03 = true ∧ p.takes (at0 0) .host 0x6000 0x03 = true ∧
      (p.found (at0 0)).plan.pend.isSome = true ∧ (s.found (at0 0)).plan.pend = none ∧
      (s.found (at0 0)).shadowState = 3 ∧ State.reset.st0.shadowState ≠ 3 ∧
      inTime (s.found (at0 (2 ^ 38))).now 1 = false ∧ inTime (s.found (at0 0)).now 1 = true := by decide +kernel

theorem wit_plan_cancel :
    let s := shadow 5
    let p := { s with st0 := { s.st0 with plan := { s.st0.plan with pend := some 7 } } }
    p.takes (at0 0) .host 0x6000 0x04 = true ∧ (p.found (at0 0)).plan.pend = some 7 ∧ inTime (p.found (at0 0)).now 7 = true ∧
      inTime (p.found (at0 (7 * 2 ^ 38 - 1))).now 7 = false ∧ ((shadow 1).found (at0 0)).plan.pend = none ∧
      ((shadow 1).found (at0 0)).shadowState = 1 ∧ State.reset.st0.shadowState ≠ 1 ∧
      (shadow 1).takes (at0 0) .host 0x6000 0x04 = true := by decide +kernel

/-- A plan that allows hot patches (R184). -/
def patchable : State := st0 fun d => runs (image [(2, 0, 64)] [(19, 1, 2)]) d

/-- The last eight bytes of unit 4 of cell 0. -/
def patch : List Byte := [0, 4, 56, 0, 8, 0, 0, 0, 1, 2, 3, 4, 5, 6, 7, 8]

theorem wit_hot_patch :
    let d := ((sess patchable).found (at0 0)).touchSession .host
    (sess patchable).takes (at0 0) .host 0x6000 0x0C = true ∧ (d.hasPlan && bit (imgFlags d.plan.active) 1) = true ∧
      patchOk d [] = false ∧ (sess State.reset).takes (at0 0) .host 0x6000 0x0C = true ∧
      (State.reset.st0.hasPlan && bit (imgFlags State.reset.st0.plan.active) 1) = false := by decide +kernel

theorem wit_hot_patch_ok : patchOk (((sess patchable).found (at0 0)).touchSession .host) patch = true := by decide +kernel

theorem wit_hot_patch_apply :
    let s := { patchable with st0 := { patchable.st0 with work := { patchable.st0.work with patches := [patch] } } }
    let d := s.found (at0 0)
    s.runs .s0 = true ∧ d.work.patches = patch :: [] ∧ (d.cell (d.physOf (fieldAt patch 0 1))).running = false := by
  decide +kernel

/-- A plan with a role for logical cell 0 in a domain with power. -/
def spliceable : State := st0 fun d => (runs (image [(2, 0, 64)] []) d).put 0x2401 4 2

theorem wit_splice_begin :
    let d := spliceable.found (at0 0)
    spliceable.takes (at0 0) .host 0x6002 0x01 = true ∧ (d.work.splices.any fun x => decide (x.old = 0) && decide (x.phase = 0)) = false ∧
      d.hasRole 0 = true ∧ d.domain (4 + 0 / 34) = 2 ∧ d.inSafe = false ∧ preparing d (0 / 34) < reserveLeft d (0 / 34) ∧
      reservedSpares d 0 = [32, 33] := by decide +kernel

theorem wit_splice_goes_on :
    let x : Splice := ⟨0, 0, 32, 1, 0, false, []⟩
    let s := { spliceable with st0 := { spliceable.st0 with work := { spliceable.st0.work with splices := [x] } } }
    let y : Splice := ⟨0, 0, 32, 1, 1, true, []⟩
    let u := { spliceable with st0 := { spliceable.st0 with work := { spliceable.st0.work with splices := [y] } } }
    s.runs .s0 = true ∧ ((s.found (at0 0)).work.splices.find? fun y => decide (y.phase = 0) && decide (y.old = 0)) =
      some x ∧ u.runs .s0 = true ∧ draining (u.found (at0 0)) 0 = some y ∧ y.old ≠ y.spare ∧
      ∀ i : Fin 128, smGet zeroAt ((u.found (at0 0)).cell y.old).ecc (totalKey 63 i) = 0 := by decide +kernel

theorem wit_cutover :
    let s := { spliceable with st0 := { spliceable.st0 with plan := { spliceable.st0.plan with cellImages := [(0, 2), (1, 2)] } } }
    let d := s.found (at0 0)
    s.runs .s0 = true ∧ smGet zeroAt d.plan.cellImages 0 = 2 ∧ smGet zeroAt d.plan.cellImages 1 = 2 ∧
      imgRole d.plan.active 1 = false ∧ imgRole d.plan.active 0 = true ∧ (secFind d.plan.active 2 0).isSome = true := by
  decide +kernel

/-! ### Store, queues and outputs (07_braid_store_queues.md) -/

theorem wit_store_scrub :
    let d := State.reset.found (at0 0)
    State.reset.runs .s0 = true ∧ 8 * 0x1FFFFFE < storeSize ∧ smGet zeroAt d.store.ecc 0x1FFFFFE = 0 ∧
      ((d.store.rowCe.filter fun x => decide (d.sage < x.2 + secTime 3600)).filter fun x =>
        decide (x.1 = 0x1FFFFFE / 1024)).length < d.get 0x6810 0x06 := by decide +kernel

theorem wit_row_repaired :
    let s := st0 fun d => { d with store := { d.store with repair := [5, 9] } }
    s.runs .s0 = true ∧ (s.found (at0 0)).store.repair = 5 :: [9] := by decide +kernel

/-- Lane 0 up, with a packet of the former pool that waits for it. -/
def sending : State := st0 fun d =>
  let d := ((d.put 0x3000 0 1).put 0x3001 0 0).put 0x3100 0x01 2
  { d with q := { d.q with old := [⟨outKey ⟨0, 0⟩, 7, zeros 16, 0⟩] } }

theorem wit_output_turn :
    let d := sending.found (at0 0)
    sending.runs .s0 = true ∧ d.outDown ⟨0, 0⟩ = false ∧ (outputTurn d ⟨0, 0⟩).1.isSome = true ∧
      (d.output ⟨0, 0⟩).tx = none := by decide +kernel

theorem wit_packet_done :
    let s := st0 fun d => d.setOutput ⟨1, 3⟩ { d.output ⟨1, 3⟩ with tx := some ⟨7, [], [], 0⟩ }
    s.runs .s0 = true ∧ ((s.found (at0 0)).output ⟨1, 3⟩).tx.isSome = true := by decide +kernel

/-- A plan with one queue, bound to output `k`. -/
def queued (k : Nat) : State := st0 fun d => runs (image [(11, 0, 4096)] [(0x10000, 2, 1), (0x10010, 4, 1 + k * 256)]) d

theorem wit_stalls :
    let s := queued 0
    let d := s.found (at0 0)
    let u := { s with st0 := s.st0.setOutput ⟨0, 0⟩ { s.st0.output ⟨0, 0⟩ with stalled := true } }
    let v := { sending with st0 := sending.st0.setOutput ⟨0, 0⟩ { sending.st0.output ⟨0, 0⟩ with stalled := true } }
    s.runs .s0 = true ∧ d.outDown ⟨0, 0⟩ = true ∧ (d.output ⟨0, 0⟩).stalled = false ∧ queuesOf d ⟨0, 0⟩ = [0] ∧
      queuesOf d ⟨0, 1⟩ = [] ∧ d.outDown ⟨0, 1⟩ = true ∧ (d.output ⟨0, 1⟩).stalled = false ∧
      u.runs .s0 = true ∧ (u.found (at0 0)).outDown ⟨0, 0⟩ = true ∧ ((u.found (at0 0)).output ⟨0, 0⟩).stalled = true ∧
      v.runs .s0 = true ∧ (v.found (at0 0)).outDown ⟨0, 0⟩ = false ∧ ((v.found (at0 0)).output ⟨0, 0⟩).stalled = true := by
  decide +kernel

theorem wit_calendar : (imgCalendar (image [(11, 0, 4096)] [(0x10000, 2, 1), (0x10002, 2, 1), (0x10010, 4, 1),
    (0x10030, 8, 2 ^ 32)]) ⟨0, 0⟩).isSome = true := by decide +kernel

theorem wit_queue_reads :
    let s := queued 3
    let d := s.found (at0 0)
    let p : OldPacket := ⟨3, 0, zeros 300, 0⟩
    let u := { s with st0 := { s.st0 with q := { s.st0.q with old := [p] } } }
    let e := u.found (at0 0)
    s.ready = true ∧ d.dictFree = true ∧ d.granted .host 0x6821 0x02 2 false = true ∧
      hostReadQueue d (d.get 0x6821 0x01) = true ∧ hostReadQueue (State.reset.found (at0 0)) 0 = false ∧
      (d.q.old.find? fun p => decide (p.queue = 0) && decide (p.out % 4 = 3)) = none ∧ d.ready (readKey d 0) = false ∧
      (e.q.old.find? fun p => decide (p.queue = 0) && decide (p.out % 4 = 3)) = some p ∧
      256 * (e.q.readPos + 1) < p.bytes.length := by decide +kernel

/-- A packet of two pool cells in the HOST_READ queue 0. -/
theorem wit_queue_read_pool :
    let s := queued 3
    let p := { s.st0 with q := { s.st0.q with pool := { base := 256, np := 2 } } }
    let p := (p.setLink 0 0 1 false 256).setLink 0 1 0 true 44
    let u := { s with st0 := p.setQueue 0 { p.queue 0 with pkts := 1 } }
    let d := u.found (at0 0)
    u.ready = true ∧ d.dictFree = true ∧ d.granted .host 0x6821 0x02 2 false = true ∧ hostReadQueue d 0 = true ∧
      (d.q.old.find? fun p => decide (p.queue = 0) && decide (p.out % 4 = 3)) = none ∧ d.ready (readKey d 0) = true ∧
      d.store.ecc = [] ∧ d.q.readPos + 1 < (packetAt d (readKey d 0) (d.queue (readKey d 0)).head).1.length := by
  decide +kernel

/-- A plan with a snap group over stream 0, whose queue is queue 0. -/
def snapping : State := st0 fun d => runs (image [(11, 0, 4096), (5, 0, 32)] [(0x10000, 2, 1), (0x10004, 1, 1), (0x10010, 4, 4),
  (0x10030, 8, 1 * 2 ^ 32), (0x20000, 4, 1)]) d

theorem wit_snap_capture :
    State.reset.takes (at0 0) .host 0x6822 0x01 = true ∧ snapping.takes (at0 0) .host 0x6822 0x01 = true ∧
      (snapping.found (at0 0)).hasPlan = true ∧ 0 < snapCount (snapping.found (at0 0)).plan.active ∧
      ¬(State.reset.st0.hasPlan = true) ∧
      ((snapping.found (at0 0)).q.caps.filter fun c => decide (c.group = 0) && decide (c.former = false)).length < 4 := by decide +kernel

theorem wit_snap_block :
    let c : Capture := ⟨0, 1, 0, false, [(0, 0)], false⟩
    let s := { snapping with st0 := { snapping.st0 with
      q := { snapping.st0.q with caps := [c] }
      ing := { snapping.st0.ing with next := [(0, 2)] } } }
    let d := s.found (at0 0)
    s.runs .s0 = true ∧ 0 + 1 < smGet zeroAt d.ing.next 0 ∧
      (d.q.caps.find? fun c => decide (c.group = 0) && decide (c.todo.head? = some (0, 0))) = some c ∧ c.former = false ∧
      (imgSnap d.plan.active 0).queue ∉ d.plan.shed ∧
      d.storeBad (snapSlotOff d.plan.active (imgSnap d.plan.active 0) 0 0) (32 + blockBytes 0) = false := by decide +kernel

/-! ### Trigger and coincidence (08_trigger.md) -/

/-- A plan with a TRIGGER section: detector 0 enabled with DEAD_TICKS 10; unit 0 enabled. -/
def triggering : State := st0 fun d => runs (image [(13, 0, 8192)] [(0x10010, 4, 1 + 10 * 65536)]) d

/-- Cell 3 has found a crossing of detector 0 with metadata `md`; the detector's last event lay at tick `last` - 1. -/
def crossed (md last : Nat) : State :=
  let d := triggering.st0
  { triggering with st0 := { (d.setCell 3 { d.cell 3 with events := [⟨0, 0, 0, 0, 0, 0, 0, md, none⟩] }) with
    trig := { d.trig with detLast := smSet zeroAt [] 0 last } } }

theorem wit_detector :
    let d := (crossed 0 0).found (at0 (2 ^ 38))
    let x : Crossing := ⟨0, 0, 0, 0, 0, 0, 0, 0, none⟩
    let tick := tickOfU (toU d.now)
    let entry := imgDetector (d.unitImg (d.unitsAt tick)) 0
    let ready := fun md last => (crossed md last).runs .s0 && ((crossed md last).found (at0 (2 ^ 38))).trigOn
    (d.cell 3).crossing 0 0 0 = some x ∧ (d.cell 3).crossing 0 0 1 = none ∧ bit entry 0 = true ∧ bits entry 16 16 = 10 ∧
      ready 0 0 = true ∧ (bit 0 2 || bit 0 2 || bit 0 3) = false ∧ (bit 4 2 || bit 0 2 || bit 0 3) = true ∧ ready 4 0 = true ∧
      0 ≠ tick + 1 ∧ ready 0 (tick + 1) = true ∧ ready 0 (tick - 8) = true ∧ tick - 8 ≠ 0 ∧ tick - 8 ≠ tick + 1 ∧
      tick + 1 < tick - 8 + 10 ∧ ready 0 (tick - 9) = true ∧ tick - 9 + 10 ≤ tick + 1 := by decide +kernel

/-- An input enabled, and what is known of its pulses. -/
def pulsing (n : Nat) (x : PinSt) : State := st0 fun d => (d.put 0x7802 n 1).setTin n x

theorem wit_input_edge :
    let s := pulsing 4 {}
    let d := s.found (at0 (2 ^ 38))
    s.runs .s0 = true ∧ d.trigOn = true ∧ d.getBit 0x7802 4 0 = true ∧ (d.tin 4).start = none ∧
      tinActive d 4 false = true ∧ tinActive d 4 true = false ∧ tinActive d 0 false = false ∧
      tinActive d 0 true = true := by decide +kernel

theorem wit_input_pulse :
    let x : PinSt := { start := some 100, cfg := 1 + 8 * 256 }
    let s := pulsing 1 x
    let v := pulsing 4 x
    let t := tickStart 100
    s.runs .s0 = true ∧ (s.found (at0 0)).tin 1 = x ∧ tinActive (s.found (at0 t)) 1 false = false ∧
      (s.found (at0 t)).tick < 100 + tinWidth x.cfg ∧ 100 + tinWidth x.cfg ≤ (s.found (at0 (2 ^ 48))).tick ∧
      tinActive (s.found (at0 (2 ^ 48))) 1 false = false ∧ x.done = false ∧ v.runs .s0 = true ∧
      (v.found (at0 (2 ^ 48))).tin 4 = x ∧ tinActive (v.found (at0 (2 ^ 48))) 4 true = false := by decide +kernel

theorem wit_input_delivery :
    let x : PinSt := { deliver := [(100, 1)] }
    let y : PinSt := { start := some 100, cfg := 1 }
    let s := pulsing 3 x
    let u := pulsing 3 y
    s.runs .s0 = true ∧ ((s.found (at0 0)).tin 3).deliver = (100, 1) :: [] ∧
      100 + tinWidth 1 + 3 ≤ (s.found (at0 (2 ^ 48))).tick ∧ (s.found (at0 0)).tick < 100 + tinWidth 1 + 3 ∧
      u.runs .s0 = true ∧ ((u.found (at0 0)).tin 3).deliver = [] ∧ ((u.found (at0 0)).tin 3).start = some 100 ∧
      ((u.found (at0 0)).tin 3).done = false ∧ 100 + tinWidth 1 + 3 ≤ (u.found (at0 (2 ^ 48))).tick := by decide +kernel

theorem wit_input_stuck :
    let x : PinSt := { start := some 100, cfg := 1, stuck := 5 }
    let s := pulsing 0 x
    let d := s.found (at0 (2 ^ 49))
    s.runs .s0 = true ∧ (d.tin 0).start = some 100 ∧ d.tinMasked 0 = false ∧ 100 * 2 + x.stuck * 1000 ≤ d.tick * 2 ∧
      ((s.found (at0 0)).tin 0).start = some 100 ∧ (s.found (at0 0)).tick * 2 < 100 * 2 + x.stuck * 1000 := by
  decide +kernel

theorem wit_unmask :
    let s := st0 fun d => ((d.put 0x7802 4 1).setTin 4 { unmask := true }).putBit 0x7804 4 0 true
    let d := s.found (at0 (2 ^ 48))
    let u := { s with st0 := s.st0.setTin 4 { start := some 5 } }
    s.runs .s0 = true ∧ d.tinMasked 4 = true ∧ (d.tin 4).unmask = true ∧ (d.tin 4).start = none ∧
      (d.tin 4).lastEnd + tinInterval (d.get 0x7802 4) ≤ d.tick + 1 ∧ (u.found (at0 0)).tinMasked 4 = true ∧
      ((u.found (at0 0)).tin 4).start.isSome = true ∧ s.takes (at0 0) .host 0x7805 4 = true ∧
      State.reset.takes (at0 0) .host 0x7805 4 = true ∧ (State.reset.found (at0 0)).tinMasked 4 = false := by decide +kernel

/-- Unit 0 with K = 2, WIN_TICKS = 10 and a veto (R246). -/
def unit0 : SMap Byte := image [(13, 0, 8192)] [(0x10000 + 4112, 8, 1 + 2 + 2 * 2 ^ 8 + 2 * 2 ^ 17 + 10 * 2 ^ 32)]

theorem wit_coincidence :
    let d := State.reset.st0
    let ev : UnitEv := ⟨100, 0, false⟩
    let w := imgUnit unit0 0
    let near := d.setUnit none 0 { d.unit none 0 with last := [⟨90, 1, false⟩] }
    let dead := d.setUnit none 0 { d.unit none 0 with dead := some 100 }
    let got (d : Strand) := (ev :: (d.unit none 0).last.filter fun l => decide (l.src ≠ ev.src)).filter fun l =>
      decide (ev.tick - unitWin w ≤ l.tick)
    let vetoed := near.setTin 4 { vetos := [⟨95, 97, 105⟩] }
    (dead.unit none 0).dead = some 100 ∧ (d.unit none 0).dead = none ∧ (got d).length < unitK w ∧
      unitK w ≤ (got near).length ∧ (near.unit none 0).dead = none ∧ near.inSafe = false ∧
      (near.put 0x2850 0x06 2).inSafe = true ∧
      (bit w 1 && vetoCovers near (ev.tick - bits w 80 16) (ev.tick + bits w 96 16)) = false ∧
      (bit w 1 && vetoCovers vetoed (ev.tick - bits w 80 16) (ev.tick + bits w 96 16)) = true := by decide +kernel

/-- A repeated TRIG frame (R279). -/
theorem wit_duplicate_trigger :
    let msg := natToBytes 2 0 ++ natToBytes 3 77 ++ zeros 15 ++ natToBytes 4 5 ++ zeros 8
    let d := { State.reset.st0 with lanes := { State.reset.st0.lanes with trigs := [(0, 77, 5)] } }
    (0, 77, 5) ∈ d.lanes.trigs ∧ 77 = fieldAt msg 2 3 ∧ 5 = fieldAt msg 20 4 ∧ d.now < 0 + msTime 1 ∧ d.regsOk = true ∧
      State.reset.st0.lanes.trigs = [] := by decide +kernel

theorem wit_horizon :
    let e : UnitEv := ⟨1000000, 0, false⟩
    let s := { triggering with st0 := triggering.st0.setUnit none 63 { triggering.st0.unit none 63 with evs := [e] } }
    let d := s.found (at0 0)
    s.runs .s0 = true ∧ d.trigOn = true ∧ d.trig.olds = [] ∧
      ∀ e ∈ (d.unit none 63).evs, (d.tick : Int) - unitSettle (imgUnit d.plan.active 63) < e.tick := by decide +kernel

theorem wit_actions :
    let s := st0 fun d => (d.setUnit none 5 { d.unit none 5 with asserts := [(100, 3)] }).setTout 2 ⟨true, 100, []⟩
    let u := { s with st0 := { s.st0 with trig := { s.st0.trig with raised := [(9, (20, 50))] } } }
    let r (q : Nat) := smGet (fun _ => (0, 0)) (u.found (at0 (2 ^ 48))).trig.raised q
    s.runs .s0 = true ∧ u.runs .s0 = true ∧ (s.found (at0 200)).trig.olds = [] ∧
      (∀ n : Fin 4, ((s.found (at0 200)).tout n).due = []) ∧ ((s.found (at0 200)).unit none 5).asserts = (100, 3) :: [] ∧
      100 ≤ (s.found (at0 200)).now ∧ ((s.found (at0 100)).tout 2).high = true ∧
      ((s.found (at0 100)).tout 2).fin ≤ (s.found (at0 100)).now ∧
      (s.found (at0 99)).now < ((s.found (at0 99)).tout 2).fin ∧ (r 9).2 ≠ 0 ∧
      (r 9).2 ≤ (u.found (at0 (2 ^ 48))).tick + 1 ∧ (r (65536 + 9)).2 = 0 := by decide +kernel

theorem wit_actions_due : ∀ n, ((State.reset.found (at0 200)).tout n).due = [] := fun _ => rfl

theorem wit_hitch_trim :
    let d := State.reset.found (at0 0)
    State.reset.runs .s0 = true ∧ d.sageUp = true ∧ (∀ n : Fin 4, (d.tout n).due = [] ∧ (d.tout n).high = false) ∧
      (810 : Int) ≤ d.get 0x780A 0x01 ∧ ((d.get 0x780A 0x01 : Nat) : Int) ≤ 2390 := by decide +kernel

/-! ### Lanes and links (09_lanes.md) -/

/-- The strand with a lane record in a state. -/
def laneIs (n st : Nat) (d : Strand) : Strand := d.put (0x3100 + n) 0x01 st

theorem wit_lane_writes :
    let s := State.reset
    let d := s.found (at0 0)
    let u := st0 fun d => (d.put 0x3000 0 1).put 0x3000 1 1
    let e := u.found (at0 0)
    s.takes (at0 0) .host 0x3000 23 = true ∧ laneFields 1 = true ∧ pllClash d 23 1 = false ∧ d.laneInUse 23 = false ∧
      1 ≠ d.get 0x3000 23 ∧ d.laneState (d.recOf 23) ≠ 6 ∧ d.laneState (d.recOf 23) ≠ 4 ∧ laneFields 6 = false ∧
      pllClash e 2 3 = true ∧ u.takes (at0 0) .host 0x3000 2 = true ∧
      u.takes (at0 0) .host 0x3003 15 = true ∧ bondOk e 15 7 = true ∧ 7 ≠ e.get 0x3003 15 ∧
      e.endsInUse.contains (0x40 + 15) = false ∧
      (((List.range 24).filter fun l => bit 7 (l + 1) || e.getBit 0x3003 15 (l + 1)).any e.laneInUse) = false := by
  decide +kernel

theorem wit_lane_test_writes :
    let s := State.reset
    let d := s.found (at0 0)
    d.laneInUse (d.laneNo 25) = false ∧ d.laneState 25 ≠ 6 ∧ d.regsOk = true ∧ s.takes (at0 0) .host (0x3100 + 25) 0x0A = true ∧
      s.takes (at0 0) .host (0x3100 + 25) 0x0B = true ∧ perSecondOk 1024 (d.get 0x2005 0x01) = true ∧
      s.takes (at0 0) .host 0x3004 0x02 = true ∧ s.takes (at0 0) .host 0x3002 0x01 = true ∧
      ((st0 fun d => d.put 0x3000 23 1).found (at0 0)).laneRate 23 ≠ 0 ∧
      (st0 fun d => d.put 0x3000 23 1).takes (at0 0) .host 0x3002 0x01 = true ∧ d.lanes.swapWant.contains 23 = false ∧
      (refsRecheck { s.pkg with out := [] } d).still = true ∧ (refsRecheck { s.pkg with out := [] } d).sleep = 0 := by
  decide +kernel

/-- Lanes 4 to 7 with Ethernet at 106.25 Gb/s. -/
def ethLanes (d : Strand) : Strand := (((d.put 0x3000 4 9).put 0x3000 5 9).put 0x3000 6 9).put 0x3000 7 9

theorem wit_eth_port : let s := st0 ethLanes; let d := s.found (at0 0)
    s.takes (at0 0) .host 0x3400 23 = true ∧ ethPortOk d 23 (3 + 4 * 16) = true ∧ portKey (3 + 4 * 16) ≠ portKey (d.ethPort 23) ∧
      (d.portInUse 23 || (portLanes (3 + 4 * 16)).any d.laneInUse) = false := by decide +kernel

theorem wit_eth_flow : let d := State.reset.found (at0 0); let v := 9198 * 2 ^ 128
    State.reset.takes (at0 0) .host (0x3500 + 255) 0x01 = true ∧ flowCheck d 255 (flowMask v) = 0x00 := by decide +kernel

/-- 13.2 Gb/s has 6,250,000 extended multiblocks a second (R297). -/
theorem wit_jesd_cfg : let d := State.reset.found (at0 0); let v := 1 + 13200000 * 2 ^ 64
    State.reset.takes (at0 0) .host 0x3600 7 = true ∧ bits v 40 24 = 0 ∧ jesdOk v = true ∧ v ≠ d.jesd 7 ∧
      d.endsInUse.contains (0x60 + 7) = false ∧ ((jesdLanes (d.jesd 7) ++ jesdLanes v).any d.laneInUse) = false := by
  decide +kernel

theorem wit_lane_loss :
    let s := st0 fun d => laneIs 25 4 (laneIs 1 2 (laneIs 0 1 d))
    let d := s.found (at0 0)
    s.runs .s0 = true ∧ d.laneState 0 = 1 ∧ d.laneState 1 = 2 ∧ d.laneState 25 = 4 ∧ d.laneUp 1 = true ∧
      (d.lane 0).los = false ∧ d.laneState 24 = 0 := by decide +kernel

theorem wit_lane_lost :
    let d := (laneIs 1 2 State.reset.st0).put 0x3002 0x02 0
    d.hasPlan = false ∧ d.lanes.swaps = [] ∧ d.getBit 0x3002 0x02 0 = false := by decide +kernel

/-- A CHECKED plan with a stream on lane 0, which pair 0 carries. -/
theorem wit_lane_lost_in_use :
    let m := (image [(5, 0, 32)] [(0x10000, 32, 1)]).map fun x => (State.reset.st0.shadowBase + x.1, x.2)
    let d := (laneIs 0 2 { State.reset.st0 with store := { State.reset.st0.store with mem := m } }).setShadow 3
    let d := d.put 0x3002 0x02 1
    d.hasPlan = false ∧ d.lanes.swaps = [] ∧ d.getBit 0x3002 0x02 0 = true ∧ d.laneInUse (d.laneNo 0) = true ∧
      d.lanes.swapWant.contains (d.laneNo 0) = false := by decide +kernel

/-- Lane 1 locked and up after seven uncorrectable codewords, and lane 3 locked after electrical idle. -/
theorem wit_codewords_run :
    let s := st0 fun d => laneIs 3 2 ((laneIs 1 2 (d.setLane 1 { ({} : LaneDyn) with locked := true, badRun := 7, cwSeq := 9 })).setLane 3
      { ({} : LaneDyn) with locked := true, cwSeq := 9, resync := true })
    let d := s.found (at0 0)
    s.runs .s0 = true ∧ (d.lane 1).locked = true ∧ (d.lane 1).badRun = 7 ∧ d.laneState 1 = 2 ∧ d.laneUp 1 = true ∧
      (d.lane 3).locked = true ∧ (d.lane 3).resync = true ∧ cwRate d 3 = 0 ∧ d.lanes.swaps = [] ∧ d.laneState 3 = 2 := by
  decide +kernel

/-- Lane 0 at 106.25 Gb/s in fixed-latency mode, locked, with a release point or none (R281). -/
def fixed (r : Option (Nat × Nat)) : State := st0 fun d =>
  laneIs 0 2 ((d.put 0x3000 0 (1 + 32)).setLane 0 { ({} : LaneDyn) with locked := true, cwSeq := 9, release := r })

theorem wit_codeword_releases :
    let ok (s : State) := s.runs .s0 && decide ((s.found (at0 0)).laneState 0 = 2) && ((s.found (at0 0)).lane 0).locked &&
      !((s.found (at0 0)).lane 0).resync && decide (9 % 256 = ((s.found (at0 0)).lane 0).cwSeq) &&
      decide (cwRate (s.found (at0 0)) 0 ≠ 0) && (s.found (at0 0)).lanes.swaps.isEmpty &&
      (agushInput (s.found (at0 0)) ((s.found (at0 0)).laneNo 0)).isNone
    let rate := cwRate ((fixed none).found (at0 0)) 0
    ok (fixed none) = true ∧ ok (fixed (some (0, 5))) = true ∧ 0 ≤ releaseTime 0 rate (5 + 1) ∧
      releaseTime 0 rate (5 + 1) < 2 ^ 47 := by decide +kernel

theorem wit_codewords :
    let s := st0 fun d => laneIs 0 1 (laneIs 1 2 (laneIs 2 1 (d.setLane 0 { ({} : LaneDyn) with goodRun := 2, cwSeq := 255 }
      |>.setLane 1 { ({} : LaneDyn) with locked := true, badRun := 6, cwSeq := 9 } |>.setLane 2 { ({} : LaneDyn) with goodRun := 3, cwSeq := 0 })))
    let d := s.found (at0 0)
    s.runs .s0 = true ∧ (d.laneState 0 = 2 ∨ d.laneState 0 = 1) ∧ (d.lane 0).locked = false ∧ (d.lane 0).goodRun < 3 ∧
      (d.lane 0).goodRun ≠ 0 ∧ 255 % 256 = (d.lane 0).cwSeq ∧ (d.lane 2).locked = false ∧ 3 ≤ (d.lane 2).goodRun ∧
      (d.laneState 2 = 2 ∨ d.laneState 2 = 1) ∧ 256 % 256 = (d.lane 2).cwSeq ∧ cwRate d 2 = 0 ∧ d.lanes.swaps = [] ∧
      (d.laneState 1 = 2 ∨ d.laneState 1 = 1) ∧ (d.lane 1).locked = true ∧ (d.lane 1).badRun < 7 ∧ cwRate d 1 = 0 ∧
      9 % 256 = (d.lane 1).cwSeq := by decide +kernel

theorem wit_lane_health :
    let s := st0 fun d => laneIs 25 6 ((((d.put 0x3102 0x07 4000000000).put 0x3103 0x07 4000000000).setLane 3
      { ({} : LaneDyn) with berRun := 2 }).setLane 25 { ({} : LaneDyn) with retest := true })
    let d := s.found (at0 0)
    let high (n : Nat) := decide (d.get 0x3002 0x03 < d.get (0x3100 + n) 0x07 - (d.lane n).symSec)
    s.runs .s0 = true ∧ high 0 = false ∧ high 2 = true ∧ (d.lane 2).berRun < 2 ∧ high 3 = true ∧ 2 ≤ (d.lane 3).berRun ∧
      d.laneNo 24 = 0x7F ∧ d.laneState 24 ≠ 6 ∧ d.laneState 25 = 6 ∧ (d.lane 25).retest = true ∧
      (let u := st0 fun d => laneIs 25 4 (d.put (0x3100 + 25) 0x0B 1)
       u.runs .s0 = true ∧ (u.found (at0 0)).laneState 25 = 4 ∧ (u.found (at0 0)).get (0x3100 + 25) 0x0B ≠ 0) := by
  decide +kernel

/-- Lane 0 up with Agush, and bond 15 over lanes 0 and 1. -/
def linked : State := st0 fun d => laneIs 0 2 (((d.put 0x3000 0 1).put 0x3000 1 1).put 0x3003 15 7)

/-- The CRC of a body of 288 zero bytes, in eighteen pieces. -/
theorem crc_pieces : (zeros 16).foldl crc32Byte 0xFFFFFFFF = 0x1344B4AA ∧
    (zeros 16).foldl crc32Byte 0x1344B4AA = 0xE6F5AA52 ∧
    (zeros 16).foldl crc32Byte 0xE6F5AA52 = 0x0D774C6A ∧
    (zeros 16).foldl crc32Byte 0x0D774C6A = 0x8A729CC9 ∧
    (zeros 16).foldl crc32Byte 0x8A729CC9 = 0x71DCE719 ∧
    (zeros 16).foldl crc32Byte 0x71DCE719 = 0x450B9A51 ∧
    (zeros 16).foldl crc32Byte 0x450B9A51 = 0xE4415242 ∧
    (zeros 16).foldl crc32Byte 0xE4415242 = 0x3D570562 ∧
    (zeros 16).foldl crc32Byte 0x3D570562 = 0x8FF5FA63 ∧
    (zeros 16).foldl crc32Byte 0x8FF5FA63 = 0x55F8AC9C ∧
    (zeros 16).foldl crc32Byte 0x55F8AC9C = 0xD0AFA190 ∧
    (zeros 16).foldl crc32Byte 0xD0AFA190 = 0x7400F70D ∧
    (zeros 16).foldl crc32Byte 0x7400F70D = 0xA0DD7146 ∧
    (zeros 16).foldl crc32Byte 0xA0DD7146 = 0xC2DEA49C ∧
    (zeros 16).foldl crc32Byte 0xC2DEA49C = 0x439EDBEC ∧
    (zeros 16).foldl crc32Byte 0x439EDBEC = 0xF2697AA7 ∧
    (zeros 16).foldl crc32Byte 0xF2697AA7 = 0x8F2155F7 ∧
    (zeros 16).foldl crc32Byte 0x8F2155F7 = 0x140D95AD := by
  decide +kernel

theorem crc32_of (l : List Byte) (c : Nat) (h : l.foldl crc32Byte 0xFFFFFFFF = c) : crc32 l = c ^^^ 0xFFFFFFFF := by
  unfold crc32; rw [h]

theorem foldl_zeros (k c e : Nat) (h : (zeros 16).foldl crc32Byte c = e) : (zeros (16 + k)).foldl crc32Byte c = (zeros k).foldl crc32Byte e := by
  rw [← h, ← List.foldl_append]; unfold zeros; rw [List.replicate_append_replicate]

theorem crc_zeros : crc32 (zeros 288) = 0xEBF26A52 := by
  obtain ⟨a, b, c, d, e, f, g, h, i, j, k, l, m, n, o, p, q, r⟩ := crc_pieces
  refine (crc32_of _ _ ?_).trans (show 0x140D95AD ^^^ 0xFFFFFFFF = 0xEBF26A52 by decide)
  exact (foldl_zeros 272 _ _ a).trans <| (foldl_zeros 256 _ _ b).trans <| (foldl_zeros 240 _ _ c).trans <|
    (foldl_zeros 224 _ _ d).trans <| (foldl_zeros 208 _ _ e).trans <| (foldl_zeros 192 _ _ f).trans <|
    (foldl_zeros 176 _ _ g).trans <| (foldl_zeros 160 _ _ h).trans <| (foldl_zeros 144 _ _ i).trans <|
    (foldl_zeros 128 _ _ j).trans <| (foldl_zeros 112 _ _ k).trans <| (foldl_zeros 96 _ _ l).trans <|
    (foldl_zeros 80 _ _ m).trans <| (foldl_zeros 64 _ _ n).trans <| (foldl_zeros 48 _ _ o).trans <|
    (foldl_zeros 32 _ _ p).trans <| (foldl_zeros 16 _ _ q).trans r

/-- A bonded BLOCK frame with BSEQ 7 and a body of zeros (R273, R275). -/
def bonded7 : List Byte := [0x11, 0x1, 0x2c, 0x1, 0x7, 0x0, 0xbe, 0x2d] ++ zeros 288 ++ natToBytes 4 0xEBF26A52

theorem bonded7_passes : frameCheck bonded7 = some ⟨1, true, 7, zeros 288⟩ := by
  have h1 : ¬(bonded7.length ≠ fieldAt bonded7 2 2 ∨ fieldAt bonded7 2 2 < 28 ∨ 16400 < fieldAt bonded7 2 2 ∨
    fieldAt bonded7 2 2 % 4 ≠ 0 ∨ fieldAt bonded7 0 1 / 16 ≠ 1 ∨ 3 < fieldAt bonded7 1 1 ∨
    crc16 (bonded7.take 6) ≠ fieldAt bonded7 6 2) := by decide +kernel
  have h2 : frameBodyLen (fieldAt bonded7 0 1 % 16) (fieldAt bonded7 2 2) (bonded7.drop 8) = some 288 := by decide +kernel
  have h3 : (bonded7.drop 8).take 288 = zeros 288 := by decide +kernel
  have h4 : fieldAt bonded7 (8 + 288) 4 = 0xEBF26A52 := by decide +kernel
  have h5 : fieldAt bonded7 0 1 % 16 = 1 ∧ bit (fieldAt bonded7 1 1) 0 = true ∧ fieldAt bonded7 4 2 = 7 := by decide +kernel
  unfold frameCheck
  rw [if_neg h1, h2]
  simp only [h3, h4, crc_zeros, h5, if_true]

theorem wit_frames_taken :
    let s := linked
    let d := s.found (at0 0)
    let plain := agushFrame 0 false false 0 (zeros 16)
    s.runs .s0 = true ∧ d.idles 0 = true ∧ d.laneState 0 = 2 ∧ frameCheck [1#8] = none ∧ skipFill 1 [1#8] ≠ [] ∧
      skipFill 4 (zeros 4) = [] ∧ skipFill plain.length plain = plain ∧
      ((frameCheck plain).map fun f => (f.type, f.bonded)) = some (0, false) ∧ d.agushLane (d.laneNo 0) = true ∧
      d.endpointOf 0 = 0x40 + 15 ∧
      (let b := zeros 3 ++ natToBytes 1 64 ++ zeros 1036; b.length = 16 + 16 * fieldAt b 3 1 ∧ fieldAt b 3 1 = 64) := by
  decide +kernel

theorem bonded7_first : skipFill bonded7.length bonded7 = bonded7 := by decide +kernel

/-- Lanes 0 and 1 up with Agush, lane 0 with IDLE_EN, pair 25 in electrical idle; lane 0's record is `x`. -/
def talking (x : LaneDyn) : State := st0 fun d =>
  laneIs 25 3 (laneIs 1 2 (laneIs 0 2 ((d.put 0x3000 0 (1 + 64)).put 0x3000 1 1))) |>.setLane 0 x

theorem wit_frames_sent :
    let s := talking {}
    let d := s.found (at0 0)
    let late := s.found (at0 (2 ^ 48))
    s.runs .s0 = true ∧ d.laneUp 0 = true ∧ d.agushLane (d.laneNo 0) = true ∧ d.idles 0 = true ∧ d.laneState 0 = 2 ∧
      (d.lane 0).wait = [] ∧ (d.lane 0).busy ≤ d.now ∧ (d.lane 0).txIdle = false ∧ idleAllowed d 0 = true ∧
      idleAllowed d 1 = false ∧ late.laneUp 0 = true ∧ mayIdle late 0 = true ∧ d.laneState 25 = 3 ∧
      (let b := talking { busy := 5, lastTx := 5 }
       b.runs .s0 = true ∧ (b.found (at0 0)).now < ((b.found (at0 0)).lane 0).busy ∧ mayIdle (b.found (at0 0)) 0 = false) ∧
      (let i := talking { txIdle := true }
       i.runs .s0 = true ∧ ((i.found (at0 0)).lane 0).txIdle = true) := by decide +kernel

theorem wit_frames_depart : (zeros 32).length = 32 := rfl

theorem wit_bonds :
    let x : BondSt := { waiting := [⟨3, 0, 0, 1, zeros 32⟩] }
    let bad : LaneDyn := { testOk := false }
    let s := { linked with st0 := (laneIs 1 5 (linked.st0.setBond 15 x)).setLane 24 bad |>.setLane 25 bad }
    let d := s.found (at0 0)
    s.runs .s0 = true ∧ (d.bond 14).waiting = [] ∧ (d.bond 15).waiting ≠ [] ∧ d.now < (d.bond 15).since + nsTime 200 ∧
      (d.bond 15).since + nsTime 200 ≤ (s.found (at0 (nsTime 200))).now ∧ d.bondOn 15 = true ∧
      (d.bondMembers 15).contains 1 = true ∧ d.memberLost 1 = true := by decide +kernel

/-- Lane 0 asks for a spare and spare 24 is ready for it. -/
def sparing : State := st0 fun d =>
  let d := laneIs 24 2 (laneIs 0 2 (d.put 0x3000 0 1))
  let d := d.setLane 24 { d.lane 24 with spareIdle := true }
  { d with lanes := { d.lanes with swapWant := [0] } }

theorem wit_spare_start :
    let d := sparing.found (at0 0)
    let e := { d with lanes := { d.lanes with swapWant := d.lanes.swapWant.filter fun x => decide (x ≠ 0) } }
    sparing.runs .s0 = true ∧ d.lanes.swapWant.contains 0 = true ∧ d.swapFor 0 = none ∧ d.agushLane 0 = true ∧
      eligible e 0 = [24] := by decide +kernel

theorem wit_spare_swap :
    let x : SwapSt := ⟨0, 24, 0, true, false, true, true, some 0, none, false, false, 0⟩
    let with_ (x : SwapSt) := { sparing with st0 := { sparing.st0 with lanes := { sparing.st0.lanes with swaps := [x] } } }
    (with_ x).runs .s0 = true ∧ ((with_ x).found (at0 0)).swapFor 0 = some x ∧ x.ready = true ∧ x.peerRdy = true ∧
      x.at_.isSome = true ∧ x.swapped = false ∧
      ((with_ { x with swapped := true }).found (at0 0)).swapFor 0 = some { x with swapped := true } ∧
      ((with_ { x with ready := false }).found (at0 (msTime 1))).swapFor 0 = some { x with ready := false } ∧
      x.start + msTime 1 ≤ ((with_ { x with ready := false }).found (at0 (msTime 1))).now := by decide +kernel

theorem wit_ethernet :
    let s := st0 fun d => ((ethLanes d).put 0x3400 4 (1 + 4 * 16)).put 0x3400 5 (1 + 5 * 16)
    let u := { s with st0 := s.st0.put 0x3401 4 1 }
    let d := s.found (at0 0)
    s.runs .s0 = true ∧ u.runs .s0 = true ∧ (u.found (at0 0)).getBit 0x3401 4 0 = true ∧
      ptpPayload ((u.found (at0 0)).ethPort 4) (zeros 64) = none ∧ d.getBit 0x3401 4 0 = false ∧ bit (d.ethPort 4) 0 = true ∧
      (portLanes (d.ethPort 4)).contains 4 = true ∧ sparesFor d 4 = [24, 25] := by decide +kernel

theorem wit_jesd_link :
    let s := st0 fun d => d.put 0x3600 7 1
    let u := { s with st0 := s.st0.put 0x3601 7 1 }
    s.runs .s0 = true ∧ bit ((s.found (at0 0)).jesd 7) 0 = true ∧ (s.found (at0 0)).getBit 0x3601 7 0 = false ∧
      bit ((u.found (at0 0)).jesd 7) 0 = true ∧ (u.found (at0 0)).getBit 0x3601 7 0 = true := by decide +kernel

/-- A Sync from the port of input 8, and a CRC error with sixteen before it within 1 ms. -/
theorem wit_ethernet_ptp :
    let m := zeros 12 ++ [0x88#8, 0xF7#8] ++ zeros 44
    let s := st0 fun d => (((ethLanes d).put 0x3400 4 (1 + 4 * 16 + 2 ^ 9)).put 0x3401 4 1).put 0x2001 8 (1 + 4 * 256)
    let d := s.found (at0 0)
    s.runs .s0 = true ∧ d.getBit 0x3401 4 0 = true ∧ ptpPayload (d.ethPort 4) m = some (m.drop 14) ∧
      bit (d.refCfg 8) 0 = true ∧ bits (d.refCfg 8) 8 7 = 4 ∧ netField (m.drop 14) 0 1 % 16 = 0 := by decide +kernel

theorem wit_jesd_crc :
    let times := List.replicate 16 5
    let s := st0 fun d => { (d.put 0x3600 7 1).put 0x3601 7 1 with
      lanes := { d.lanes with jesdCrc := smSet (fun _ => ([] : List Nat)) [] 7 times } }
    let d := s.found (at0 9)
    let recent (d : Strand) :=
      (smGet (fun _ => ([] : List Nat)) d.lanes.jesdCrc 7).filter fun t => decide (d.now < t + msTime 1)
    s.runs .s0 = true ∧ bit (d.jesd 7) 0 = true ∧ 16 ≤ (recent d).length ∧
      (recent (s.found (at0 (2 ^ 48)))).length < 16 := by decide +kernel

/-! ### Time (10_timing.md) -/

/-- Inputs 0 and 8 configured, input 0 a candidate since time 0. -/
def timed : State := st0 fun d =>
  let d := ((d.put 0x2001 0 1).put 0x2001 3 1).put 0x2001 2 (1 + 16)
  { d with tm := { d.tm with candSince := [(0, 1)] } }

theorem wit_inputs :
    let d := timed.found (at0 0)
    let e := timed.found (at0 (msTime 60000))
    timed.runs .s0 = true ∧ bit (d.refCfg 0) 0 = true ∧ bit (d.refCfg 3) 0 = true ∧ refPresent d 0 = true ∧
      smGet zeroAt d.tm.candSince 0 ≠ 0 ∧ d.isQual 0 = false ∧
      smGet zeroAt e.tm.candSince 0 - 1 + msTime (e.get 0x2005 0x01) ≤ e.now ∧
      d.now < smGet zeroAt d.tm.candSince 0 - 1 + msTime (d.get 0x2005 0x01) ∧ smGet zeroAt d.tm.candSince 8 = 0 ∧
      d.tm.target = none ∧ d.get 0x2000 0x05 ≠ 2 := by decide +kernel

/-- A PPS edge one second after the last, one half a second after it, and the first one. -/
theorem wit_pps_window :
    let s := st0 fun d => { d.put 0x2001 3 1 with tm := { d.tm with candSince := [(3, 1)] } }
    let d := s.found (at0 (2 ^ 48))
    let e := s.found (at0 (2 ^ 47))
    let off (d : Strand) : Nat :=
      ((d.sageBase + (d.now : Int)) - smGet (fun _ => (0 : Int)) d.tm.edgeAt 3 - (2 ^ 48 : Nat)).natAbs
    s.runs .s0 = true ∧ bit (d.refCfg 3) 0 = true ∧ smGet zeroAt d.tm.candSince 3 ≠ 0 ∧
      off d * 1000000 ≤ d.get 0x2005 0x03 * 2 ^ 48 ∧ e.get 0x2005 0x03 * 2 ^ 48 < off e * 1000000 ∧
      smGet zeroAt (State.reset.found (at0 0)).tm.candSince 3 = 0 ∧ d.tm.target ≠ some 3 ∧ d.get 0x2000 0x05 ≠ 2 := by
  decide +kernel

theorem wit_frequency :
    let d := timed.found (at0 0)
    let e := { d with tm := { d.tm with freqPpb := smSet (fun _ => (0 : Int)) d.tm.freqPpb 0 5
                                        measured := (0 :: d.tm.measured).dedup } }
    timed.runs .s0 = true ∧ d.get 0x2005 0x03 * 1000 < (1000000000 : Int).natAbs ∧
      ((d.get 0x2005 0x03 * 1000 : Nat) : Int).natAbs ≤ d.get 0x2005 0x03 * 1000 ∧ 0 ≠ d.refSel ∧ d.tm.disPairs = [] ∧
      disputesAfter { timed.pkg with out := [] } e 0 = [] := by decide +kernel

/-- Inputs 0 and 3 of rank 0, which disagree. -/
def disputing : Strand := let d := timed.st0
  { d with tm := { d.tm with candSince := [(0, 1), (3, 1)], disPairs := [(0, 3, 0)] } }

theorem wit_selection :
    (refGroup State.reset.pkg timed.st0).contains 0 = true ∧ chooseRef State.reset.pkg timed.st0 5 = some 0 ∧
      (refGroup State.reset.pkg disputing).contains 5 = false ∧
      groupDisputes disputing (refGroup State.reset.pkg disputing) = true := by decide +kernel

theorem wit_timing_writes :
    let s := st0 fun d => let d := (d.put 0x2000 0x04 2).put 0x2006 0x01 0
      { d with tm := { d.tm with qualified := [2] } }
    let d := s.found (at0 0)
    let soft := st0 fun d => d.put 0x2006 0x01 1
    s.takes (at0 0) .host 0x2001 3 = true ∧ bits (d.refCfg 3) 8 7 = 0 ∧ s.takes (at0 0) .host 0x2005 0x01 = true ∧
      perSecondOk (d.get 0x3004 0x02) 60000 = true ∧ s.takes (at0 0) .host 0x2005 0x0B = true ∧
      s.takes (at0 0) .host 0x2005 0x0A = true ∧ todPps d = some 2 ∧ d.isQual 2 = true ∧ 1 = nextSecond d ∧
      todPps State.reset.st0 = none ∧ State.reset.takes (at0 0) .host 0x2005 0x0A = true ∧
      (toSigned 64 (2 ^ 64 - 56294995342)).natAbs ≤ 56294995342 ∧ s.takes (at0 0) .host 0x2006 0x02 = true ∧
      d.get 0x2006 0x01 ≠ 1 ∧ s.takes (at0 0) .host 0x2006 0x01 = true ∧ s.takes (at0 0) .host 0x2006 0x04 = true ∧
      d.get 0x2006 0x01 = 0 ∧ d.regsOk = true ∧ soft.takes (at0 0) .host 0x2006 0x03 = true ∧
      (soft.found (at0 0)).get 0x2006 0x01 = 1 := by decide +kernel

theorem wit_timing_states :
    let s := st0 fun d => d.put 0x2000 0x01 1
    let m := { s with pkg := { s.pkg with straps := { s.pkg.straps with tm := true } } }
    let k := { s with st0 := { s.st0 with tm := { s.st0.tm with todKnown := true, narrow := 15, inRange := 1 } } }
    let h := st0 fun d => let d := d.put 0x2000 0x01 3; { d with tm := { d.tm with holdU0 := 2 ^ 40 } }
    let t := st0 fun d => let d := d.put 0x2000 0x05 2; { d with tm := { d.tm with target := some 3 } }
    let u := st0 fun d => let d := d.put 0x2000 0x05 2; { d with tm := { d.tm with target := some 3, slewLeft := 2 ^ 60 } }
    let q := st0 fun d => let d := d.put 0x2000 0x05 1; { d with tm := { d.tm with target := some 3, qualified := [3] } }
    let o := st0 fun d => d.put 0x2000 0x01 3
    (s.found (at0 0)).timeState = 1 ∧ todKnown (s.found (at0 0)) = false ∧ s.runs .s0 = true ∧ m.runs .s0 = true ∧
      m.pkg.straps.tm = true ∧ (m.found (at0 0)).tm.narrow < 15 ∧ k.runs .s0 = true ∧ (k.found (at0 0)).timeState = 1 ∧
      todKnown (k.found (at0 0)) = true ∧ 15 ≤ (k.found (at0 0)).tm.narrow ∧ inRange4 (k.found (at0 (2 ^ 51))) = true ∧
      inRange4 (k.found (at0 0)) = false ∧ (m.found (at0 0)).timeState = 1 ∧
      (m.found (at0 (2 ^ 51))).tm.acqAt + secTime (2 * ((m.found (at0 (2 ^ 51))).tm.narrow + 1)) ≤ 2 ^ 51 ∧ h.runs .s0 = true ∧
      (h.found (at0 0)).timeState = 3 ∧ (h.found (at0 0)).get 0x2000 0x05 ≠ 2 ∧
      (h.found (at0 0)).get 0x2005 0x05 < holdModel (h.found (at0 0)) 0 ∧ (o.found (at0 0)).timeState = 3 ∧
      holdModel (o.found (at0 0)) 0 ≤ (o.found (at0 0)).get 0x2005 0x05 ∧ t.runs .s0 = true ∧
      (t.found (at0 0)).tm.target = some 3 ∧ (t.found (at0 0)).get 0x2000 0x05 = 2 ∧
      slewRest (t.found (at0 0)) ≤ halfPs (lockNs 3) ∧ halfPs (lockNs 3) < slewRest (u.found (at0 0)) ∧
      (u.found (at0 0)).tm.target = some 3 ∧ u.runs .s0 = true ∧
      (h.found (at0 0)).get 0x2006 0x01 ≠ 1 ∧ (q.found (at0 0)).tm.target = some 3 ∧
      (q.found (at0 0)).get 0x2000 0x05 = 1 ∧ (q.found (at0 0)).isQual 3 = true ∧
      ((0 : Int).natAbs : Int) ≤ halfPs ((q.found (at0 0)).get 0x2005 0x08) := by decide +kernel

theorem wit_ptp_and_pins :
    let s := st0 fun d => ((((d.put 0x3400 0 (1 + 2 ^ 9)).put 0x3401 0 1).put 0x2001 8 1).put 0x2008 0x01 3)
    let d := s.found (at0 0)
    let m : PtpMsg := { domain := bits (d.get 0x2007 0x01) 0 7, clockClass := 0, ptpTimescale := true, timedOut := false, offsetPs := 40 }
    s.runs .s0 = true ∧ d.sageUp = true ∧ refPresent d 8 = true ∧ m.domain = bits (d.get 0x2007 0x01) 0 7 ∧
      (m.timedOut || !m.ptpTimescale || decide (d.get 0x2007 0x03 < m.clockClass)) = false ∧
      (let m := { m with timedOut := true }; (m.timedOut || !m.ptpTimescale || decide (d.get 0x2007 0x03 < m.clockClass)) = true) ∧
      127 ≠ bits (d.get 0x2007 0x01) 0 7 ∧ d.getBit 0x3401 (bits (d.refCfg 8) 8 7) 0 = true ∧ d.tm.pinHeld = false ∧
      d.getBit 0x2008 0x01 0 = true ∧ d.getBit 0x2008 0x01 1 = true ∧ (State.reset.found (at0 0)).getBit 0x2008 0x01 0 = false ∧
      d.tm.ppsFin = 0 ∧ d.tm.epochFin = 0 := by
  decide +kernel

theorem wit_boundary : State.reset.runs .s0 = true ∧ (State.reset.found (at0 1)).now % 2 ^ 38 ≠ 0 ∧
    (State.reset.found (at0 (2 ^ 38))).now % 2 ^ 38 = 0 := by decide +kernel

theorem wit_due_writes :
    let x : PendWrite := ⟨1, locKey 0x7801 3, 5⟩
    let d := { State.reset.st0 with pendW := [x], now := 2 ^ 38 }
    (∀ x ∈ d.pendW, epochOf (2 ^ 38 - 1) < x.due) ∧ d.pendW = [x] ∧ x.due ≤ epochOf d.now ∧ x.key = locKey 0x7801 3 ∧ x.val = 5 ∧ d.regsOk = true := by
  decide +kernel

/-! ### Host port (11_host_port.md) -/

/-- The link up, strand 0 changed. -/
def host0 (f : Strand → Strand) : State := { st0 f with pkg := { State.reset.pkg with hpUp := true } }

theorem wit_window :
    let x : Window := { addr := 0x010000 + 0x2850, len := 1 }
    let s := host0 fun d => { d with host := { d.host with win := x } }
    let b := host0 fun d => { d with host := { d.host with win := { x with busy := true } } }
    let p := { s with pkg := { s.pkg with win4 := { x with busy := true } } }
    let g := { s.pkg with out := [] }
    let r := winAccess g (s.found (at0 0)) .host x
    let q := winAccess g (s.found (atZero (at0 0))) .pf4 s.pkg.win4
    s.ready = true ∧ hostOn s.pkg = true ∧ (s.strand .s0).inReset = false ∧ (s.found (at0 0)).host.win.busy = false ∧
      b.ready = true ∧ (b.found (at0 0)).host.win.busy = true ∧ (b.found (at0 0)).host.win.pendRes ≠ 0xFF ∧
      winOffset 0 = true ∧ roOffset 0x000C = true ∧ s.pkg.win4.busy = false ∧ p.pkg.win4.busy = true ∧ p.pkg.win4.pendRes ≠ 0xFF ∧ s.awake = true ∧
      r.1 = g ∧ r.2.still = true ∧ r.2.sleep = 0 ∧ q.1.newId = none ∧ q.1.domain 0x40 = 2 ∧ q.1.domain 0x41 ≠ 0 ∧
      q.2.still = true ∧ q.2.sleep = 0 := by decide +kernel

/-- A descriptor: sequence, opcode, index, subindex, length and host address, then data. -/
def desc (seq op index sub len addr : Nat) (x : List Byte) : List Byte :=
  natToBytes 4 seq ++ natToBytes 4 op ++ natToBytes 2 index ++ natToBytes 2 sub ++ natToBytes 4 len ++ natToBytes 8 addr ++
    zeros 8 ++ x

/-- The command queue on, with two descriptors of which one has been taken. -/
def ringed (b : Option (List Byte)) (done : Bool) : State := host0 fun d =>
  let d := (d.put 0x1100 0x03 1).put 0x1100 0x05 2
  { d with host := { d.host with cmd := { d.host.cmd with cur := b, executed := done } } }

theorem wit_doorbell :
    let s := host0 fun d => d.put 0x1100 0x02 4
    let d := s.found (at0 0)
    s.runs .s0 = true ∧ hostOn s.pkg = true ∧ serialSub 32 16 (d.get 0x1100 0x05) < 2 ^ 31 ∧
      serialSub 32 16 (d.get 0x1100 0x04) ≤ 2 ^ d.get 0x1100 0x02 ∧ 2 ^ d.get 0x1100 0x02 < serialSub 32 17 (d.get 0x1100 0x04) := by
  decide +kernel

theorem wit_fetch :
    let s := ringed none false
    let t := { s with st0 := { s.st0 with host := { s.st0.host with cmd := { s.st0.host.cmd with tries := 8 } } } }
    let d := s.found (at0 0)
    s.runs .s0 = true ∧ hostOn s.pkg = true ∧ d.get 0x1100 0x03 = 1 ∧ d.getBit 0x1100 0x06 2 = false ∧
      d.get 0x1100 0x04 ≠ d.get 0x1100 0x05 ∧ d.host.cmd.cur = none ∧
      fieldAt (desc 0 1 0 0 0 0 []) 0 4 = d.get 0x1100 0x04 ∧ (t.found (at0 0)).host.cmd.tries = 8 ∧
      fieldAt (desc 5 1 0 0 0 0 []) 0 4 ≠ (t.found (at0 0)).get 0x1100 0x04 := by decide +kernel

theorem wit_data_commands :
    let nop := desc 0 1 0 0 0 0 []
    let wr := desc 0 2 0x6810 0x06 2 0 [1, 0]
    let rd := desc 0 3 0x6810 0x06 2 0x10000 []
    let ld := desc 0 4 0 0 8 0x10000 []
    let ds := desc 0 5 0x6810 0x06 16 0x10000 []
    let short := desc 0 2 0x6810 0x06 257 0 []
    let s (b : List Byte) := ringed (some b) false
    let d (b : List Byte) := (s b).found (at0 0)
    let fits (b : List Byte) := inR 1 256 (descLen b) = true ∧ descAddr b % 8 = 0
    (s nop).runs .s0 = true ∧ hostOn (s nop).pkg = true ∧ (d nop).host.cmd.cur = some nop ∧
      (d nop).host.cmd.executed = false ∧ descOp nop = 1 ∧ descOp short = 2 ∧ dictBusy (d short) = false ∧
      (s short).awake = true ∧ inR 1 256 (descLen short) = false ∧ descOp wr = 2 ∧ fits wr ∧
      (match cmdData (d wr) wr .failed with | .ok x => decide (x = [1, 0]) | .error _ => false) = true ∧
      descOp rd = 3 ∧ fits rd ∧ descOp ld = 4 ∧ descLen ld = 8 ∧ inR 8 16777216 (descLen ld) = true ∧
      descAddr ld % 8 = 0 ∧ shadowBusy (d ld) = false ∧ fieldAt ld 24 4 = 0 ∧ (d ld).host.cmd.noHost = false ∧
      descOp ds = 5 ∧ descLen ds = 16 ∧ (dictFind (descLoc ds).1 (descLoc ds).2).isSome = true := by decide +kernel

theorem wit_dict_write :
    let wr := desc 0 2 0x6810 0x06 2 0 [1, 0]
    let s := ringed (some wr) false
    let g := { s.pkg with out := [] }
    ((dictFind 0x6810 0x06).any fun r =>
      let p := writeGranted g (s.found (at0 0)) .host r (descLoc wr).1 (descLoc wr).2 [1, 0]
      decide (p.1 = g ∧ p.2.still = true ∧ p.2.sleep = 0)) = true := by decide +kernel

theorem wit_dict_read :
    let rd := desc 0 3 0x6810 0x06 2 0x10000 []
    let s := ringed (some rd) false
    let g := { s.pkg with out := [] }
    ((dictFind 0x6810 0x06).any fun r =>
      let e := readGranted g (s.found (at0 0)) .host r (descLoc rd).1 (descLoc rd).2 (descLen rd)
      decide (e.still = true ∧ e.resp.code = 0 ∧ e.host = (s.found (at0 0)).host)) = true := by decide +kernel

theorem wit_load_while_checking :
    let ld := desc 0 4 0 0 8 0x10000 []
    let s := ringed (some ld) false
    let c := { s with st0 := s.st0.put 0x6000 0x05 2 }
    shadowBusy (c.found (at0 0)) = true ∧ (c.found (at0 0)).host.cmd.cur = some ld := by decide +kernel

theorem wit_complete :
    let b := desc 0 1 0 0 0 0 []
    let s := ringed (some b) true
    let d := s.found (at0 0)
    s.runs .s0 = true ∧ d.host.cmd.cur = some b ∧ d.host.cmd.executed = true ∧ d.host.cmd.result ≠ 0xFF ∧
      d.host.cmd.writes = [] ∧ bit (fieldAt b 5 1) 0 = false ∧ (State.reset.found (at0 0)).host.cmd.cur = none := by
  decide +kernel

theorem wit_queue_enables :
    let s := host0 fun d => d.put 0x1101 0x04 5
    let d := s.found (at0 0)
    s.takes (at0 0) .host 0x1100 0x03 = true ∧ s.takes (at0 0) .host 0x1101 0x03 = true ∧ d.host.held = [] ∧
      s.runs .s0 = true ∧ hostOn s.pkg = true ∧
      serialSub 32 5 (d.get 0x1101 0x05) ≤ serialSub 32 (d.get 0x1101 0x04) (d.get 0x1101 0x05) ∧
      serialSub 32 (d.get 0x1101 0x04) (d.get 0x1101 0x05) < serialSub 32 6 (d.get 0x1101 0x05) := by decide +kernel

/-- DMA channel 15 on, with a packet in hand. -/
def dmaing : State := host0 fun d =>
  let d := (((d.put 0x700F 0x0B 1).put 0x700F 0x03 4096).put 0x700F 0x05 4).put 0x700F 0x07 3
  (d.setDma 15 { ({} : DmaCh) with recs := [64, 64, 64], used := 192, off := 192 }).setOutput ⟨2, 15⟩
    { d.output ⟨2, 15⟩ with tx := some ⟨0, [], zeros 48, 0⟩ }

theorem wit_dma :
    let s := dmaing
    let d := s.found (at0 0)
    let u := { s with st0 := (s.st0.setDma 15 { s.st0.dmaCh 15 with used := 4096 }).put 0x700F 0x0B 3 }
    let e := u.found (at0 0)
    s.runs .s0 = true ∧ d.dmaOn 15 = true ∧ s.pkg.hpUp = true ∧ (d.output ⟨2, 15⟩).tx = some ⟨0, [], zeros 48, 0⟩ ∧
      (dmaPlace d 15 (16 + (dmaBody (d.dmaCfg 15) ((zeros 48).drop 16)).length)).isSome = true ∧
      u.runs .s0 = true ∧ e.dmaOn 15 = true ∧ (e.output ⟨2, 15⟩).tx = some ⟨0, [], zeros 48, 0⟩ ∧ e.getBit 0x700F 0x0B 1 = true ∧
      dmaPlace e 15 (16 + (dmaBody (e.dmaCfg 15) ((zeros 48).drop 16)).length) = none ∧ hostOn s.pkg = true ∧
      d.getBit 0x700F 0x0B 1 = false ∧
      serialSub 32 3 (d.get 0x700F 0x08) ≤ serialSub 32 (d.get 0x700F 0x07) (d.get 0x700F 0x08) ∧
      serialSub 32 (d.get 0x700F 0x07) (d.get 0x700F 0x08) < serialSub 32 4 (d.get 0x700F 0x08) ∧
      (d.dmaCh 15).firstAt = none ∧ d.dmaOn 0 = false := by decide +kernel

theorem wit_dma_cfg :
    let c := 1 * 2 ^ 16 + 2 ^ 24 + 2 ^ 9
    let s := host0 fun d => (d.put 0x7003 0x01 c).setDma 3 { d.dmaCh 3 with firstAt := some 0 }
    let u := { s with st0 := s.st0.put 0x7003 0x01 (c + 1) }
    let d := s.found (at0 (usTime 1))
    s.runs .s0 = true ∧ (d.dmaCh 3).firstAt = some 0 ∧ bits (d.dmaCfg 3) 24 8 ≠ 0 ∧
      0 + usTime (bits (d.dmaCfg 3) 24 8) ≤ d.now ∧ bit (d.dmaCfg 3) 9 = true ∧ s.takes (at0 0) .host 0x7003 0x01 = true ∧
      u.takes (at0 0) .host 0x7003 0x01 = true ∧ dmaCfgOk 0 = false ∧ dmaCfgOk c = true ∧ bit (d.dmaCfg 3) 0 = false ∧
      bit ((u.found (at0 0)).dmaCfg 3) 0 = true ∧ (c + 2 ^ 17) / 2 ≠ (u.found (at0 0)).dmaCfg 3 / 2 ∧ bit c 0 = false ∧
      (let e := dmaEnable (((s.found (at0 0)).answer 0xFF).put 0x7003 0x01 (c + 1)) 3; e.still = true ∧ e.sleep = 0) := by
  decide +kernel

theorem wit_link :
    let s := host0 id
    s.ready = true ∧ s.pkg.hpUp = true ∧ State.reset.ready = true ∧ State.reset.pkg.hpUp = false ∧
      (let p := pkg0 fun g => { g with perstN := true }; p.ready = true ∧ p.pkg.perstN = true ∧ p.pkg.domain 0x40 = 2) := by
  decide +kernel

theorem wit_aperture :
    let s := host0 id
    let t := host0 fun d => d.put 0xF000 0x01 1
    s.runs .s0 = true ∧ hostOn s.pkg = true ∧ t.runs .s0 = true ∧ (t.found (at0 0)).get 0xF000 0x01 = 1 ∧
      0xFFFFF + 1 ≤ 0x100000 ∧ (s.found (at0 0)).get 0xF000 0x01 ≠ 1 := by decide +kernel

/-- A command of the command engine whose write the matrix cuts off (R347). -/
theorem wit_matrix_master :
    let s := ringed (some (desc 0 2 0x6810 0x06 2 0 [1, 0])) false
    let d := s.found (at0 0)
    s.runs .s0 = true ∧ d.host.cmd.cur.isSome = true ∧ d.host.cmd.executed = false := by decide +kernel

/-! ### Management and the Lanyard (12_management.md) -/

theorem wit_dictionary_checks :
    let s := State.reset
    let d := s.found (at0 0)
    let g := { s.pkg with out := [] }
    let down := st0 fun d => { d with mgmt := { d.mgmt with bootUntil := 1 } }
    let held := st0 fun d => { d with mgmt := { d.mgmt with queue := [askFor 4 .host 1 0x6810 0x06 2 []] } }
    let row (i x : Nat) (p : DictRow → Bool) : Bool := (findEntry .host i x).any p
    s.ready = true ∧ s.awake = true ∧ reachable d 0x6810 0x06 true = true ∧ down.ready = true ∧ down.awake = true ∧
      reachable (down.found (at0 0)) 0x6810 0x06 true = false ∧ findEntry .host 0x0FFF 0 = none ∧
      reachable d 0x0FFF 0 true = true ∧ held.ready = true ∧ held.awake = true ∧
      row 0x1201 0x01 (fun r => !(d.granted .host 0x1201 0x01 r.level true)) = true ∧
      row 0x6810 0x06 (fun r => (held.found (at0 0)).granted .host 0x6810 0x06 r.level true &&
        mustWait (held.found (at0 0)) 0x6810 0x06) = true ∧
      row 0x5000 0x01 (fun r => d.granted .host 0x5000 0x01 r.level true && decide (r.access = 0) &&
        !(mustWait d 0x5000 0x01)) = true ∧
      row 0x6810 0x06 (fun r => decide (r.access ≠ 0) && !(lengthOk r 3)) = true ∧
      row 0x5100 0x0E (fun r => decide (r.access ≠ 0) && lengthOk r 1 && !(typeOk r [2])) = true ∧
      row 0x5001 0x02 (fun r => decide (r.access ≠ 0) && lengthOk r 2 && typeOk r [1, 1] &&
        (let x := entryWrite g ((noteLevel d .host r).answer 0xFF) .host 0x5001 0x02 [1, 1]
         decide (x.1.newId = none ∧ x.1.domain 0x40 ≠ 0 ∧ x.1.domain 0x41 ≠ 0 ∧ x.2.still = true ∧ x.2.sleep = 0))) = true := by
  decide +kernel

theorem wit_protection :
    let d := State.reset.st0
    let e := d.put 0x1200 31 (1 + 2 ^ 2 + 2 ^ 10 + 0x7000 * 2 ^ 16 + 0x7000 * 2 ^ 32)
    let none_ := (List.range 32).foldl (fun e n => e.put 0x1200 n 0) d
    openLoc 0x11FF 1 = false ∧ openLoc 0x1300 0 = false ∧ d.hasSession .host = false ∧
      ((List.range 32).find? fun n => protDecides (d.protEntryOf n) .host 0x11FF).isSome = true ∧
      protDecides (e.protEntryOf 31) .host 0x7000 = true ∧
      ((List.range 32).all fun n => !(protDecides (none_.protEntryOf n) .host 0x1300)) = true := by decide +kernel

/-- A request of node 2 of device 5 to strand 0 of device 257. -/
def lyd (type index sub len : Nat) (x : List Byte) (seq : Nat) : LydFrame :=
  { type := type, resp := false, srcExt := false, allStrands := false, dstDev := 257, dstStrand := 0, srcStrand := 2,
    srcDev := 5, seq := seq, index := index, subindex := sub, status := 0, len := len, payload := x }

/-- The part has device ID 257; the table holds a request of sequence 65535. -/
def node (resp : List Byte) : State :=
  { st0 fun d => { d with mgmt := { d.mgmt with table := [⟨.lyd false 5 2, 65535, resp⟩] } } with
    pkg := { State.reset.pkg with devId := some 257 } }

theorem wit_lanyard :
    let s := node [0, 1]
    let d := s.found (at0 0)
    let g := { s.pkg with out := [] }
    let isNew (f : LydFrame) : Bool := d.mgmt.table.all fun e => !(decide (e.rq = frameRequester f)) ||
      decide (serialSub 16 f.seq e.seq ≠ 0 ∧ serialSub 16 f.seq e.seq ≤ 32767)
    let takes (f : LydFrame) : Bool := takesIn g d f && isNew f && !(lydFull d f)
    let code (f : LydFrame) : Nat := match arriveAs (tableTake d (frameRequester f) f.seq) (frameRequester f) f.type f.index f.subindex with
      | .ok _ => 0 | .error c => c
    s.ready = true ∧ s.awake = true ∧ takesIn State.reset.pkg State.reset.st0 (lyd 1 0x6810 0x06 2 [] 0) = false ∧
      takes (lyd 1 0x6810 0x06 2 [] 0) = true ∧ takes (lyd 2 0x6810 0x06 2 [1, 0] 32766) = true ∧
      takes (lyd 3 0x6810 0x06 16 [] 0) = true ∧ code (lyd 1 0x0FFF 0 2 [] 0) = 3 ∧ code (lyd 2 0x1201 1 2 [] 0) = 4 ∧
      code (lyd 1 0x6810 0x06 2 [] 0) = 0 ∧ code (lyd 2 0x5001 0x02 2 [1, 1] 0) = 0 ∧ code (lyd 3 0x6810 0x06 16 [] 0) = 0 ∧
      mustWait d 0x6810 0x06 = false ∧ takesIn g d (lyd 1 0x6810 0x06 2 [] 65535) = true ∧
      (d.mgmt.table.find? fun e => decide (e.rq = frameRequester (lyd 1 0x6810 0x06 2 [] 65535))) = some ⟨.lyd false 5 2, 65535, [0, 1]⟩ ∧
      (((node []).found (at0 0)).mgmt.table.find? fun e => decide (e.rq = frameRequester (lyd 1 0x6810 0x06 2 [] 65535))) =
        some ⟨.lyd false 5 2, 65535, []⟩ ∧
      32767 < serialSub 16 (lyd 1 0x6810 0x06 2 [] 32767).seq 65535 := by decide +kernel

theorem wit_lanyard_full :
    let s := { node [] with st0 := { (node []).st0 with mgmt := { (node []).st0.mgmt with
      queue := List.replicate 32 (askFor 0 .host 1 0x6810 0x06 2 []) } } }
    takesIn { s.pkg with out := [] } (s.found (at0 0)) (lyd 1 0x6810 0x06 2 [] 0) = true ∧
      lydFull (s.found (at0 0)) (lyd 1 0x6810 0x06 2 [] 0) = true := by decide +kernel

theorem wit_lanyard_results :
    let s := node []
    let d := s.found (at0 0)
    let g := { s.pkg with out := [] }
    let rd := lyd 1 0x6810 0x06 2 [] 0
    let wr := lyd 2 0x5001 0x02 2 [1, 1] 0
    ((dictFind 0x6810 0x06).any fun r =>
      let e := readGranted g (tableTake d (frameRequester rd) 0) (frameRequester rd) r 0x6810 0x06 2
      decide (e.resp.code ≠ 0xFF ∧ e.still = true)) = true ∧
    ((dictFind 0x5001 0x02).any fun r =>
      let x := writeGranted g (tableTake d (frameRequester wr) 0) (frameRequester wr) r 0x5001 0x02 [1, 1]
      decide (x.2.resp.code ≠ 0xFF ∧ x.1.newId = none ∧ x.1.domain 0x40 ≠ 0 ∧ x.1.domain 0x41 ≠ 0 ∧ x.2.still = true ∧
        x.2.sleep = 0)) = true := by decide +kernel

theorem wit_lanyard_old :
    let s := { node [] with st0 := { (node []).st0 with flt := { (node []).st0.flt with onceDone := [0xA5, 0xA6, 0xAC, 0xAD] } } }
    (s.found (at0 0)).flt.onceDone.contains 0xA6 = true ∧ (s.found (at0 0)).flt.onceDone.contains 0xA5 = true := by
  decide +kernel

theorem wit_broadcast :
    let s := node []
    let d := s.found (at0 0)
    let f := lyd 4 0x0FFF 0 2 [1, 1] 0
    let down := st0 fun d => { d with mgmt := { d.mgmt with bootUntil := 1 } }
    s.ready = true ∧ s.awake = true ∧ d.sageUp = true ∧ f.resp = false ∧ s.pkg.devId.isSome = true ∧ f.dstStrand = d.id.num ∧
      lydFull d f = false ∧ (match arriveAs (d.bump 0x1141 0x08 1) (frameRequester f) 4 f.index f.subindex with
        | .ok _ => false | .error c => decide (c = 3)) = true ∧ State.reset.pkg.devId = none ∧
      (down.found (at0 0)).sageUp = false ∧ lydParse [] = none := by decide +kernel

theorem wit_bypass : (pkg0 fun g => { g with powered := false }).pkg.inHold = true ∧
    (pkg0 fun g => { g with testEn := true }).pkg.inHold = true := by decide +kernel

theorem wit_forwarded :
    let b0 := lydBytes (lyd 8 0 0 0 [] 0)
    let b1 := lydBytes { lyd 1 0x6810 0x06 2 [] 0 with dstStrand := 3, len := 0 }
    ((lydParse b0).any fun p => decide (8 ≤ p.type)) = true ∧
      ((lydParse b1).any fun p => decide (p.type = 1 ∧ p.dstStrand ≠ State.reset.st0.id.num)) = true := by decide +kernel

/-- A part that is a head of a segment. -/
def headed (up : Nat) : State := { st0 fun d => { d with now := 0 } with
  pkg := { State.reset.pkg with straps := { State.reset.pkg.straps with head := true }, lastEnum := some up } }

/-- An ENUM frame of a segment and position, or a report of a reason. -/
def enum_ (seg pos : Nat) (serial : Nat) : LydFrame := lyd 5 0 0 16 (natToBytes 1 seg ++ natToBytes 2 pos ++ zeros 5 ++ natToBytes 8 serial) 0

theorem wit_enumeration :
    let s := State.reset
    let h := headed 0
    let c := { h with pkg := { h.pkg with conflict := true } }
    let started := { s with pkg := { s.pkg with firstEnum := true } }
    s.ready = true ∧ h.ready = true ∧ s.st0.id = .s0 ∧ (s.found (at0 0)).sageUp = true ∧ s.pkg.straps.head = false ∧
      fieldAt (enum_ 1 255 0).payload 1 2 = 255 ∧ fieldAt (enum_ 1 0 0).payload 1 2 = 0 ∧ fieldAt (enum_ 1 256 0).payload 1 2 = 256 ∧
      h.pkg.straps.head = true ∧ c.pkg.conflict = true ∧ fieldAt (enum_ 3 0 0).payload 0 1 = 3 ∧
      (h.pkg.lastEnum.getD 0) + secTime 1 ≤ (h.found (at0 (secTime 1))).sage ∧ h.pkg.firstEnum = false ∧
      msTime 500 ≤ (h.found (at0 (msTime 500))).sage ∧ started.pkg.firstEnum = true ∧
      c.takes (at0 0) .host 0x1140 0x06 = true ∧ s.takes (at0 0) .host 0x1140 0x06 = true ∧ s.pkg.conflict = false ∧
      s.pkg.devId = none ∧ (s.pkg.lastEnum.getD 0) + secTime 1 ≤ (s.found (at0 (secTime 1))).sage ∧ s.pkg.reported = none ∧
      (node []).pkg.devId.isSome = true := by decide +kernel

theorem wit_beacons :
    let s := State.reset
    let h := headed 0
    let d := s.found (at0 0)
    let down := st0 fun d => { d with mgmt := { d.mgmt with bootUntil := 1 } }
    let linked := pkg0 fun g => { g with upLink := true }
    let linked3 := pkg0 fun g => { g with downLink := true }
    s.ready = true ∧ d.sageUp = true ∧ s.pkg.straps.head = false ∧ (h.found (at0 0)).sageUp = true ∧ h.pkg.straps.head = true ∧
      (h.found (at0 0)).id = .s0 ∧ h.pkg.conflict = false ∧ (down.found (at0 0)).sageUp = false ∧ h.pkg.beaconAt = none ∧
      d.mgmt.noHead = false ∧ (s.found (at0 (secTime 3))).mgmt.beaconIn + secTime 3 ≤ (s.found (at0 (secTime 3))).sage ∧
      d.sage < d.mgmt.beaconIn + secTime 3 ∧ linked.pkg.upLink = true ∧ linked3.pkg.downLink = true ∧
      (linked3.found ⟨.s3, 0⟩).id = .s3 ∧ d.id ≠ edgeStrand 1 := by decide +kernel

theorem wit_beacon_serial : ∃ f, frameSerial f ≠ ((headed 0).found (at0 0)).get 0x1000 0x06 := by
  by_cases h : frameSerial (enum_ 0 0 0) = ((headed 0).found (at0 0)).get 0x1000 0x06
  · refine ⟨enum_ 0 0 1, fun h2 => ?_⟩
    have : frameSerial (enum_ 0 0 0) = frameSerial (enum_ 0 0 1) := h.trans h2.symm
    revert this; decide +kernel
  · exact ⟨_, h⟩

theorem shaTrail_length (ks : List Nat) : ∀ (w : List Nat) (t : ShaTrail), 4 ≤ t.top.length → 4 ≤ t.low.length →
    4 ≤ (shaRounds ks w t).top.length ∧ 4 ≤ (shaRounds ks w t).low.length := by
  induction ks with
  | nil => exact fun _ _ h g => ⟨h, g⟩
  | cons k ks ih => exact fun w t h g => ih _ _ (Nat.le_succ_of_le h) (Nat.le_succ_of_le g)

theorem shaBlocks_length (l : List (List Byte)) : ∀ h : List Nat, h.length = 8 → (l.foldl shaBlock h).length = 8 := by
  induction l with
  | nil => exact fun v h => h
  | cons b l ih =>
    intro h hh
    refine ih _ ?_
    unfold shaBlock
    have g := shaTrail_length (shaPrimes.map (rootBits 3)) ((chunksOf 4 16 b).map beNat)
      { top := h.take 4, low := h.drop 4 } (by simp [hh]) (by simp [hh])
    simp only [List.length_zipWith, List.length_append, List.length_take, hh]
    omega

theorem sha256_length (m : List Byte) : (sha256 m).length = 32 := by
  unfold sha256
  have h := shaBlocks_length (chunksOf 64 ((m ++ 0x80#8 :: zeros ((119 - m.length % 64) % 64) ++
    beBytes 8 (8 * m.length)).length / 64) (m ++ 0x80#8 :: zeros ((119 - m.length % 64) % 64) ++
    beBytes 8 (8 * m.length))) ((shaPrimes.take 8).map (rootBits 2)) (by decide +kernel)
  simp only [List.length_flatMap]
  rw [show (fun a : Nat => (beBytes 4 a).length) = fun _ => 4 by funext v; simp [beBytes], List.map_const', h]; rfl

/-- Any nonce has a response of 16 bytes. -/
theorem wit_response (key n : Nat) (d : Strand) (rq : Requester) : (expectedResponse key d rq n).length = 16 := by
  simp [expectedResponse, hmacSha256, sha256_length]

theorem wit_sessions :
    let keyed (f : Mgmt → Mgmt) : State := { st0 fun d => { d with
      mgmt := f d.mgmt, flt := { d.flt with onceDone := [0xAC, 0xAD] } } with pkg := { State.reset.pkg with key := some 1 } }
    let s := keyed fun m => { m with nonces := [⟨.host, 7, 0⟩] }
    let locked := keyed fun m => { m with lockUntil := some 5 }
    let third := keyed fun m => { m with fails := 2 }
    let open_ := sess State.reset
    let d := s.found (at0 (secTime 10))
    s.ready = true ∧ d.dictFree = true ∧ Requester.host ≠ .pf4 ∧ State.reset.pkg.key = none ∧ s.pkg.key = some 1 ∧
      d.lockedOut = false ∧ (locked.found (at0 0)).lockedOut = true ∧ s.awake = true ∧
      (d.mgmt.nonces.find? fun x => decide (x.rq = .host)) = some ⟨.host, 7, 0⟩ ∧ d.sage ≤ 0 + secTime 10 ∧
      (third.found (at0 0)).mgmt.nonces = [] ∧ (third.found (at0 0)).mgmt.fails + 1 = 3 ∧
      (third.found (at0 0)).flt.onceDone.contains 0xAC = true ∧ (third.found (at0 0)).flt.onceDone.contains 0xAD = true ∧
      ((open_.found (at0 0)).mgmt.sessions.find? fun y => decide (y.rq = .host)) = some ⟨.host, 0⟩ ∧
      (let e := open_.found (at0 (secTime 65535)); 0 + secTime (e.get 0x1210 0x05) ≤ e.sage) ∧
      (let e := open_.found (at0 0); e.sage < 0 + secTime (e.get 0x1210 0x05)) ∧
      (locked.found (at0 5)).mgmt.lockUntil = some 5 ∧ 5 ≤ (locked.found (at0 5)).sage ∧ (locked.found (at0 4)).sage < 5 := by
  decide +kernel

theorem wit_protection_writes :
    let s := sess State.reset
    s.takes (at0 0) .host 0x1200 31 = true ∧ protBad (0x10 * 2 ^ 16) = true ∧ protBad 0 = false ∧
      s.takes (at0 0) .host 0x1201 0x01 = true ∧
      ((List.range 32).any fun n => protBad (fieldAt (zeros 254 ++ [0, 0]) (8 * n) 8)) = false ∧
      ((List.range 32).any fun n => protBad (fieldAt (zeros 250 ++ [0, 1] ++ zeros 4) (8 * n) 8)) = true := by decide +kernel

theorem wit_otp :
    let s := sess State.reset
    let burnt := { s with pkg := { s.pkg with key := some 1 } }
    let burning := { s with pkg := { s.pkg with burnKey := some 1 } }
    let patched := { s with pkg := { s.pkg with patches := [(31, [1])], burnPatch := [(0, [1])] } }
    let once := { burning with st0 := { s.st0 with flt := { s.st0.flt with onceDone := [0xA2] } } }
    s.takes (at0 0) .host 0x1211 0x01 = true ∧ burnt.takes (at0 0) .host 0x1211 0x01 = true ∧ burnt.pkg.key.isSome = true ∧
      burning.takes (at0 0) .host 0x1211 0x01 = true ∧ burning.pkg.burnKey.isSome = true ∧ s.pkg.key = none ∧
      s.pkg.burnKey = none ∧ bytesToNat (zeros 32) = 0 ∧ s.takes (at0 0) .host 0x10C0 31 = true ∧
      smGet (fun _ => ([] : List Byte)) s.pkg.patches 31 = [] ∧ s.pkg.burnPatch = [] ∧
      patched.takes (at0 0) .host 0x10C0 31 = true ∧ smGet (fun _ => ([] : List Byte)) patched.pkg.patches 31 ≠ [] ∧
      s.ready = true ∧ burning.ready = true ∧ burning.pkg.burnKey = some 1 ∧
      (once.found (at0 0)).flt.onceDone.contains 0xA2 = true ∧ s.takes (at0 0) .host 0x1081 0x01 = true ∧ s.pkg.devId = none ∧
      (let t := { s with pkg := { s.pkg with devId := some 5 } }; t.takes (at0 0) .host 0x1081 0x01 = true ∧ t.pkg.devId.isSome = true) ∧
      smGet zeroAt (s.found (at0 0)).tm.candSince 8 = 0 := by decide +kernel

theorem wit_debug :
    let s := State.reset
    let d := s.found (at0 0)
    let g := { s.pkg with out := [], jtagIr := 0x3A, dbgReg := [] }
    let f := lyd 1 0x6810 0x06 2 [] 0
    s.ready = true ∧ s.awake = true ∧ s.pkg.domain 0x43 = 2 ∧ (s.pkg.setDomain 0x43 0).domain 0x43 ≠ 2 ∧ f.dstStrand = d.id.num ∧ d.sageUp = true ∧
      (lyd 4 0 0 0 [] 0).type = 4 ∧ mustWait d 0x6810 0x06 = false ∧
      (match arriveAs d .dbg 1 0x0FFF 0 with | .ok _ => false | .error c => decide (c ≠ 0xFF)) = true ∧
      (match arriveAs d .dbg 1 0x6810 0x06 with
        | .error _ => false
        | .ok r => let x := perform g d { port := 2, rq := .dbg, f := f } r
          decide (x.2.resp.code ≠ 0xFF ∧ x.1.newId = none ∧ x.1.domain 0x40 ≠ 0 ∧ x.1.domain 0x41 ≠ 0 ∧ x.2.still = true ∧
            x.2.sleep = 0)) = true := by decide +kernel

/-! ### Counters (R409) -/

theorem wit_counter_clears :
    let s := State.reset
    let d := s.found (at0 0)
    let t (i x : Nat) : Bool := s.takes (at0 0) .host i x
    d.regsOk = true ∧ t (0x5100 + 271) 0x0E = true ∧ t 0x5800 0x09 = true ∧ t 0x5700 0x07 = true ∧ t 0x6823 0x01 = true ∧
      t 0x7800 0x0A = true ∧ t 0x4000 0x09 = true ∧ t 0x2831 0x01 = true ∧ t (0x3100 + 25) 0x0D = true ∧
      (let e := refsRecheck { s.pkg with out := [] } ((laneCntClearOp (d.answer 0xFF) 25).answer 0x00)
       e.still = true ∧ e.sleep = 0) := by decide +kernel

/-! ### Faults and the control pair (13_faults_recovery.md) -/

theorem wit_collector :
    let d := State.reset.st0
    let wire := d.putBit 0x2810 191 3 true
    let masked := d.putBit 0x2810 0 2 true
    let full := d.put 0x2800 0x01 (2 ^ 11)
    d.regsOk = true ∧ wire.regsOk = true ∧ masked.regsOk = true ∧ full.regsOk = true ∧ bit (wire.get 0x2810 191) 3 = true ∧
      bit (masked.get 0x2810 0) 3 = false ∧ bit (masked.get 0x2810 0) 2 = true ∧ bit (d.get 0x2810 191) 3 = false ∧
      bit (d.get 0x2810 191) 2 = false ∧
      ((List.range 192).any fun k => decide (bits (d.get 0x2810 k) 0 2 = 0)) = true ∧ bits (d.get 0x2810 6) 0 2 ≠ 0 ∧
      (d.put 0x2801 0 1).getBit 0x2801 0 0 = true ∧ d.getBit 0x2800 0x01 11 = false ∧ full.getBit 0x2800 0x01 11 = true := by
  decide +kernel

theorem wit_fault_signals :
    let s := State.reset
    let d := s.found (at0 0)
    let bad := st0 fun d => d.putBit 0x2810 191 3 true
    s.ready = true ∧ d.getBit 0x2810 191 3 = false ∧ sampledSource { s.pkg with out := [] } d 191 0xFFFF = true ∧
      bad.ready = true ∧ (bad.found (at0 0)).getBit 0x2810 191 3 = true ∧ s.takes (at0 0) .host 0x2800 0x05 = true := by
  decide +kernel

theorem wit_collector_writes :
    let t (i x : Nat) : Bool := State.reset.takes (at0 0) .host i x
    t 0x2810 191 = true ∧ t 0x2810 5 = true ∧ bits 2 0 3 ≠ 3 ∧ bits 3 0 3 = 3 ∧ t (0x2820 + 11) 3 = true ∧ t 0x2820 0 = true ∧
      bit 32 5 = true ∧ bit 31 5 = false ∧ t 0x2801 11 = true ∧ t 0x2800 0x04 = true := by decide +kernel

theorem wit_err_n :
    let s := st0 fun d => let d := d.putBit 0x2840 0x03 0 true; { d with flt := { d.flt with errUntil := 5, errRelease := true } }
    let d := s.found (at0 5)
    s.takes (at0 5) .host 0x2840 0x02 = true ∧ s.takes (at0 4) .host 0x2840 0x02 = true ∧ d.getBit 0x2840 0x03 0 = true ∧
      d.flt.errUntil ≤ d.sage ∧ (s.found (at0 4)).sage < (s.found (at0 4)).flt.errUntil ∧ s.ready = true ∧
      d.flt.errRelease = true ∧ State.reset.takes (at0 0) .host 0x2840 0x02 = true ∧
      (State.reset.found (at0 0)).getBit 0x2840 0x03 0 = false ∧ (State.reset.found (at0 0)).flt.errRelease = false := by
  decide +kernel

theorem wit_ladders :
    let on (l : Ladder) : State := st0 fun d => { d with flt := { d.flt with ladders := [l] } }
    let a : Ladder := ⟨3, 7, 1, true, 0⟩
    let b : Ladder := ⟨3, 7, 1, false, 9⟩
    (on a).ready = true ∧ ((on a).found (at0 0)).ladder 3 7 = some a ∧ a.busy = true ∧ a.step ≠ 3 ∧
      ((on { a with step := 3 }).found (at0 0)).ladder 3 7 = some { a with step := 3 } ∧
      ((on b).found (at0 9)).ladder 3 7 = some b ∧ b.until_ ≤ ((on b).found (at0 9)).sage ∧
      ((on b).found (at0 8)).sage < b.until_ ∧ ((on a).found (at0 0)).ladder 3 8 = none := by decide +kernel

theorem wit_miscompare :
    let s := State.reset
    let d := s.found (at0 0)
    let x := st0 fun d => d.put 0x2850 0x01 2
    let m := st0 fun d => { d with flt := { d.flt with missAt := 1 } }
    s.runs .s0 = true ∧ d.ctrlState = 0 ∧ d.activeUnit ≤ 1 ∧ x.runs .s0 = true ∧ (x.found (at0 0)).ctrlState ≠ 0 ∧
      d.flt.missAt = 0 ∧ m.runs .s0 = true ∧ (m.found (at0 0)).flt.missAt ≠ 0 := by decide +kernel

theorem wit_units :
    let s := State.reset
    let d := s.found (at0 0)
    let b := 1 - d.activeUnit
    let f := bumpUnit d b 32 16
    let x := st0 fun d => d.put 0x2850 0x01 2
    let e := bumpUnit (x.found (at0 0)) (1 - b) 32 16
    let three := st0 fun d => setUnit d b 3
    let auto_ := st0 fun d => (setUnit d b 3).putBit 0x2850 0x03 0 true
    let four := st0 fun d => setUnit d b 4
    let copies := st0 fun d => { d with flt := { d.flt with copying := some b } }
    let test (s : State) := setLastTest { s.found (at0 0) with flt := { (s.found (at0 0)).flt with fenceAt := 0 } } b true
    s.runs .s0 = true ∧ b = 1 ∧ f.unitState b = 1 ∧ f.ctrlState = 0 ∧ x.runs .s0 = true ∧ e.unitState (1 - b) ≠ 1 ∧
      1 - b = e.activeUnit ∧ e.ctrlState ≠ 0 ∧ e.stState = 1 ∧ d.unitState b = 1 ∧ d.unitState b ≠ 3 ∧ three.runs .s0 = true ∧
      (three.found (at0 0)).unitState b = 3 ∧ (bumpUnit (three.found (at0 0)) b 32 16).unitState b ≠ 1 ∧
      b ≠ (bumpUnit (three.found (at0 0)) b 32 16).activeUnit ∧
      ((x.found (at0 0)).ctrlState ≠ 0 ∨ d.unitState b ≠ 1) ∧
      ((test three).getBit 0x2850 0x03 0 = true ∨ (test auto_).getBit 0x2850 0x03 0 = true) ∧
      ((st0 fun d => (setUnit d b 3).putBit 0x2850 0x03 0 false).found (at0 0)).getBit 0x2850 0x03 0 = false ∧
      (test three).inReset = false ∧ four.takes (at0 0) .host 0x2850 0x04 = true ∧ (four.found (at0 0)).unitState b = 4 ∧
      s.takes (at0 0) .host 0x2850 0x04 = true ∧ d.unitState b ≠ 4 ∧ (copies.found (at0 0)).flt.copying = some b ∧
      d.flt.copying = none := by decide +kernel

theorem wit_safe_and_resets :
    let s := sess State.reset
    let r := st0 fun d => d.put 0x2850 0x06 0
    s.takes (at0 0) .host 0x2850 0x07 = true ∧ s.takes (at0 0) .host 0x2850 0x08 = true ∧
      s.takes (at0 0) .host 0x2850 0x09 = true ∧ s.ready = true ∧ r.ready = true ∧
      mayStart { r.pkg with out := [] } (r.found (at0 0)) = true ∧ mayStart { s.pkg with out := [] } (s.found (at0 0)) = false ∧
      State.reset.st0.regsOk = true := by decide +kernel

theorem wit_retests :
    let s := State.reset
    let d := s.found (at0 0)
    let c := runnable.found (at0 0)
    let l := (queued 0).found (at0 0)
    let t := st0 fun d => let d := setCellState d 255 4; { d with pow := { d.pow with selfTest := [255] } }
    let u := st0 fun d => setCellState d 255 4
    let x := st0 fun d => setCellState d 255 3
    let y := st0 fun d => let d := setCellState d 255 3; { d with work := { d.work with splices := [⟨3, 3, 255, 0, 0, false, []⟩] } }
    let used (d : Strand) (n : Nat) := d.hasPlan && (List.range 256).any fun l => decide (d.physOf l / 34 = n) && imgRole d.plan.active l
    s.takes (at0 0) .host 0x2870 0x01 = true ∧ used d 7 = false ∧ runnable.takes (at0 0) .host 0x2870 0x01 = true ∧
      used c 0 = true ∧ s.takes (at0 0) .host 0x2870 0x02 = true ∧
      ((groupPairs 2).any fun k => d.laneInUse (d.laneNo k)) = false ∧ (queued 0).takes (at0 0) .host 0x2870 0x02 = true ∧
      ((groupPairs 0).any fun k => l.laneInUse (l.laneNo k)) = true ∧ t.ready = true ∧
      (t.found (at0 0)).cellState 255 = 4 ∧ (t.found (at0 0)).pow.selfTest.contains 255 = true ∧
      (u.found (at0 0)).cellState 255 = 4 ∧ (u.found (at0 0)).pow.selfTest.contains 255 = false ∧ u.ready = true ∧
      x.ready = true ∧ (x.found (at0 0)).cellState 255 = 3 ∧ (x.found (at0 0)).work.splices = [] ∧ y.ready = true ∧
      (y.found (at0 0)).cellState 255 = 3 ∧
      ((y.found (at0 0)).work.splices.any fun x => decide (x.spare = 255) || decide (x.old = 255)) = true := by decide +kernel

/-! ### Power, heat and the package (14_power_thermal_reset.md) -/

theorem wit_domains :
    let s := State.reset
    let d := s.found (at0 0)
    let on (n v : Nat) : State := st0 fun d => d.put 0x2401 n v
    let hot := st0 fun d => { d with pow := { d.pow with thermOff := [4] } }
    let needs := { runnable with st0 := (runnable.st0.put 0x2401 4 0).putBit 0x2400 0x02 0 true }
    let blind : State := { needs with pkg := needs.pkg.put 0x2601 0x01 1 }
    let lit := { needs with st0 := (needs.st0.put 0x2401 15 0) }
    let dark := { lit with pkg := lit.pkg.put 0x2601 0x01 1 }
    let late := st0 fun d => let d := d.put 0x2401 11 1; { d with pow := { d.pow with wakeBy := [(11, 7)] } }
    blind.takes (at0 0) .host 0x2402 4 = true ∧ (blind.found (at0 0)).domain 4 = 0 ∧ heldOff (blind.found (at0 0)) 4 = false ∧
      blind.pkg.get 0x2601 0x01 ≠ 0 ∧ dark.takes (at0 0) .host 0x2402 15 = true ∧ (dark.found (at0 0)).domain 15 = 0 ∧
      heldOff (dark.found (at0 0)) 15 = false ∧ dark.pkg.get 0x2601 0x01 ≠ 0 ∧ dark.ready = true ∧
      (dark.found (at0 0)).getBit 0x2400 0x02 0 = true ∧ domainNeeded (dark.found (at0 0)) 15 = true ∧
      s.takes (at0 0) .host 0x2402 15 = true ∧ d.domain 4 = 0 ∧ heldOff d 4 = false ∧ s.pkg.get 0x2601 0x01 = 0 ∧
      d.domain 15 = 2 ∧ hot.takes (at0 0) .host 0x2402 4 = true ∧ heldOff (hot.found (at0 0)) 4 = true ∧
      domainNeeded d 15 = true ∧ domainNeeded d 4 = false ∧ domainNeeded ((on 4 2).found (at0 0)) 4 = false ∧
      ((on 4 2).found (at0 0)).domain 4 ≠ 0 ∧ (on 4 2).takes (at0 0) .host 0x2402 4 = true ∧
      (let e := (domainOff (((on 4 2).found (at0 0)).answer 0xFF) 4 0).answer 0x00; e.still = true ∧ e.sleep = 0) ∧
      needs.ready = true ∧ (needs.found (at0 0)).getBit 0x2400 0x02 0 = true ∧ (needs.found (at0 0)).domain 4 = 0 ∧
      domainNeeded (needs.found (at0 0)) 4 = true ∧ heldOff (needs.found (at0 0)) 4 = false ∧ s.ready = true ∧
      (on 15 1).ready = true ∧ ((on 15 1).found (at0 0)).domain 15 = 1 ∧ ((on 3 1).found (at0 0)).domain 3 = 1 ∧
      (late.found (at0 7)).domain 11 = 1 ∧ smGet zeroAt (late.found (at0 7)).pow.wakeBy 11 ≤ (late.found (at0 7)).sage := by
  decide +kernel

theorem wit_shared_domains :
    let s (n v : Nat) : State := pkg0 fun g => g.setDomain n v
    (s 0x40 1).ready = true ∧ (s 0x43 1).pkg.domain 0x43 = 1 ∧ State.reset.pkg.domain 0x40 ≠ 1 ∧ (s 0x41 2).ready = true ∧
      (s 0x41 2).pkg.domain 0x41 = 2 ∧ (s 0x40 2).pkg.domain 0x40 = 2 ∧ (s 0x40 1).pkg.hpUp = false ∧
      (linkDownOp (s 0x40 2)).pkg.inHold = false ∧ (s 0x42 0).pkg.domain 0x42 = 0 ∧ (s 0x42 0).awake = true ∧
      ((s 0x42 0).strand .s0).sleep = 0 ∧ ((s 0x42 0).strand .s1).sleep = 0 ∧ ((s 0x42 0).strand .s2).sleep = 0 ∧
      ((s 0x42 0).strand .s3).sleep = 0 := by decide +kernel

theorem wit_phases :
    let v (x : Nat) : State := st0 fun d => d.put 0x2412 2 x
    let p (x : Nat) : State := pkg0 fun g => g.put 0x2603 1 x
    let run := { (v 3) with st0 := (v 3).st0.put 0x6000 0x06 1 }
    (v 0x103).ready = true ∧ 0 < bits (((v 0x103).found (at0 0)).get 0x2412 2) 8 8 ∧
      bits (((v 3).found (at0 0)).get 0x2412 2) 8 8 = 0 ∧ ((v 3).found (at0 0)).hasPlan = false ∧ run.ready = true ∧
      bits ((run.found (at0 0)).get 0x2412 2) 8 8 = 0 ∧ (run.found (at0 0)).hasPlan = true ∧
      0 < bits ((p 0x105).pkg.get 0x2603 (4 - 3)) 8 8 ∧ bits ((p 5).pkg.get 0x2603 (4 - 3)) 8 8 = 0 := by decide +kernel

theorem wit_heat :
    let s := State.reset
    let d := s.found (at0 0)
    let hot := st0 fun d => d.putInt 0x2411 7 16 1550
    let due := st0 fun d => { d with pow := { d.pow with restRun := 1, thermOff := [11] } }
    let e := due.found (at0 (secTime 1000))
    (s.pkg.domain 0x42 = 2) ∧ (pkg0 fun g => g.setDomain 0x42 3).ready = true ∧ (pkg0 fun g => g.setDomain 0x42 3).pkg.domain 0x42 ≠ 2 ∧
      s.ready = true ∧ readingOff d 12 200 = false ∧ d.pow.sensorBad.contains 12 = false ∧ d.pow.stripOff = false ∧
      hot.ready = true ∧ 1550 ≤ (hot.found (at0 0)).getInt 0x2411 (11 - 4) 16 ∧ (hot.found (at0 0)).pow.thermOff.contains 11 = false ∧
      d.getInt 0x2411 (11 - 4) 16 < 1550 ∧ restartDue d = false ∧ due.ready = true ∧ restartDue e = true ∧
      e.pow.thermOff.contains 11 = true ∧ e.pow.stripOff = false := by decide +kernel

theorem wit_sleep :
    let s := State.reset
    let d := s.found (at0 0)
    let asleep := st0 fun d => d.put 0x2400 0x01 1
    let e := asleep.found (at0 0)
    let run := st0 fun d => d.put 0x6000 0x06 1
    s.takes (at0 0) .host 0x2400 0x01 = true ∧ d.hasPlan = false ∧ run.takes (at0 0) .host 0x2400 0x01 = true ∧
      (run.found (at0 0)).hasPlan = true ∧ asleep.ready = true ∧ e.sleep ≠ 0 ∧ e.sageUp = true ∧ dictBusy e = false ∧
      e.granted .host 0x2400 0x01 1 true = true ∧ s.pkg.get 0x2601 0x01 = 0 := by decide +kernel

theorem wit_feeds :
    let s := State.reset
    let u := pkg0 fun g => g.setDomain 0x42 3
    let v := pkg0 fun g => { g.setDomain 0x42 3 with feeds := [.vioA], feedsLow := true }
    let bad := pkg0 fun g => g.put 0x2601 0x01 1
    let x := pkg0 fun g => { g with xinOk := false, feeds := [.vinA], feedsLow := true }
    s.pkg.domain 0x42 = 2 ∧ u.ready = true ∧ u.pkg.domain 0x42 ≠ 2 ∧ u.pkg.feeds.contains .vinA = false ∧
      u.pkg.feedsLow = false ∧ v.ready = true ∧ v.pkg.feeds.contains .vioA = true ∧ v.pkg.powered = true ∧
      bad.ready = true ∧ bad.pkg.get 0x2601 0x01 = 1 ∧ s.pkg.get 0x2601 0x01 ≠ 1 ∧ s.ready = true ∧ s.pkg.xinOk = true ∧ x.ready = true ∧ x.pkg.xinOk = false ∧ s.pkg.feeds.contains .vinA = false ∧
      x.pkg.feeds.contains .vinA = true ∧ s.pkg.powered = true ∧ s.pkg.feedsLow = false ∧ x.pkg.feedsLow = true := by
  decide +kernel

theorem wit_pins :
    let s := State.reset
    let t := pkg0 fun g => { g with testEn := true }
    let u := pkg0 fun g => { g with powered := false }
    let v := pkg0 fun g => { g with pwrEn := false }
    s.pkg.testEn = false ∧ s.pkg.domain 0x43 = 2 ∧ (pkg0 fun g => g.setDomain 0x43 0).pkg.domain 0x43 ≠ 2 ∧ t.pkg.testEn = true ∧ t.pkg.powered = true ∧ t.pkg.pwrEn = true ∧ t.pkg.porN = true ∧
      u.pkg.powered = false ∧ v.pkg.pwrEn = false ∧ s.pkg.powered = true ∧ s.pkg.pwrEn = true ∧
      (let w := pkg0 fun g => { g with testEn := true, powered := false }; w.pkg.testEn = true ∧ w.pkg.powered = false) := by
  decide +kernel

/-! ### The whole block -/

theorem wit_fault_order : railsOk State.reset.st0.flt.rails = true ∧
    railsOk (State.reset.st0.raise 0xBB 7).flt.rails = true := by decide +kernel

theorem wit_generations :
    let d := State.reset.st0
    d.regsOk = true ∧ (4095 ∉ stepContexts d.plan.active 0) ∧ (d.cell 271).running = false := by decide +kernel

/-- A plan whose beam context 0 belongs to step 0, with a hot write that waits for its cell. -/
theorem wit_hot_write :
    let d := runs (image [(10, 0, 32)] [(0x10000, 4, 1)]) State.reset.st0
    let h : HeldLoad := ⟨0, 0, []⟩
    let e := { d with work := { d.work with hots := [h] } }
    0 ∈ stepContexts d.plan.active 0 ∧ (e.work.hots.find? fun h => decide (hotCell e h = hotCell e h)) = some h ∧
      (e.work.hots.find? fun x => decide (hotCell e x = hotCell e h)) = some h ∧ (e.cell (hotCell e h)).running = false ∧
      e.regsOk = true := by decide +kernel

theorem wit_lost_domain : smWf (fun _ => ({} : Cell)) State.reset.st0.cells = true ∧ 271 / 34 = 7 ∧ 33 / 34 ≠ 7 ∧
    (State.reset.st0.cell 271).tiles = [] := by decide +kernel

theorem wit_key_is_kept : State.reset.keySafe = true ∧
    ({ (pkg0 fun g => { g with key := some 1 }) with pending := [.idcode] } : State).keySafe = true := by decide +kernel

theorem wit_strands_apart :
    let d := State.reset.found (at0 0)
    ownStrand (.select (at0 0) 3 2) = some (at0 0) ∧ State.reset.ready = true ∧
      (collect { State.reset.pkg with out := [] } d).flt.devReq = false := by decide +kernel

/-! ### Ill-formed commands, one for each check of its row -/

/-- A command's time and strand; a requester whose device ID does not fit; a frame that fits and one whose TYPE does not. -/
abbrev w0 : At := at0 0
abbrev rq0 : Requester := .lyd false 65536 0
abbrev f0 : LydFrame := lyd 1 0 0 0 [] 0
abbrev f1 : LydFrame := lyd 16 0 0 0 [] 0

theorem test_ill_formed_1 : (
    [.runStart w0 ⟨272, 0⟩, .kernelStep w0 272 ⟨0, 0⟩ [], .kernelStep w0 0 ⟨0, 0⟩ [270336],
      .cellScrubRead w0 272 .stagingA 0 .clean, .cellScrubRead w0 0 .stagingA 8192 .clean, .write w0 272 0 0,
      .write w0 0 (2 ^ 16) 0, .write w0 0 0 (2 ^ 32), .select w0 272 0, .select w0 0 (2 ^ 16), .flags w0 272 0 0,
      .flags w0 0 (2 ^ 16) 0, .flags w0 0 0 (2 ^ 32), .setBase w0 272 0 0, .setBase w0 0 (2 ^ 16) 0,
      .setBase w0 0 0 (2 ^ 32), .setN0 w0 272 0 0, .setN0 w0 0 (2 ^ 16) 0, .setN0 w0 0 0 (2 ^ 32), .copyBank w0 272 0 0,
      .copyBank w0 0 (2 ^ 16) 0, .copyBank w0 0 0 (2 ^ 32), .runGate w0 272 0, .runGate w0 0 (2 ^ 32), .mirror w0 272 0,
      .mirror w0 0 (2 ^ 32), .owners w0 272, .marginRead w0 272 0, .marginRead w0 0 32768, .healthClear w0 rq0 0 0,
      .healthClear w0 .host 272 0, .healthClear w0 .host 0 (2 ^ 64), .dbgCapture w0 rq0 0, .dbgCapture w0 .host (2 ^ 64),
      .accCntClear w0 rq0 0, .accCntClear w0 .host (2 ^ 64), .beatInstanceStart w0 256,
      .slotTransfer w0 256 0 ⟨.stagingA, 0, 0, []⟩, .slotTransfer w0 0 16384 ⟨.stagingA, 0, 0, []⟩,
      .slotTransfer w0 0 0 ⟨.stagingA, 65536, 0, []⟩, .blockArrival w0 128 false [], .windowClose w0 4096 0,
      .ingestSlot w0 4096 0 false, .streamDelay w0 rq0 0 0, .streamDelay w0 .host 4096 0, .streamDelay w0 .host 0 (2 ^ 64),
      .ingCntClear w0 rq0 0, .ingCntClear w0 .host (2 ^ 64), .delayLoad w0 rq0 0 [], .delayLoad w0 .host 256 [],
      .delayLoad w0 .host 0 (zeros 257), .weightLoad w0 rq0 0 [], .weightLoad w0 .host 4096 [],
      .weightLoad w0 .host 0 (zeros 257), .delaySwap w0 rq0 0 0, .delaySwap w0 .host 256 0, .delaySwap w0 .host 0 (2 ^ 64),
      .weightSwap w0 rq0 0 0, .weightSwap w0 .host 4096 0, .weightSwap w0 .host 0 (2 ^ 64), .weightHot w0 rq0 0 [],
      .weightHot w0 .host 4096 [], .weightHot w0 .host 0 (zeros 257), .hotWriteApply w0 256] : List Instr).all (fun i => !i.wf) = true := by decide +kernel

theorem test_ill_formed_2 : (
    [.cbCntClear w0 rq0 0, .cbCntClear w0 .host (2 ^ 64), .planLoad w0 rq0 [], .planLoad w0 .host (zeros 257),
      .planCheck w0 rq0 0, .planCheck w0 .host (2 ^ 64), .planCommit w0 rq0 0, .planCommit w0 .host (2 ^ 64),
      .planCancel w0 rq0 0, .planCancel w0 .host (2 ^ 64), .cutoverEnd w0 256, .planHotPatch w0 rq0 [],
      .planHotPatch w0 .host (zeros 257), .spliceRequest w0 rq0 0, .spliceRequest w0 .host (2 ^ 64),
      .splicePrepareDone w0 272 false, .spliceTileCopy w0 272 0, .spliceRetire w0 272, .storeScrub w0 (2 ^ 25) .clean,
      .outputTurn w0 ⟨4, 0⟩, .packetTxDone w0 ⟨4, 0⟩, .queueStall w0 ⟨4, 0⟩, .queueRead w0 rq0, .snapCapture w0 rq0 0,
      .snapCapture w0 .host (2 ^ 64), .snapBlockQueue w0 16 0 0, .snapBlockQueue w0 0 4096 0, .bsqCntClear w0 rq0 0,
      .bsqCntClear w0 .host (2 ^ 64), .detectorEvent w0 272 0 0 0, .unitHorizonAdvance w0 64, .actionAssert w0 64,
      .trigOutPulseEnd w0 4, .raiseExpire w0 16384, .trigInEdge w0 ⟨5, false⟩, .trigInPulseEnd w0 ⟨5, false⟩,
      .trigInDeliver w0 5, .trigInStuck w0 5, .tinUnmask w0 rq0 0 0, .tinUnmask w0 .host 5 0,
      .tinUnmask w0 .host 0 (2 ^ 64), .inputUnmaskApply w0 5, .trigCntClear w0 rq0 0, .trigCntClear w0 .host (2 ^ 64),
      .laneCfg w0 rq0 0 0, .laneCfg w0 .host 24 0, .laneCfg w0 .host 0 (2 ^ 64), .ethPortCfg w0 rq0 0 [],
      .ethPortCfg w0 .host 24 [], .ethPortCfg w0 .host 0 (zeros 257), .ethFlow w0 rq0 0 [], .ethFlow w0 .host 256 [],
      .ethFlow w0 .host 0 (zeros 257), .jesdCfg w0 rq0 0 [], .jesdCfg w0 .host 8 [], .jesdCfg w0 .host 0 (zeros 257),
      .bondCfg w0 rq0 0 0, .bondCfg w0 .host 16 0, .bondCfg w0 .host 0 (2 ^ 64), .timePerS w0 rq0 0,
      .timePerS w0 .host (2 ^ 64), .loopback w0 rq0 0 0, .loopback w0 .host 64 0, .loopback w0 .host 0 (2 ^ 64)] : List Instr).all (fun i => !i.wf) = true := by decide +kernel

theorem test_ill_formed_3 : (
    [.testPattern w0 rq0 0 0, .testPattern w0 .host 64 0, .testPattern w0 .host 0 (2 ^ 64), .laneCntClear w0 rq0 0 0,
      .laneCntClear w0 .host 64 0, .laneCntClear w0 .host 0 (2 ^ 64), .spareSelftest w0 26 0 false,
      .spareSelftest w0 0 (2 ^ 32) false, .losDetect w0 128, .losClear w0 128, .cdrLockLoss w0 128, .laneTrainDone w0 128,
      .codewordRx w0 128 .ok 0, .codewordRx w0 0 .ok 256, .laneBerCheck w0 128, .agushFrameRx w0 128 false [],
      .idle w0 128 [], .sum w0 128 [], .trig w0 128 [], .time w0 128 [], .timeFrameTx w0 128, .idleFrameForce w0 128,
      .bondSeqTimeout w0 16, .bondDegraded w0 16 0, .bondDegraded w0 0 128, .eiEnter w0 128, .eiExit w0 128,
      .laneSwapRequest w0 rq0 0, .laneSwapRequest w0 .host (2 ^ 64), .laneSwapStart w0 128, .swapSwitch w0 128,
      .swapOldPairStop w0 128, .swapTimeout w0 128, .ethFrameRx w0 24 [], .ethLaneSwap w0 24 0, .ethLaneSwap w0 0 128,
      .ethLinkDown w0 24, .ethLinkUp w0 24, .jesdLemcEdge w0 8 0 [], .jesdLinkDown w0 8, .jesdCrc w0 8, .refCfg w0 rq0 0 0,
      .refCfg w0 .host 9 0, .refCfg w0 .host 0 (2 ^ 64), .qualHoldoffMs w0 rq0 0, .qualHoldoffMs w0 .host (2 ^ 64),
      .refQualify w0 9, .refBreak w0 9, .freqMeasureEnd w0 9 0, .ref10Edge w0 9 0, .ppsEdge w0 9 0, .todLoad w0 rq0 0,
      .todLoad w0 .host (2 ^ 64), .timeStepArm w0 rq0 0, .timeStepArm w0 .host (2 ^ 64), .loopMode w0 rq0 0,
      .loopMode w0 .host (2 ^ 64), .freqAdj w0 rq0 0, .freqAdj w0 .host (2 ^ 64), .phaseAdjPs w0 rq0 0,
      .phaseAdjPs w0 .host (2 ^ 64), .softState w0 rq0 0, .softState w0 .host (2 ^ 64), .ptpRx w0 ⟨true, 256, 0, false, 0⟩] : List Instr).all (fun i => !i.wf) = true := by decide +kernel

theorem test_ill_formed_4 : (
    [.ptpRx w0 ⟨true, 0, 256, false, 0⟩, .winGo w0 false (2 ^ 64), .winRegWrite w0 false 65536 0,
      .winRegWrite w0 false 0 (2 ^ 64), .cmdqDb w0 (2 ^ 64), .cmdFetch w0 (zeros 63), .cmdqEnable w0 rq0 0,
      .cmdqEnable w0 .host (2 ^ 64), .evqDb w0 (2 ^ 64), .evqEnable w0 rq0 0, .evqEnable w0 .host (2 ^ 64),
      .dmaPacketTransfer w0 16 false, .dmaCqDb w0 16 0, .dmaCqDb w0 0 (2 ^ 64), .dmaIntHold w0 16, .dmaCfg w0 rq0 0 0,
      .dmaCfg w0 .host 16 0, .dmaCfg w0 .host 0 (2 ^ 64), .dmaDisable w0 16, .creditStall w0 16, .bar4Read w0 1048576 0,
      .bar4Read w0 0 1048577, .smDecodeMiss w0 7 0, .smDecodeMiss w0 0 (2 ^ 64), .smTimeout w0 7 0 0, .smTimeout w0 0 8 0,
      .smTimeout w0 0 0 (2 ^ 64), .registerWrite w0 rq0 0 0 [], .registerWrite w0 .host 65536 0 [],
      .registerWrite w0 .host 0 256 [], .registerWrite w0 .host 0 0 (zeros 257), .sagePatch w0 rq0 0 [],
      .sagePatch w0 .host 32 [], .sagePatch w0 .host 0 (zeros 257), .lydFrameForward w0 2 false [],
      .lydFrameForward w0 0 false (zeros 277), .read w0 2 f0, .read w0 0 f1, .describe w0 2 f0, .describe w0 0 f1,
      .bcastWrite w0 2 f0, .bcastWrite w0 0 f1, .enum w0 f1, .enumReport w0 f1, .beacon w0 2 f0, .beacon w0 0 f1,
      .lydEnumStart w0 rq0 0, .lydEnumStart w0 .host (2 ^ 64), .lydLinkDown w0 2, .localDeviceId w0 rq0 0,
      .localDeviceId w0 .host (2 ^ 64), .protEntry w0 rq0 0 0, .protEntry w0 .host 32 0, .protEntry w0 .host 0 (2 ^ 64),
      .protTable w0 rq0 [], .protTable w0 .host (zeros 257), .challenge w0 rq0, .response w0 rq0 [],
      .response w0 .host (zeros 257), .level0Release w0 rq0 0, .level0Release w0 .host (2 ^ 64),
      .sessionIdleTimeout w0 rq0, .level0Key w0 rq0 [], .level0Key w0 .host (zeros 257)] : List Instr).all (fun i => !i.wf) = true := by decide +kernel

theorem test_ill_formed_5 : (
    [.faultSignal w0 192 0, .faultSignal w0 0 65536, .railFault w0 192, .ladderStepDone w0 12 0,
      .ladderStepDone w0 0 65536, .ladderCleanExpire w0 12 0, .ladderCleanExpire w0 0 65536, .faultGroupAck w0 rq0 0 0,
      .faultGroupAck w0 .host 12 0, .faultGroupAck w0 .host 0 (2 ^ 64), .faultCfg w0 rq0 0 0, .faultCfg w0 .host 192 0,
      .faultCfg w0 .host 0 (2 ^ 64), .faultReact w0 rq0 0 0 0, .faultReact w0 .host 12 0 0, .faultReact w0 .host 0 4 0,
      .faultReact w0 .host 0 0 (2 ^ 64), .faultWireRetest w0 rq0 0, .faultWireRetest w0 .host (2 ^ 64),
      .faultFirstClear w0 rq0 0, .faultFirstClear w0 .host (2 ^ 64), .faultCntClear w0 rq0 0,
      .faultCntClear w0 .host (2 ^ 64), .errNRelease w0 rq0 0, .errNRelease w0 .host (2 ^ 64), .ctrlCheckFail w0 2,
      .ctrlUnitTestDone w0 2 false, .ctrlReintegStart w0 rq0 0, .ctrlReintegStart w0 .host (2 ^ 64), .safeEnter w0 rq0 0,
      .safeEnter w0 .host (2 ^ 64), .strandResetReq w0 rq0 0, .strandResetReq w0 .host (2 ^ 64), .deviceResetReq w0 rq0 0,
      .deviceResetReq w0 .host (2 ^ 64), .deviceReset ⟨false, false, 256⟩, .retestCellDomain w0 rq0 0,
      .retestCellDomain w0 .host (2 ^ 64), .retestLaneGroup w0 rq0 0, .retestLaneGroup w0 .host (2 ^ 64),
      .pwrPhaseFail w0 5 0 ⟨0⟩, .pwrPhaseFail w0 0 68 ⟨0⟩, .domainReq w0 rq0 0 0, .domainReq w0 .host 16 0,
      .domainReq w0 .host 0 (2 ^ 64), .domainWake w0 68, .domainPowerGood w0 68 0, .domainPowerGood w0 0 65536,
      .domainWakeTimeout w0 68, .domainPowerLoss w0 68, .xinStatusChange 3, .aoclkCal w0 3 0, .thermSample w0 13 0 false,
      .thermSample w0 0 32768 false, .thermDomainShutdown w0 16, .thermRestart w0 256, .strandPower w0 rq0 0,
      .strandPower w0 .host (2 ^ 64), .porNRelease ⟨false, false, 256⟩, .dbgFrame w0 f1, .lanyardWrite w0 2 f0,
      .lanyardWrite w0 0 f1, .lydLinkUp w0 2, .jesdLinkUp w0 8] : List Instr).all (fun i => !i.wf) = true := by decide +kernel

theorem test_ill_formed_6 : (
    [.hpLinkUp 6 0, .hpLinkUp 0 17, .trainingBurstRx w0 128 false 0, .cellSelftestDone w0 272 false,
      .lanePrbsTestDone w0 26 0 false, .lanePrbsTestDone w0 0 (2 ^ 32) false] : List Instr).all (fun i => !i.wf) = true := by decide +kernel

/-- Fields of a frame, units of a landing, the second field of a requester and of an output, and a margin too low. -/
theorem test_ill_formed_fields :
    ([.enum w0 (lyd 1 65536 0 0 [] 0), .enum w0 (lyd 1 0 256 0 [] 0), .enum w0 (lyd 1 0 0 257 [] 0), .enum w0 (lyd 1 0 0 0 [] 65536),
      .enum w0 (lyd 2 0 0 1 [] 0), .enum w0 (lyd 1 0 0 2 [1] 0), .enum w0 { f0 with dstDev := 65536 },
      .enum w0 { f0 with dstStrand := 4 }, .enum w0 { f0 with srcStrand := 4 }, .enum w0 { f0 with srcDev := 65536 },
      .enum w0 { f0 with status := 256 }, .challenge w0 (.lyd false 0 4), .outputTurn w0 ⟨0, 256⟩, .marginRead w0 0 (-32769),
      .slotTransfer w0 0 0 ⟨.stagingA, 0, 0, [⟨4096, 0, 0⟩]⟩, .slotTransfer w0 0 0 ⟨.stagingA, 0, 0, [⟨0, 65536, 0⟩]⟩]
      : List Instr).all (fun i => !i.wf) = true := by decide +kernel

/-- Long bodies and host data. -/
theorem test_ill_formed_long (n : Nat) : (Instr.blockArrival w0 0 false (zeros (65537 + n))).wf = false ∧
    (Instr.agushFrameRx w0 0 false (zeros (65537 + n))).wf = false ∧
    (Instr.idle w0 0 (zeros (2048 + n))).wf = false ∧
    (Instr.sum w0 0 (zeros (2048 + n))).wf = false ∧
    (Instr.trig w0 0 (zeros (2048 + n))).wf = false ∧
    (Instr.time w0 0 (zeros (2048 + n))).wf = false ∧
    (Instr.ethFrameRx w0 0 (zeros (16384 + n))).wf = false ∧
    (Instr.dictWrite w0 (.data (zeros (16777217 + n)))).wf = false ∧
    (Instr.planLoadDma w0 (.data (zeros (16777217 + n)))).wf = false := by
  simp [Instr.wf, upTo, zeros, hostOk_]; omega

/-- Each of these rows has a well-formed command. -/
theorem test_well_formed_1 : (
    [.runStart w0 ⟨0, 0⟩, .kernelStep w0 0 ⟨0, 0⟩ [], .cellScrubRead w0 0 .stagingA 0 .clean, .write w0 0 0 0, .select w0 0 0,
      .flags w0 0 0 0, .setBase w0 0 0 0, .setN0 w0 0 0 0, .copyBank w0 0 0 0, .runGate w0 0 0, .mirror w0 0 0,
      .owners w0 0, .marginRead w0 0 0, .healthClear w0 .host 0 0, .dbgCapture w0 .host 0, .accCntClear w0 .host 0,
      .beatInstanceStart w0 0, .slotTransfer w0 0 0 ⟨.stagingA, 0, 0, []⟩, .blockArrival w0 0 false [],
      .windowClose w0 0 0, .ingestSlot w0 0 0 false, .streamDelay w0 .host 0 0, .ingCntClear w0 .host 0,
      .delayLoad w0 .host 0 [], .weightLoad w0 .host 0 [], .delaySwap w0 .host 0 0, .weightSwap w0 .host 0 0,
      .weightHot w0 .host 0 [], .hotWriteApply w0 0, .cbCntClear w0 .host 0, .planLoad w0 .host [], .planCheck w0 .host 0,
      .planCommit w0 .host 0, .planCancel w0 .host 0, .cutoverEnd w0 0, .planHotPatch w0 .host [],
      .spliceRequest w0 .host 0, .splicePrepareDone w0 0 false, .spliceTileCopy w0 0 0, .spliceRetire w0 0,
      .storeScrub w0 0 .clean, .outputTurn w0 ⟨0, 0⟩, .packetTxDone w0 ⟨0, 0⟩, .queueStall w0 ⟨0, 0⟩, .queueRead w0 .host,
      .snapCapture w0 .host 0, .snapBlockQueue w0 0 0 0, .bsqCntClear w0 .host 0, .detectorEvent w0 0 0 0 0,
      .unitHorizonAdvance w0 0, .actionAssert w0 0, .trigOutPulseEnd w0 0, .raiseExpire w0 0, .trigInEdge w0 ⟨0, false⟩,
      .trigInPulseEnd w0 ⟨0, false⟩, .trigInDeliver w0 0, .trigInStuck w0 0, .tinUnmask w0 .host 0 0, .inputUnmaskApply w0 0,
      .trigCntClear w0 .host 0, .laneCfg w0 .host 0 0, .ethPortCfg w0 .host 0 [], .ethFlow w0 .host 0 [],
      .jesdCfg w0 .host 0 [], .bondCfg w0 .host 0 0, .timePerS w0 .host 0, .loopback w0 .host 0 0,
      .testPattern w0 .host 0 0, .laneCntClear w0 .host 0 0, .spareSelftest w0 0 0 false, .losDetect w0 0, .losClear w0 0,
      .cdrLockLoss w0 0, .laneTrainDone w0 0, .codewordRx w0 0 .ok 0, .laneBerCheck w0 0, .agushFrameRx w0 0 false [],
      .idle w0 0 [], .sum w0 0 [], .trig w0 0 [], .time w0 0 [], .timeFrameTx w0 0, .idleFrameForce w0 0,
      .bondSeqTimeout w0 0, .bondDegraded w0 0 0, .eiEnter w0 0, .eiExit w0 0, .laneSwapRequest w0 .host 0,
      .laneSwapStart w0 0, .swapSwitch w0 0] : List Instr).all (fun i => i.wf) = true := by decide +kernel

theorem test_well_formed_2 : (
    [.swapOldPairStop w0 0, .swapTimeout w0 0, .ethFrameRx w0 0 [], .ethLaneSwap w0 0 0, .ethLinkDown w0 0,
      .ethLinkUp w0 0, .jesdLemcEdge w0 0 0 [], .jesdLinkDown w0 0, .jesdCrc w0 0, .refCfg w0 .host 0 0,
      .qualHoldoffMs w0 .host 0, .refQualify w0 0, .refBreak w0 0, .freqMeasureEnd w0 0 0, .ref10Edge w0 0 0,
      .ppsEdge w0 0 0, .todLoad w0 .host 0, .timeStepArm w0 .host 0, .loopMode w0 .host 0, .freqAdj w0 .host 0,
      .phaseAdjPs w0 .host 0, .softState w0 .host 0, .ptpRx w0 ⟨true, 0, 0, false, 0⟩, .winGo w0 false 0,
      .winRegWrite w0 false 0 0, .cmdqDb w0 0, .cmdFetch w0 (zeros 64), .dictWrite w0 .failed, .planLoadDma w0 .failed,
      .cmdqEnable w0 .host 0, .evqDb w0 0, .evqEnable w0 .host 0, .dmaPacketTransfer w0 0 false, .dmaCqDb w0 0 0,
      .dmaIntHold w0 0, .dmaCfg w0 .host 0 0, .dmaDisable w0 0, .creditStall w0 0, .bar4Read w0 0 0, .smDecodeMiss w0 0 0,
      .smTimeout w0 0 0 0, .registerWrite w0 .host 0 0 [], .sagePatch w0 .host 0 [], .lydFrameForward w0 0 false [],
      .read w0 0 f0, .describe w0 0 f0, .bcastWrite w0 0 f0, .enum w0 f0, .enumReport w0 f0, .beacon w0 0 f0,
      .lydEnumStart w0 .host 0, .lydLinkDown w0 0, .localDeviceId w0 .host 0, .protEntry w0 .host 0 0,
      .protTable w0 .host [], .challenge w0 .host, .response w0 .host [], .level0Release w0 .host 0,
      .sessionIdleTimeout w0 .host, .level0Key w0 .host [], .faultSignal w0 0 0, .railFault w0 0, .ladderStepDone w0 0 0,
      .ladderCleanExpire w0 0 0, .faultGroupAck w0 .host 0 0, .faultCfg w0 .host 0 0, .faultReact w0 .host 0 0 0,
      .faultWireRetest w0 .host 0, .faultFirstClear w0 .host 0, .faultCntClear w0 .host 0, .errNRelease w0 .host 0,
      .ctrlCheckFail w0 0, .ctrlUnitTestDone w0 0 false, .ctrlReintegStart w0 .host 0, .safeEnter w0 .host 0,
      .strandResetReq w0 .host 0, .deviceResetReq w0 .host 0, .deviceReset ⟨false, false, 0⟩, .retestCellDomain w0 .host 0,
      .retestLaneGroup w0 .host 0, .pwrPhaseFail w0 0 0 ⟨0⟩, .domainReq w0 .host 0 0, .domainWake w0 0,
      .domainPowerGood w0 0 0, .domainWakeTimeout w0 0, .domainPowerLoss w0 0, .xinStatusChange 0, .aoclkCal w0 0 0,
      .thermSample w0 0 0 false, .thermDomainShutdown w0 0, .thermRestart w0 0, .strandPower w0 .host 0,
      .porNRelease ⟨false, false, 0⟩, .dbgFrame w0 f0, .lanyardWrite w0 0 f0, .lydLinkUp w0 0, .jesdLinkUp w0 0,
      .hpLinkUp 0 0, .trainingBurstRx w0 0 false 0, .cellSelftestDone w0 0 false, .lanePrbsTestDone w0 0 0 false] : List Instr).all (fun i => i.wf) = true := by decide +kernel

/-! ### Single steps -/

/-- What a test looks at after a step. -/
def seen {α : Type} (f : State → α) (i : Instr) (s : State) : Option α :=
  match exec i s with
  | .next t => some (f t)
  | _ => none

/-- An idle block stays as it is. -/
theorem test_idle : step State.reset = .next State.reset := by rfl

/-- The front command runs and the others wait on. -/
theorem test_queue : (match step { State.reset with pending := [.idcode, .bypass] } with
    | .next t => (t.pkg.jtagIr, t.pending) | _ => (0, [])) = (1, [.bypass]) := by decide +kernel

/-- JTAG BYPASS is 0xFF, and its register 0 (R438). -/
theorem test_bypass : seen (fun t => (t.pkg.jtagIr, t.pkg.jtagDr)) .bypass State.reset = some (0xFF, 0) := by decide +kernel

/-- A write of MARGIN_PERIOD_MS (R65) by the host, 2 bytes, least significant first (R368). -/
theorem test_register_write : seen (fun t => (t.st0.get 0x5001 0x02, t.st0.resp.code)) (.registerWrite (at0 0) .host 0x5001 0x02 [0xF4, 0x01])
    State.reset = some (500, 0) := by decide +kernel

/-- An entry that does not exist is NO_ENTRY, a read-only one ACCESS_ERROR, 3 bytes for a U16 BAD_LENGTH (R331, R371). -/
theorem test_result_codes :
    seen (fun t => t.st0.resp.code) (.registerWrite (at0 0) .host 0x0FFF 0x00 [0]) State.reset = some 3 ∧
    seen (fun t => t.st0.resp.code) (.registerWrite (at0 0) .host 0x5000 0x01 [0, 0]) State.reset = some 1 ∧
    seen (fun t => t.st0.resp.code) (.registerWrite (at0 0) .host 0x5001 0x02 [0, 0, 0]) State.reset = some 5 ∧
    seen (fun t => t.st0.resp.code) (.registerWrite (at0 0) .host 0x1201 0x01 (zeros 256)) State.reset = some 4 := by
  decide +kernel

/-- The end of a key's burn (R380). -/
theorem test_burn : seen (fun t => (t.pkg.key, t.pkg.burnKey)) (.otpBurnDone (at0 0) true)
    (pkg0 fun g => { g with burnKey := some 7 }) = some (some 7, none) := by decide +kernel

/-- SAMPLE_PRELOAD takes the pins and loads the boundary register (R438). -/
theorem test_sample : seen (fun t => (t.pkg.jtagDr, t.pkg.jtagBsr)) (.samplePreload 5 9) State.reset = some (5, 9) := by
  decide +kernel

/-- The table gives no row any bits. -/
theorem test_decode : decodeTableWord 32 0 = none := by rfl

end Sys2Proof.Tests
end

/-! PROOFS. The control-port words (R185) and the host's link (R328, R339, R344, R347, R351, R437). -/

/-! ### Control-port words -/

namespace Sys2Proof

section

variable {op p addr arg r w : Nat} {i : Instr}

/-- A word packed from fields that fit gives back the command that its fields spell, whatever its reserved bits hold. -/
theorem decodeTableWord_of_fields (hr : r < 8) (ho : op < 16) (hp : p < 272) (ha : addr < 2 ^ 16) (hx : arg < 2 ^ 32)
    (hw : some (packWord op p addr arg) = some w) (hc : controlCommand op p addr arg = some i) :
    w < 2 ^ 64 ∧ decodeTableWord 64 w = some i ∧ decodeTableWord 64 (w + r * 2 ^ 13) = some i := by
  obtain rfl := Option.some.inj hw
  refine ⟨packWord_lt ho (by omega) ha hx, ?_, ?_⟩
  · simpa [hc] using decodeTableWord_packWord (r := 0) ho hp ha hx (by decide)
  · rw [decodeTableWord_packWord ho hp ha hx hr, hc]

/-- The word of a well-formed command, read where bare words are read, gives the command back (R185). -/
theorem decodeTableWord_encodeControl (hwf : i.wf = true) (hat : Machine.ownStrand i = some wordAt)
    (hw : encodeControl i = some w) (hr : r < 8) :
    w < 2 ^ 64 ∧ decodeTableWord 64 w = some i ∧ decodeTableWord 64 (w + r * 2 ^ 13) = some i := by
  unfold encodeControl at hw
  split at hw
  case h_10 => cases hw
  all_goals
    obtain rfl := Option.some.inj hat
    simp only [Instr.wf, upTo, Bool.and_eq_true, decide_eq_true_eq, and_assoc] at hwf
  case h_1 | h_3 | h_4 | h_5 | h_6 =>
    obtain ⟨hp, ha, hx⟩ := hwf
    exact decodeTableWord_of_fields hr (by decide) hp ha hx hw rfl
  case h_2 =>
    obtain ⟨hp, ha⟩ := hwf
    exact decodeTableWord_of_fields hr (by decide) hp ha (Nat.two_pow_pos 32) hw rfl
  case h_7 | h_8 =>
    obtain ⟨hp, hx⟩ := hwf
    exact decodeTableWord_of_fields hr (by decide) hp (Nat.two_pow_pos 16) hx hw rfl
  case h_9 => exact decodeTableWord_of_fields hr (by decide) hwf (Nat.two_pow_pos 16) (Nat.two_pow_pos 32) hw rfl

/-- OP 0x0 and 0xA to 0xF are reserved (R185). -/
theorem controlCommand_reserved (h : op = 0 ∨ 10 ≤ op) : controlCommand op p addr arg = none := by
  unfold controlCommand
  split
  case h_10 => rfl
  all_goals omega

theorem controlWord_reserved (h : w % 16 = 0 ∨ 10 ≤ w % 16) : controlWord w = none := by
  rw [controlWord]
  split
  · rfl
  · exact controlCommand_reserved h

theorem controlWord_noCell (h : 272 ≤ w / 2 ^ 4 % 2 ^ 9) : controlWord w = none := if_pos h

theorem decodeTableWord_length {n : Nat} (h : n ≠ 64) : decodeTableWord n w = none := if_neg h

end

/-- Settles O1: the fields of a packed word do not overlap, so each command comes back from the word of its fields. -/
theorem controlWords : Obligations.ControlWords := by
  refine ⟨fun i w r hwf hat hw hr => decodeTableWord_encodeControl hwf hat hw hr, fun w h => ?_,
    fun n w h => decodeTableWord_length h⟩
  rw [decodeTableWord, if_pos rfl]
  rcases h with h | h | h
  · exact controlWord_reserved (.inl h)
  · exact controlWord_reserved (.inr h)
  · exact controlWord_noCell h

end Sys2Proof

/-! ### The host's link and the service matrix -/

namespace Sys2Proof.Machine

section

variable {s : State} {w : At}

/-- The link goes down in every strand where it was up (R351). -/
theorem linkDownOp_of_up (h : s.pkg.inHold = false) (hu : s.pkg.hpUp = true) :
    linkDownOp s = onAll { s with pkg := { s.pkg with hpUp := false, out := [] } } linkDownStrand := by
  simp [linkDownOp, h, hu]

theorem linkDownOp_of_down (hu : s.pkg.hpUp = false) : linkDownOp s = s := by
  simp [linkDownOp, hu]

theorem linkRate_ne_zero {speed : Nat} (h1 : 1 ≤ speed) (h5 : speed ≤ 5) : linkRate speed ≠ 0 := by
  interval_cases speed <;> decide

/-- The link trains at each rate and width of a PCI Express 5.0 endpoint of up to 8 lanes (R326). -/
theorem linkUpOp_of_rate {speed width : Nat} (h : s.pkg.inHold = false) (hp : s.pkg.perstN = true)
    (h40 : s.pkg.domain 0x40 = 2) (h1 : 1 ≤ speed) (h5 : speed ≤ 5)
    (hw : width = 1 ∨ width = 2 ∨ width = 4 ∨ width = 8) :
    linkUpOp s speed width =
      onAll { s with pkg := { s.pkg with hpUp := true, out := [] } } (linkUpStrand speed width) := by
  simp [linkUpOp, h, hp, h40, linkRate_ne_zero h1 h5, hw]

theorem perstOp_of_power (h : s.pkg.inHold = false) :
    perstOp s = onAll { s with pkg := { s.pkg with hpUp := false, perstN := false, out := [] }.flr4 } perstStrand := by
  simp [perstOp, h]

/-- Function-level reset of a strand's PF (R339). -/
theorem becomes_flr (h : s.ready = true) : Becomes (.flr w false) s w (flrOp (s.found w)) :=
  becomesPart_of_onPart h rfl rfl

/-- Function-level reset of PF4 takes its window only (R339). -/
theorem leavesPart_flr4 (h : s.ready = true) :
    LeavesPart (.flr w true) s w { s.pkg with out := [] }.flr4 (s.found w) :=
  leavesPart_of_becomesPart h (ready_still h w.k) ((ready_iff s).1 h).2.1 (becomesPart_of_onPart h rfl rfl)

/-- Only the command engine, master 2, has a command that an error of the matrix can end (R347). -/
theorem masterError_other {d : Strand} {master : Nat} (h : master ≠ 2) : masterError d master = d := by
  simp [masterError, h]

theorem masterError_engine {d : Strand} (hc : d.host.cmd.cur.isSome = true) (hx : d.host.cmd.executed = false) :
    masterError d 2 = { d with host := { d.host with cmd := { d.host.cmd with executed := true, result := 0x01 } } } := by
  simp [masterError, hc, hx]

theorem inReset_of_live {d : Strand} (h : d.live = true) : d.inReset = false := by
  simp only [Strand.live, Bool.and_eq_true, Bool.not_eq_true'] at h
  exact h.1

/-- A host request reaches the registers of a strand whose clocks run. -/
theorem onMatrix_of_live {g : Pkg} {d : Strand} (hg : hostOn g = true) (hd : d.live = true) (addr : Nat)
    (f : Strand → Strand) : onMatrix g d addr f = f d := by
  simp [onMatrix, hg, inReset_of_live hd]

theorem bar4Op_contents {g : Pkg} {d : Strand} {off len : Nat} (hg : hostOn g = true) (hl : d.live = true)
    (hd : d.get 0xF000 0x01 = 1) (ho : off + len ≤ 0x100000) :
    bar4Op g d off len = d.emit .completion off (d.storeRead (d.get 0x1104 0x01 * 0x100000 + off) len) := by
  rw [bar4Op, onMatrix_of_live hg hl, if_pos ⟨hd, ho⟩]

theorem bar4Op_error {g : Pkg} {d : Strand} {off len : Nat} (hg : hostOn g = true) (hl : d.live = true)
    (h : d.get 0xF000 0x01 ≠ 1 ∨ 0x100000 < off + len) :
    bar4Op g d off len = (decodeMissOp d 4 off).emit .completion off [] := by
  rw [bar4Op, onMatrix_of_live hg hl, if_neg (by omega)]

/-- In debug mode a read of BAR4 answers the bytes of the page (R328). -/
theorem leaves_bar4Read {off len : Nat} (h : s.runs w.k = true) (hg : hostOn s.pkg = true)
    (hd : (s.found w).get 0xF000 0x01 = 1) (ho : off + len ≤ 0x100000) :
    Leaves (.bar4Read w off len) s w ((s.found w).emit .completion off
      ((s.found w).storeRead ((s.found w).get 0x1104 0x01 * 0x100000 + off) len)) := by
  have hl : (s.found w).live = true := runs_live h
  have hg' : hostOn { s.pkg with out := [] } = true := hg
  have hr := runs_ready h
  exact leaves_of_becomes hr (ready_still hr w.k) (becomes_of_onStrandPkg hr (bar4Op_contents hg' hl hd ho) rfl)

/-- Any other read of BAR4 is a decode miss of the host port, and its completion carries no data (R328, R347). -/
theorem becomes_bar4Read_error {off len : Nat} (h : s.runs w.k = true) (hg : hostOn s.pkg = true)
    (he : (s.found w).get 0xF000 0x01 ≠ 1 ∨ 0x100000 < off + len) :
    Becomes (.bar4Read w off len) s w ((decodeMissOp (s.found w) 4 off).emit .completion off []) := by
  have hl : (s.found w).live = true := runs_live h
  have hg' : hostOn { s.pkg with out := [] } = true := hg
  exact becomes_of_onStrandPkg (runs_ready h) (bar4Op_error hg' hl he) rfl

end

/-- Settles O41: each command of the link and the service matrix runs its one operation on a ready part, and each
operation takes the branch that the hypotheses choose. -/
theorem hostLink : Obligations.HostLink := by
  constructor
  · intro s w h
    have hh := ready_hold h
    refine ⟨becomes_flr h, leavesPart_flr4 h, ?_, rfl, fun hu => ?_, fun hu => ?_, fun speed width hp h40 h1 h5 hw => ?_⟩
    · exact congrArg Host.Outcome.next (perstOp_of_power hh)
    · exact congrArg Host.Outcome.next (linkDownOp_of_up hh hu)
    · exact congrArg Host.Outcome.next (linkDownOp_of_down hu)
    · exact congrArg Host.Outcome.next (linkUpOp_of_rate hh hp h40 h1 h5 hw)
  · intro s w master target addr h
    refine ⟨masterError_other, ?_, becomes_of_onLive h rfl rfl, becomes_of_onLive h rfl rfl,
      fun _ _ hg hd ho => leaves_bar4Read h hg hd ho, fun _ _ hg he => becomes_bar4Read_error h hg he⟩
    rintro rfl
    exact masterError_engine

end Sys2Proof.Machine

/-! PROOFS. Swaps of banks (R134), ingest slots and stream delays (R102, R103, R107, R119), XIN and the feeds (R414 to
R417). -/

/-! ### Dictionary writes of a strand's entries -/

namespace Sys2Proof.Machine

/-- An entry above level 0 keeps no session alive. -/
theorem noteLevel_of_ne_zero {r : DictRow} (h : r.level ≠ 0) (d : Strand) (rq : Requester) : noteLevel d rq r = d :=
  if_neg h

/-- The package entries lie below index 0x2800. -/
theorem isPackageLoc_eq_false {index : Nat} (h : 0x2800 ≤ index) (sub : Nat) :
    isPackageLoc (locKey index sub) = false := by
  have hn : 0x2800 ≤ locKey index sub / 256 := by unfold locKey; omega
  unfold isPackageLoc
  generalize locKey index sub / 256 = n at hn
  simp
  omega

section

variable (g : Pkg) (d : Strand) (rq : Requester) (sub : Nat) (b : List Byte) {index : Nat}

theorem entryWrite_ingest (h : 0x4000 ≤ index) (h' : index ≤ 0x4FFF) :
    entryWrite g d rq index sub b = (g, writeIngest d index sub (bytesToNat b)) := by
  rw [entryWrite, isPackageLoc_eq_false (by omega), if_neg Bool.false_ne_true]
  iterate 8 rw [if_neg (by omega)]
  rw [if_pos h']

theorem entryWrite_cells (h : 0x5000 ≤ index) (h' : index ≤ 0x5FFF) :
    entryWrite g d rq index sub b = (g, writeCells d index sub (bytesToNat b) b) := by
  rw [entryWrite, isPackageLoc_eq_false (by omega), if_neg Bool.false_ne_true]
  iterate 9 rw [if_neg (by omega)]
  rw [if_pos h']

theorem entryWrite_contexts (h : 0x8000 ≤ index) (h' : index ≤ 0x8FFF) :
    entryWrite g d rq index sub b = (g, writeContexts d index sub (bytesToNat b) b) := by
  rw [entryWrite, isPackageLoc_eq_false (by omega), if_neg Bool.false_ne_true]
  iterate 14 rw [if_neg (by omega)]
  rw [if_pos h']

end

/-- A location is defined by the one row of its index range, where that row covers its subindex. -/
theorem dictFind_of_indexRow {lo hi i sub : Nat} {r : DictRow}
    (h : (dictRows.find? fun r => decide (r.idxLo ≤ hi) && decide (lo ≤ r.idxHi)) = some r)
    (hlo : lo ≤ i) (hhi : i ≤ hi) (hrlo : r.idxLo ≤ lo) (hrhi : hi ≤ r.idxHi) (hslo : r.subLo ≤ sub)
    (hshi : sub ≤ r.subHi) :
    dictFind i sub = some r := by
  obtain ⟨-, before, after, hl, hb⟩ := List.find?_eq_some_iff_append.1 h
  refine List.find?_eq_some_iff_append.2 ⟨?_, before, after, hl, fun a ha => ?_⟩
  · simp only [Bool.and_eq_true, decide_eq_true_eq]
    omega
  · have hclear := hb a ha
    simp only [Bool.not_eq_true', Bool.and_eq_false_iff, decide_eq_false_iff_not] at hclear ⊢
    omega

end Sys2Proof.Machine

/-! ### Bank swaps (R134) -/

namespace Sys2Proof.Machine

section

variable {s : State} {w : At} {d : Strand} {rq : Requester} {kind target cell ctx v : Nat}

/-- The status entries that follow a bank lie at 0x5400 and above; what every write there keeps, they keep. -/
theorem bankStatus_keeps {P : Strand → Prop} (hput : ∀ e i s v, 0x5400 ≤ i → P e → P (e.put i s v)) (hd : P d) :
    P (bankStatus d kind target) := by
  unfold bankStatus
  dsimp only
  split
  · exact hput _ _ _ _ (by omega) hd
  · exact List.foldlRecOn _ _ hd fun e he c _ => hput _ _ _ _ (by omega) he

theorem bankStatus_still (h : d.still = true) : (bankStatus d kind target).still = true :=
  bankStatus_keeps (P := fun e => e.still = true) (fun _ _ _ _ _ he => he) h

/-- STRAND_POWER is no entry of the upper indexes. -/
theorem sleep_put {i : Nat} (h : 0x2800 ≤ i) (j x : Nat) : (d.put i j x).sleep = d.sleep :=
  d.get_put_other x (by unfold locKey; omega)

theorem bankStatus_sleep (h : d.sleep = 0) : (bankStatus d kind target).sleep = 0 :=
  bankStatus_keeps (P := fun e => e.sleep = 0) (fun _ _ j x hi he => (sleep_put (by omega) j x).trans he) h

theorem bankStatus_answer (d : Strand) (kind target c : Nat) :
    bankStatus (d.answer c) kind target = (bankStatus d kind target).answer c := by
  unfold bankStatus
  dsimp only
  split
  · rfl
  · exact List.foldl_hom (Strand.answer · c) fun _ _ => rfl

/-- What a write of a swap does: without a plan it is refused. -/
def swapAnswer (d : Strand) (kind target v : Nat) : Strand :=
  if d.hasPlan then swapWrite d kind target v else swapRefuse d

/-- The strand with its pending swap of a bank replaced by that of a write of `v`. -/
def withSwap (d : Strand) (kind target v : Nat) : Strand :=
  { d with work := { d.work with
      swaps := (d.work.swaps.filter fun x => !(decide (x.kind = kind) && decide (x.target = target))) ++
        [⟨kind, target, if v = 0 then boundaryAfter d.now else v, decide (v ≠ 0)⟩] } }

/-- A write of a swap comes in time: under a plan, with the boundary of the pending swap and the one that it names both
at least 100 µs away. -/
def SwapTimely (d : Strand) (kind target v : Nat) : Prop :=
  d.hasPlan = true ∧ (∀ x, d.swapOf kind target = some x → inTime d.now x.epoch = true) ∧
    (v ≠ 0 → inTime d.now v = true)

theorem swapAnswer_of_timely (h : SwapTimely d kind target v) :
    swapAnswer d kind target v = (bankStatus (withSwap d kind target v) kind target).answer 0x00 := by
  obtain ⟨hp, hs, hv⟩ := h
  rw [swapAnswer, if_pos hp, swapWrite]
  refine if_neg ?_
  cases hx : d.swapOf kind target with
  | none => simpa using hv
  | some x => simpa [hs x hx] using hv

theorem swapAnswer_of_not_timely (h : ¬SwapTimely d kind target v) : swapAnswer d kind target v = swapRefuse d := by
  by_cases hp : d.hasPlan = true
  · rw [swapAnswer, if_pos hp, swapWrite]
    refine if_pos ?_
    cases hx : d.swapOf kind target with
    | none => simpa [SwapTimely, hp, hx] using h
    | some x => simpa [SwapTimely, hp, hx, imp_iff_not_or, and_comm, or_comm] using h
  · exact if_neg hp

theorem not_swapTimely (h : d.hasPlan = false ∨
    (¬∀ x, d.swapOf kind target = some x → inTime d.now x.epoch = true) ∨ (v ≠ 0 ∧ inTime d.now v = false)) :
    ¬SwapTimely d kind target v := by
  rintro ⟨hp, hs, hv⟩
  rcases h with h | h | ⟨h0, h⟩
  · simp [hp] at h
  · exact h hs
  · simp [hv h0] at h

theorem swapRefuse_still (h : d.still = true) : (swapRefuse d).still = true := h

theorem swapRefuse_sleep (d : Strand) : (swapRefuse d).sleep = d.sleep := 
  (d.answer 0x02).get_put_other _ (by decide)

theorem swapAnswer_still (h : d.still = true) : (swapAnswer d kind target v).still = true := by
  by_cases ht : SwapTimely d kind target v
  · rw [swapAnswer_of_timely ht]
    exact bankStatus_still (d := withSwap d kind target v) h
  · rwa [swapAnswer_of_not_timely ht]

theorem swapAnswer_sleep (h : d.sleep = 0) : (swapAnswer d kind target v).sleep = 0 := by
  by_cases ht : SwapTimely d kind target v
  · rw [swapAnswer_of_timely ht]
    exact bankStatus_sleep (d := withSwap d kind target v) h
  · rwa [swapAnswer_of_not_timely ht, swapRefuse_sleep]

/-- The answer of a write replaces the one before it. -/
theorem swapAnswer_answer (d : Strand) (kind target v c : Nat) :
    swapAnswer (d.answer c) kind target v = swapAnswer d kind target v := by
  by_cases ht : SwapTimely d kind target v
  · rw [swapAnswer_of_timely ht, swapAnswer_of_timely (d := d.answer c) ht]
    have hb : bankStatus (withSwap (d.answer c) kind target v) kind target =
        (bankStatus (withSwap d kind target v) kind target).answer c :=
      bankStatus_answer (withSwap d kind target v) kind target c
    rw [hb]
    rfl
  · rw [swapAnswer_of_not_timely ht, swapAnswer_of_not_timely (d := d.answer c) ht]
    rfl

theorem writeCells_delaySwap (d : Strand) (v : Nat) (b : List Byte) (h : cell < 256) :
    writeCells d (0x5400 + cell) 0x02 v b = swapAnswer d 0 cell v := by
  rw [writeCells, if_neg (by omega), if_neg (by omega), if_pos (by omega), if_neg (by decide), Nat.add_sub_cancel_left]
  rfl

theorem writeContexts_weightSwap (d : Strand) (v : Nat) (b : List Byte) :
    writeContexts d (0x8000 + ctx) 0x03 v b = swapAnswer d 1 (ctxTarget (imgContext d.plan.active ctx)) v := by
  rw [writeContexts, Nat.add_sub_cancel_left]
  rfl

theorem exec_delaySwap (h : cell < 256) :
    exec (.delaySwap w rq cell v) s = .next (regWrite s w rq true (0x5400 + cell) 0x02 v) := by
  rw [← decide_eq_true h]
  rfl

theorem exec_weightSwap (h : ctx < 4096) :
    exec (.weightSwap w rq ctx v) s = .next (regWrite s w rq true (0x8000 + ctx) 0x03 v) := by
  rw [← decide_eq_true h]
  rfl

/-- DELAY_SWAP of a logical cell: the write of the swap of its delays. -/
theorem leaves_delaySwap (ht : s.takes w rq (0x5400 + cell) 0x02 = true) (hc : cell < 256) (hv : v < 2 ^ 64) :
    Leaves (.delaySwap w rq cell v) s w (swapAnswer (s.found w) 0 cell v) := by
  have hr : dictFind (0x5400 + cell) 0x02 = some ⟨0x5400, 0x54FF, 0x02, 0x02, 4, 8, 2, 2, 1, false, 0x0⟩ :=
    dictFind_of_rangeRow (lo := 0x5400) (hi := 0x54FF) rfl (by omega) (by omega)
  obtain ⟨hready, -, hsleep⟩ := takes_ready ht
  refine leaves_of_regWrite ht hr (by decide) (exec_delaySwap hc) (by decide) (by simpa using hv) (by simp) (fun b hb => ?_)
    (swapAnswer_still (ready_still hready w.k)) (swapAnswer_sleep hsleep)
  rw [noteLevel_of_ne_zero (by decide), entryWrite_cells _ _ _ _ _ (by omega) (by omega), hb, writeCells_delaySwap _ _ _ hc,
    swapAnswer_answer]

/-- WEIGHT_SWAP of a beam context: the write of the swap of its step's weights. -/
theorem leaves_weightSwap (ht : s.takes w rq (0x8000 + ctx) 0x03 = true) (hc : ctx < 4096) (hv : v < 2 ^ 64) :
    Leaves (.weightSwap w rq ctx v) s w
      (swapAnswer (s.found w) 1 (ctxTarget (imgContext (s.found w).plan.active ctx)) v) := by
  have hr : dictFind (0x8000 + ctx) 0x03 = some ⟨0x8000, 0x8FFF, 0x03, 0x03, 4, 8, 2, 2, 1, false, 0x0⟩ :=
    dictFind_of_rangeRow (lo := 0x8000) (hi := 0x8FFF) rfl (by omega) (by omega)
  obtain ⟨hready, -, hsleep⟩ := takes_ready ht
  refine leaves_of_regWrite ht hr (by decide) (exec_weightSwap hc) (by decide) (by simpa using hv) (by simp) (fun b hb => ?_)
    (swapAnswer_still (ready_still hready w.k)) (swapAnswer_sleep hsleep)
  rw [noteLevel_of_ne_zero (by decide), entryWrite_contexts _ _ _ _ _ (by omega) (by omega), hb, writeContexts_weightSwap,
    swapAnswer_answer]
  rfl

/-- What a write of a swap leaves, case by case (R134). -/
theorem leaves_of_swapAnswer {i : Instr} (hw : Leaves i s w (swapAnswer (s.found w) kind target v)) :
    (SwapTimely (s.found w) kind target v →
      Leaves i s w ((bankStatus (withSwap (s.found w) kind target v) kind target).answer 0x00)) ∧
    (¬SwapTimely (s.found w) kind target v → Leaves i s w (swapRefuse (s.found w))) :=
  ⟨fun h => swapAnswer_of_timely h ▸ hw, fun h => swapAnswer_of_not_timely h ▸ hw⟩

end

/-- Settles O15: either write is the swap write of its bank, which is taken where it comes in time and refused where it
does not. -/
theorem bankSwaps : Obligations.BankSwaps := by
  intro s w rq v hv
  refine ⟨fun cell hc ht => ?_, fun ctx hc ht => ?_⟩
  · obtain ⟨hyes, hno⟩ := leaves_of_swapAnswer (leaves_delaySwap ht hc hv)
    exact ⟨fun hp hs hn => hyes ⟨hp, hs, hn⟩, fun h => hno (not_swapTimely h)⟩
  · obtain ⟨hyes, hno⟩ := leaves_of_swapAnswer (leaves_weightSwap ht hc hv)
    exact ⟨fun hp hs hn => hyes ⟨hp, hs, hn⟩, fun h => hno (not_swapTimely h)⟩

end Sys2Proof.Machine

/-! ### Window closings, ingest slots and stream delays (R102, R103, R107, R119) -/

namespace Sys2Proof.Machine

section

variable {s : State} {w : At} {d : Strand} {rq : Requester} {st k v : Nat}

/-- Stream `st` expects block `k` or an earlier one next, and has not noted the closing of `k`. -/
def ClosingDue (d : Strand) (st k : Nat) : Prop :=
  smGet zeroAt d.ing.next st ≠ 0 ∧ smGet zeroAt d.ing.next st ≤ k + 1 ∧ smGet zeroAt d.ing.closed st ≤ k

/-- The strand with the closing of block `k` of a stream noted. -/
def withClosing (d : Strand) (st k : Nat) : Strand :=
  { d with ing := { d.ing with closed := smSet zeroAt d.ing.closed st (k + 1) } }

/-- Before C(k) a closing changes nothing. -/
theorem windowCloseOp_early (h : (time80 d.now : Int) < d.closing d.plan.active st k) : windowCloseOp d st k = d := by
  simp [windowCloseOp, h]

/-- At C(k) the closing is noted, and MISSING is counted and raised where no block for `k` was accepted. -/
theorem windowCloseOp_due (h3 : d.domain 3 = 2) (hp : d.hasPlan = true) (hv : stValid (imgStream d.plan.active st) = true)
    (hd : ClosingDue d st k) (ht : d.closing d.plan.active st k ≤ time80 d.now) :
    windowCloseOp d st k = if d.accepted st k then withClosing d st k
      else (countRefuse (withClosing d st k) 0x0C st).raiseOnce 0x32 st := by
  obtain ⟨hn0, hn, hc⟩ := hd
  refine if_neg ?_
  simp only [h3, hp, hv, Bool.and_self, Bool.not_true, Bool.false_eq_true, ne_eq, not_true_eq_false, false_or]
  omega

/-- A source that has been raised in the epoch is not raised again. -/
theorem raiseOnce_of_done {src : Nat} (h : d.flt.onceDone.contains src = true) (inst : Nat) : d.raiseOnce src inst = d :=
  if_pos h

theorem countRefuse_still (h : d.still = true) (code st : Nat) : (countRefuse d code st).still = true := h

/-- Where every accepted block was accepted under the ACTIVE plan, the slot of the next expected block takes the
accepted block of that number. -/
theorem slotBlock_own (hs : ∀ x ∈ d.ing.staged, x.oldPlan = false) :
    slotBlock d true st k = d.ing.staged.find? fun x => decide (x.stream = st) && decide (x.blk = k) :=
  List.find?_congr fun x hx => by simp [hs x hx]

/-- The block that the slot of the next expected block takes, or the gap block in its place (R107). -/
def slotOwn (d : Strand) (st k : Nat) : Strand :=
  match slotBlock d true st k with
  | some x => slotAccepted d x
  | none => slotGap d st k

/-- I(k): that of the accepted block under the plan that it came under, or that of the ACTIVE plan. -/
def slotDue (d : Strand) (st k : Nat) : Int :=
  match slotBlock d true st k with
  | some x => x.slot
  | none => d.slotTime d.plan.active st k

/-- The stream expects the block after `k`, and blocks up to `k` are open no more. -/
def nextExpected (d : Strand) (st k : Nat) : Strand :=
  { d with ing := { d.ing with
      next := smSet zeroAt d.ing.next st (k + 2)
      opens := d.ing.opens.filter fun o => !(decide (o.stream = st) && decide (o.blk ≤ k)) } }

/-- The slot of the next expected block of a stream that the ACTIVE plan takes in. -/
def SlotExpected (d : Strand) (st k : Nat) : Prop :=
  smGet zeroAt d.ing.next st = k + 1 ∧ stValid (imgStream d.plan.active st) = true ∧ d.hasPlan = true

/-- The slot of the next expected block acts at I(k), and not before. -/
theorem ingestSlotOp_expected (h : SlotExpected d st k) (hs : ∀ x ∈ d.ing.staged, x.oldPlan = false) :
    ingestSlotOp d st k false = if d.domain 3 ≠ 2 ∨ (time80 d.now : Int) < slotDue d st k then d
      else nextExpected (slotOwn d st k) st k := by
  obtain ⟨hn, hv, hp⟩ := h
  unfold ingestSlotOp slotDue slotOwn
  simp only [hn, hv, hp, decide_true, Bool.and_self, Bool.false_eq_true, false_and, if_false]
  cases hb : slotBlock d true st k with
  | none => rfl
  | some x =>
    have hx : x.oldPlan = false := hs x (List.mem_of_find?_eq_some hb)
    simp [hx, nextExpected]

/-! ### Stream delays -/

/-- A value with no earlier one pending for the same boundary joins the pending writes. -/
theorem pendWrite_new {index sub : Nat} (h : ∀ x ∈ d.pendW, x.key = locKey index sub → x.due ≠ boundaryAfter d.now) :
    pendWrite d index sub v =
      { d with pendW := d.pendW ++ [(⟨boundaryAfter d.now, locKey index sub, v⟩ : PendWrite)] }.answer 0x00 := by
  have hnew : (d.pendW.any fun x => decide (x.key = locKey index sub) && decide (x.due = boundaryAfter d.now)) = false := by
    simpa using h
  simp only [pendWrite, hnew, Bool.false_eq_true, if_false]

/-- The answer of a write replaces the one before it. -/
theorem pendIf_answer (d : Strand) (ok : Bool) (index sub v c : Nat) :
    pendIf (d.answer c) ok index sub v = pendIf d ok index sub v := by
  cases ok <;> rfl

theorem pendIf_still (h : d.still = true) (ok : Bool) (index sub v : Nat) : (pendIf d ok index sub v).still = true := by
  cases ok <;> exact h

theorem pendIf_sleep (d : Strand) (ok : Bool) (index sub v : Nat) : (pendIf d ok index sub v).sleep = d.sleep := by
  cases ok <;> rfl

theorem writeIngest_streamDelay (d : Strand) (v : Nat) :
    writeIngest d (0x4200 + st / 256) (st % 256) v =
      pendIf d (decide (v ≤ stDelayMax (imgStream d.plan.active st))) (0x4200 + st / 256) (st % 256) v := by
  have hst : (0x4200 + st / 256 - 0x4200) * 256 + st % 256 = st := by omega
  rw [writeIngest, if_neg (by omega), hst]

theorem exec_streamDelay (h : st < 4096) :
    exec (.streamDelay w rq st v) s = .next (regWrite s w rq true (0x4200 + st / 256) (st % 256) v) := by
  rw [← decide_eq_true h]
  rfl

/-- STREAM_DELAY of a stream: a value within DELAY_MAX waits for the boundary of R14. -/
theorem leaves_streamDelay (ht : s.takes w rq (0x4200 + st / 256) (st % 256) = true) (hst : st < 4096) (hv : v < 2 ^ 32) :
    Leaves (.streamDelay w rq st v) s w (pendIf (s.found w)
      (decide (v ≤ stDelayMax (imgStream (s.found w).plan.active st))) (0x4200 + st / 256) (st % 256) v) := by
  have hr : dictFind (0x4200 + st / 256) (st % 256) = some ⟨0x4200, 0x420F, 0x00, 0xFF, 3, 4, 1, 2, 1, false, 0x0⟩ :=
    dictFind_of_indexRow (lo := 0x4200) (hi := 0x420F) rfl (by omega) (by omega) (by decide) (by decide) (Nat.zero_le _)
      (by dsimp only; omega)
  obtain ⟨hready, -, hsleep⟩ := takes_ready ht
  refine leaves_of_regWrite ht hr (by decide) (exec_streamDelay hst) (by decide) (by simpa using hv) (by simp)
    (fun b hb => ?_) (pendIf_still (d := s.found w) (ready_still hready w.k) _ _ _ _) ((pendIf_sleep _ _ _ _ _).trans hsleep)
  rw [noteLevel_of_ne_zero (by decide), entryWrite_ingest _ _ _ _ _ (by omega) (by omega), hb, writeIngest_streamDelay,
    pendIf_answer]
  rfl

/-! ### The commands -/

/-- A closing on a strand whose clocks run leaves what the closing makes of it. -/
theorem leaves_windowClose (h : s.runs w.k = true) {e : Strand} (he : windowCloseOp (s.found w) st k = e)
    (hs : e.still = true) : Leaves (.windowClose w st k) s w e := by
  subst he
  exact leaves_of_onLive (f := fun d => windowCloseOp d st k) rfl h hs

theorem leaves_ingestSlot (h : s.runs w.k = true) {e : Strand} (he : ingestSlotOp (s.found w) st k false = e)
    (hs : e.still = true) : Leaves (.ingestSlot w st k false) s w e := by
  subst he
  exact leaves_of_onLive (f := fun d => ingestSlotOp d st k false) rfl h hs

end

/-- Settles O12: each command takes the branch that its hypotheses choose. -/
theorem ingestSlots : Obligations.IngestSlots := by
  refine ⟨fun s w st k hrun h3 hp hv hn0 hn hc => ?_, fun s w st k hrun h3 hn hv hp hs => ?_,
    fun s w rq st v hst hv ht hnew => ?_⟩
  · have hstill : (s.found w).still = true := ready_still (runs_ready hrun) w.k
    have hdue := windowCloseOp_due (d := s.found w) h3 hp hv ⟨hn0, hn, hc⟩
    refine ⟨fun hC hacc hdone => leaves_windowClose hrun ?_ (countRefuse_still hstill 0x0C st),
      fun hC hacc => leaves_windowClose hrun ?_ hstill,
      fun hC => leaves_windowClose hrun (windowCloseOp_early hC) hstill⟩
    · rw [hdue hC, if_neg (by simp [hacc])]
      exact raiseOnce_of_done (d := countRefuse (withClosing (s.found w) st k) 0x0C st) hdone st
    · rw [hdue hC, if_pos hacc]
      rfl
  · have hstill : (s.found w).still = true := ready_still (runs_ready hrun) w.k
    have hop := ingestSlotOp_expected ⟨hn, hv, hp⟩ hs
    have hb := slotBlock_own (st := st) (k := k) hs
    simp only [slotDue, slotOwn, hb] at hop
    refine ⟨fun hI hown => leaves_ingestSlot hrun (hop.trans (if_neg ?_)) hown,
      fun hI => leaves_ingestSlot hrun (hop.trans (if_pos (.inr hI))) hstill⟩
    push Not
    exact ⟨h3, hI⟩
  · have hw := leaves_streamDelay ht hst hv
    refine ⟨fun hle => ?_, fun hlt => ?_⟩
    · rwa [decide_eq_true hle, pendIf, if_pos rfl, pendWrite_new hnew] at hw
    · rwa [decide_eq_false (Nat.not_le.2 hlt)] at hw

end Sys2Proof.Machine

/-! ### XIN, AOCLK and the feeds (R414 to R417) -/

namespace Sys2Proof.Machine

section

variable {s : State} {w : At} {f : Feed} {v src : Nat} {ppm : Int}

/-- AOCLK is calibrated against XIN, source 1, while XIN oscillates, against a reference, source 2, while it does not, and
may lose its calibration at any time. -/
def Calibrates (g : Pkg) (src : Nat) : Prop :=
  src = 0 ∨ (src = 1 ∧ g.get 0x2601 0x01 ≠ 1) ∨ (src = 2 ∧ g.get 0x2601 0x01 = 1)

theorem aoclkOp_of_calibrates {g : Pkg} (h : Calibrates g src) :
    aoclkOp g src ppm = (g.put 0x2601 0x03 src).put 0x2601 0x02 (ofSigned 32 ppm) := by
  unfold Calibrates at h
  exact if_neg (by omega)

theorem aoclkOp_of_not_calibrates {g : Pkg} (h : ¬Calibrates g src) : aoclkOp g src ppm = g := by
  unfold Calibrates at h
  exact if_pos (by omega)

/-- AOCLK_CAL changes the package and leaves its strand as it finds it. -/
theorem leavesPart_aoclkCal (h : s.ready = true) {g : Pkg} (hg : aoclkOp { s.pkg with out := [] } src ppm = g) :
    LeavesPart (.aoclkCal w src ppm) s w g (s.found w) := by
  have hn : g.newId = none := by
    have hs : s.pkg.newId = none := ((ready_iff s).1 h).2.1
    subst hg
    unfold aoclkOp
    split_ifs <;> exact hs
  exact leavesPart_of_becomesPart h (ready_still h w.k) hn (becomesPart_of_onPart h (by rw [hg]) rfl)

/-- The package after a change of XIN to `v`; XIN_STATUS follows while the package monitor has power. -/
def Pkg.withXin (g : Pkg) (v : Nat) : Pkg :=
  { (if g.domain 0x42 = 2 then g.put 0x2601 0x01 v else g) with xinOk := g.xinOk && decide (v ≠ 1), out := [] }

/-- XIN that stops fails the control pair of a strand that runs. -/
def xinLost (d : Strand) : Strand :=
  if d.inReset then { d with out := [] } else (({ d with out := [] } : Strand).setDomain 0x0F 3).raise 0xB7 0x0F

theorem xinOp_of_no_value (h : 2 < v) : xinOp s v = s := if_pos (.inl h)

theorem xinOp_of_stop (hh : s.pkg.inHold = false) (hx : s.pkg.xinOk = true) :
    xinOp s 1 = settleAll ({ s with pkg := s.pkg.withXin 1 }.mapStrands xinLost) := by
  simp [xinOp, hh, hx, Pkg.withXin, Pkg.monitored]
  rfl

theorem xinOp_of_running (hh : s.pkg.inHold = false) (hv : v ≤ 2) (h : v ≠ 1 ∨ s.pkg.xinOk = false) :
    xinOp s v = { s with pkg := s.pkg.withXin v } := by
  have hstop : (decide (v = 1) && s.pkg.xinOk) = false := by
    rcases h with h | h <;> simp [h]
  simp [xinOp, hh, Nat.not_lt.2 hv, hstop, Pkg.withXin, Pkg.monitored]

theorem monitored_iff (g : Pkg) : g.monitored = true ↔ g.domain 0x42 = 2 := decide_eq_true_iff

/-- The state with the feeds that are out of range; the package has driven nothing out. -/
def State.withFeeds (s : State) (l : List Feed) : State := { s with pkg := { s.pkg with feeds := l, out := [] } }

/-- The state with both VIN feeds below the brown-out threshold, or not; the package has driven nothing out. -/
def State.withFeedsLow (s : State) (low : Bool) : State := { s with pkg := { s.pkg with feedsLow := low, out := [] } }

theorem feedOutOp_watched (hh : s.pkg.inHold = false) (hf : s.pkg.feeds.contains f = false) (hm : s.pkg.domain 0x42 = 2) :
    feedOutOp s f = raiseAll (s.withFeeds (f :: s.pkg.feeds)) (feedSource f) :=
  (if_neg (by rw [hh, hf]; decide)).trans (if_pos ((monitored_iff _).2 hm))

/-- Without the package monitor nothing sees a feed that leaves its range. -/
theorem feedOutOp_unwatched (hh : s.pkg.inHold = false) (hf : s.pkg.feeds.contains f = false)
    (hm : ¬s.pkg.domain 0x42 = 2) :
    feedOutOp s f = s.withFeeds (f :: s.pkg.feeds) :=
  (if_neg (by rw [hh, hf]; decide)).trans (if_neg fun h => hm ((monitored_iff _).1 h))

/-- A feed is reported once until it is back. -/
theorem feedOutOp_again (hf : s.pkg.feeds.contains f = true) : feedOutOp s f = s := if_pos (.inr hf)

theorem feedsLowOp_watched (hh : s.pkg.inHold = false) (hl : s.pkg.feedsLow = false) (hm : s.pkg.domain 0x42 = 2) :
    feedsLowOp s = raiseAll (s.withFeedsLow true) 0xB2 :=
  (if_neg (by rw [hh, hl]; decide)).trans (if_pos ((monitored_iff _).2 hm))

theorem feedsLowOp_unwatched (hh : s.pkg.inHold = false) (hl : s.pkg.feedsLow = false) (hm : ¬s.pkg.domain 0x42 = 2) :
    feedsLowOp s = s.withFeedsLow true :=
  (if_neg (by rw [hh, hl]; decide)).trans (if_neg fun h => hm ((monitored_iff _).1 h))

theorem feedsLowOp_again (hl : s.pkg.feedsLow = true) : feedsLowOp s = s := if_pos (.inr hl)

/-- A VIO feed that comes back to a part with power is in range, and nothing else changes. -/
theorem feedInOp_vio (hp : s.pkg.powered = true) (h : f = .vioA ∨ f = .vioB) :
    feedInOp s f = s.withFeeds (s.pkg.feeds.filter fun x => decide (x ≠ f)) := by
  have hvin : ¬(f = .vinA ∨ f = .vinB) := by
    rcases h with rfl | rfl <;> decide
  simp [feedInOp, hvin, hp, State.withFeeds]

/-- A VIN feed that comes back to a part with power also ends the brown-out. -/
theorem feedInOp_vin (hp : s.pkg.powered = true) (h : f = .vinA ∨ f = .vinB) :
    feedInOp s f = (s.withFeeds (s.pkg.feeds.filter fun x => decide (x ≠ f))).withFeedsLow false := by
  simp [feedInOp, h, hp, State.withFeeds, State.withFeedsLow]

end

/-- Settles O59: on a ready part each command runs its one operation, in the branch that the hypotheses choose. -/
theorem xinAndFeeds : Obligations.XinAndFeeds := by
  intro s w f h
  have hh := ready_hold h
  exact ⟨fun src ppm hc => leavesPart_aoclkCal h (aoclkOp_of_calibrates hc),
    fun src ppm hc => leavesPart_aoclkCal h (aoclkOp_of_not_calibrates hc),
    fun v hv => congrArg Host.Outcome.next (xinOp_of_no_value hv),
    fun hx => congrArg Host.Outcome.next (xinOp_of_stop hh hx),
    fun v hv hx => congrArg Host.Outcome.next (xinOp_of_running hh hv hx),
    fun hf => ⟨fun hm => congrArg Host.Outcome.next (feedOutOp_watched hh hf hm),
      fun hm => congrArg Host.Outcome.next (feedOutOp_unwatched hh hf hm)⟩,
    fun hf => congrArg Host.Outcome.next (feedOutOp_again hf),
    fun hp hf => congrArg Host.Outcome.next (feedInOp_vio hp hf),
    fun hp hf => congrArg Host.Outcome.next (feedInOp_vin hp hf),
    fun hl => ⟨fun hm => congrArg Host.Outcome.next (feedsLowOp_watched hh hl hm),
      fun hm => congrArg Host.Outcome.next (feedsLowOp_unwatched hh hl hm)⟩,
    fun hl => congrArg Host.Outcome.next (feedsLowOp_again hl)⟩

end Sys2Proof.Machine

/-! PROOFS. Run starts and steps of a cell (R31, R36). -/

namespace Sys2Proof.Machine

section

variable {d : Strand} {p : Nat}

/-! ### A cell that is not the blank one -/

/-- A written value that is not the key's default reads back in every table, also in one that is not canonical. -/
theorem smGet_smSet_of_ne {α : Type} [DecidableEq α] {dflt : Nat → α} (m : SMap α) {i : Nat} {v : α} (h : v ≠ dflt i) :
    smGet dflt (smSet dflt m i v) i = v := by
  induction m with
  | nil => simp [smSet, smGet, h]
  | cons x m ih =>
    obtain ⟨k, u⟩ := x
    rcases Nat.lt_trichotomy i k with hlt | rfl | hgt
    · simp [smSet, smGet, h, hlt]
    · simp [smSet, smGet, h]
    · simpa [smSet, smGet, hgt.ne, hgt.ne', Nat.lt_asymm hgt] using ih

theorem Strand.cell_setCell_of_ne (d : Strand) (p : Nat) {c : Cell} (h : c ≠ {}) : (d.setCell p c).cell p = c :=
  smGet_smSet_of_ne d.cells h

/-- CLEAR and DUMP that go back to 0 change the parameter memory, its marks and the record of the commands only. -/
theorem flagsBack_eq (c : Cell) :
    ∃ pm ecc flagSet, c.flagsBack = { c with pm := pm, ecc := ecc, flagSet := flagSet } := by
  obtain ⟨pm, ecc, hfold⟩ : ∃ pm ecc, (c.flagSet.filter fun x => decide (x.2 = 2)).foldl (fun c x =>
      c.store 3 (64 * x.1 + 4) (smGet zeroByteAt c.pm (64 * x.1 + 4) &&& 0x9F#8)) c = { c with pm := pm, ecc := ecc } := by
    refine List.foldlRecOn (motive := fun e : Cell => ∃ pm ecc, e = { c with pm := pm, ecc := ecc }) _ _ ⟨c.pm, c.ecc, rfl⟩
      fun e he x _ => ?_
    obtain ⟨pm, ecc, rfl⟩ := he
    exact ⟨_, _, rfl⟩
  exact ⟨pm, ecc, _, by rw [Cell.flagsBack, hfold]⟩

/-! ### Run starts (R36) -/

/-- The cell as a run start leaves it: at entry 0 of its list. -/
def Cell.started (c : Cell) : Cell :=
  let f := c.flagsBack
  { f with running := true, stopped := false, pos := 0, gapHot := false, lostRun := f.lostIn, lostIn := false,
           outQ := if f.stopped then [] else f.outQ }

theorem runStartCmd_of_idle (hm : d.mayRun p = true) (hr : (d.cell p).running = false) (cut : Nat) :
    runStartCmd d p cut = d.setCell p (d.cell p).started := by
  simp [runStartCmd, runStartOp, hm, hr, Cell.started]

/-! ### Steps (R31) -/

theorem kernelStepOp_of_idle (h : (d.cell p).running = false) (resid soft : Nat) (upset : List Nat) :
    kernelStepOp d p resid soft upset = (d, []) := if_pos (.inl h)

theorem findWords_nil (d : Strand) (p : Nat) : findWords d p [] = d := rfl

theorem stepFinds_of_no_marks {c : Cell} (h : c.ecc = []) (se : StepEntry) (ags : List Ag) (pb : Nat) :
    stepFinds c se ags pb = [] := by
  simp [stepFinds, h]

/-- Parameter block of the step at the cell's position. -/
def Cell.stepPb (c : Cell) : Nat := c.pmNat (64 * (c.stepAt c.pos).pbUnit) 64

/-- AG set of the step at the cell's position. -/
def Cell.stepAgs (c : Cell) : List Ag := agSet (c.pmNat (64 * (c.stepAt c.pos).agUnit) 64)

/-- The cell stands at a valid step of its list, and all its words are good. -/
structure Cell.GoodStep (c : Cell) : Prop where
  pos : c.pos < 32
  ecc : c.ecc = []
  valid : stepValid (c.stepAt c.pos) c.stepPb c.stepAgs = true

/-- The strand as the step finds it, with its number for the first sample taken where the kernel is BP. -/
def stepFree (d : Strand) (p : Nat) : Int × Strand :=
  if pbKernel (d.cell p).stepPb = 3 then (d.setCell p (d.cell p)).freeI else (0, d.setCell p (d.cell p))

/-- The environment of a step whose words are all good. -/
def goodEnv (d : Strand) (p : Nat) : StepEnv :=
  let c := d.cell p
  let e := d.setCell p c
  let l := e.runsAs p
  ⟨p, l, c.pos, c.stepAt c.pos, c.stepPb, c.stepAgs, e.planOf l, smGet zeroAt c.n0 (c.stepAt c.pos).pbUnit,
    stepBeams e (e.planOf l) l c.pos c.stepPb, (stepFree d p).1,
    e.plan.rcSpent.contains p || e.plan.badCells.contains p || c.lostRun⟩

/-- The first `n` repetitions of a step whose words are all good, one after the other. -/
def goodReps (d : Strand) (p n : Nat) : Strand × ThrList :=
  (List.range (min n ((d.cell p).stepAt (d.cell p).pos).rep)).foldl (stepRep (goodEnv d p)) ((stepFree d p).2, [])

/-- The cell with what a step notes once its repetitions are done. -/
def stepNoted (x : StepEnv) (c : Cell) : Cell :=
  { c with lastKF := some (pbKernel x.pb, pbFmt x.pb),
           flagSet := if smGet zeroAt c.flagSet x.se.pbUnit = 0 then c.flagSet else smSet zeroAt c.flagSet x.se.pbUnit 2,
           n0Set := c.n0Set.filter fun u => decide (u ≠ x.se.pbUnit), ran := (x.e :: c.ran).dedup }

theorem stepNoted_ne (x : StepEnv) (c : Cell) : stepNoted x c ≠ {} := fun h => nomatch congrArg Cell.lastKF h

theorem stepRun_of_good (h : (d.cell p).GoodStep) (n : Nat) :
    stepRun d p n 0 0 [] =
      ((goodReps d p n).1.setCell p (stepNoted (goodEnv d p) ((goodReps d p n).1.cell p)), (goodReps d p n).2) := by
  obtain ⟨hpos, hecc, hvalid⟩ := h
  have hup : (d.cell p).upset [] = d.cell p := rfl
  have hpb : (d.cell p).pmNat (64 * ((d.cell p).stepAt (d.cell p).pos).pbUnit) 64 = (d.cell p).stepPb := rfl
  have hags : agSet ((d.cell p).pmNat (64 * ((d.cell p).stepAt (d.cell p).pos).agUnit) 64) = (d.cell p).stepAgs := rfl
  simp only [stepRun, hup, Nat.not_le.2 hpos, hpb, hags, hvalid, stepFinds_of_no_marks hecc, findWords_nil, if_true,
    if_false]
  rfl

/-- The cell with its run moved on from entry `pos`, which ends the run where it is the last one. -/
def movedOn (pos : Nat) (last : Bool) (c : Cell) : Cell :=
  let c' := { c with pos := pos + 1, running := !last, thr := 0, gapHot := if last then false else c.gapHot }
  if last then c'.flagsBack else c'

theorem movedOn_eq (pos : Nat) (last : Bool) (c : Cell) :
    ∃ pm ecc flagSet gapHot, movedOn pos last c =
      { c with pos := pos + 1, running := !last, thr := 0, gapHot := gapHot, pm := pm, ecc := ecc, flagSet := flagSet } := by
  cases last with
  | false => exact ⟨_, _, _, _, rfl⟩
  | true =>
    obtain ⟨pm, ecc, flagSet, h⟩ := flagsBack_eq { c with pos := pos + 1, running := false, thr := 0, gapHot := false }
    exact ⟨pm, ecc, flagSet, false, h⟩

theorem movedOn_ne (pos : Nat) (last : Bool) (c : Cell) : movedOn pos last c ≠ {} := by
  obtain ⟨pm, ecc, flagSet, gapHot, h⟩ := movedOn_eq pos last c
  rw [h]
  exact fun h => nomatch congrArg Cell.pos h

/-- A step of a running cell whose words are all good: its repetitions one after the other, then the next entry. -/
theorem kernelStepOp_of_good (hr : (d.cell p).running = true) (hs : (d.cell p).stopped = false) (h : (d.cell p).GoodStep)
    (hgo : ((goodReps d p (2 ^ 16)).1.cell p).stopped = false) :
    let r := goodReps d p (2 ^ 16)
    let c := stepNoted (goodEnv d p) (r.1.cell p)
    kernelStepOp d p 0 0 [] =
      ((r.1.setCell p c).setCell p (movedOn (d.cell p).pos ((d.cell p).stepAt (d.cell p).pos).last c), r.2) := by
  intro r c
  have hc : (r.1.setCell p c).cell p = c := Strand.cell_setCell_of_ne _ _ (stepNoted_ne _ _)
  have hgo' : c.stopped = false := hgo
  simp only [kernelStepOp, hr, hs, stepRun_of_good h]
  rw [if_neg (by decide), hc, if_neg (by simp [hgo'])]
  rfl

end

/-- Settles O8: a run start and an idle cell's step by the branch taken; a good step by its repetitions, after which the
cell moved on reads back since its position is not 0. -/
theorem runAndStep : Obligations.RunAndStep := by
  intro s w p hrun c f
  refine ⟨fun cut hm hr => ?_, fun luck upset hstill => ?_, ?_,
    fun hr resid soft upset => kernelStepOp_of_idle (d := s.found w) hr resid soft upset⟩
  · have hstart : runStartCmd (s.found w) p cut = (s.found w).setCell p c.started := runStartCmd_of_idle hm hr cut
    have hleaves := leaves_of_onLive (i := .runStart w ⟨p, cut⟩) (f := fun d => runStartCmd d p cut) rfl hrun
      (by rw [hstart]; exact found_setCell_still hrun p _)
    rwa [hstart] at hleaves
  · exact leaves_of_onLive (f := fun d => cellStep d p luck upset) rfl hrun hstill
  · intro se pb ags d l free x hr hs hpos hecc hvalid r t c' hgo
    have ht := kernelStepOp_of_good (d := s.found w) hr hs ⟨hpos, hecc, hvalid⟩ hgo
    obtain ⟨pm, ecc, flagSet, gapHot, hmoved⟩ :=
      movedOn_eq c.pos se.last (stepNoted (goodEnv (s.found w) p) (r.1.cell p))
    have hc' : c' = movedOn c.pos se.last (stepNoted (goodEnv (s.found w) p) (r.1.cell p)) :=
      (congrArg (fun y => y.1.cell p) ht).trans (Strand.cell_setCell_of_ne _ _ (movedOn_ne _ _ _))
    rw [hmoved] at hc'
    rw [hc']
    exact ⟨(congrArg Prod.snd ht :), rfl, rfl, rfl, rfl, rfl, rfl, rfl, rfl, (congrArg (fun y => y.1.regs) ht :)⟩

end Sys2Proof.Machine

/-! PROOFS. Cell domains without power (R90), splices and cut-overs (R89, R177 to R181). -/

/-! ### Tables filtered by their keys -/

namespace Sys2Proof.Machine

/-- A table from which some keys are dropped: these read their default, the others as before. -/
theorem smGet_filter_key {α : Type} (dflt : Nat → α) (m : SMap α) (q : Nat → Prop) [DecidablePred q] (i : Nat) :
    smGet dflt (m.filter fun x => decide (q x.1)) i = if q i then smGet dflt m i else dflt i := by
  induction m with
  | nil => simp [smGet]
  | cons x m ih =>
    obtain ⟨k, v⟩ := x
    by_cases hk : k = i
    · subst hk
      by_cases hq : q k
      · simp [smGet, hq]
      · simp [hq, ih]
    · by_cases hq : q k
      · simpa [smGet, hq, hk] using ih
      · simpa [smGet, hq, hk] using ih

end Sys2Proof.Machine

/-! ### A cell domain's power (R90) -/

namespace Sys2Proof.Machine

section

variable {d e : Strand} {dom p : Nat} {t : SMap Tile}

/-- A cell domain that goes off forgets its own cells, and no other. -/
theorem domainOff_cell (d : Strand) (hdom : dom < 8) (st p : Nat) :
    (domainOff d (4 + dom) st).cell p = if p / 34 = dom then {} else d.cell p := by
  have hcells : (domainOff d (4 + dom) st).cells = d.cells.filter fun x => decide (x.1 / 34 ≠ dom) := by
    rw [domainOff, loseDomain, if_neg (by omega), if_neg (by omega), if_pos (by omega), Nat.add_sub_cancel_left]
    rfl
  rw [Strand.cell, hcells, smGet_filter_key _ _ fun q => q / 34 ≠ dom, ite_not]
  rfl

/-- The strand's cells are in canonical form, and the total file of cell `p` is `t`. -/
def Strand.HasTiles (d : Strand) (p : Nat) (t : SMap Tile) : Prop :=
  smWf (fun _ => ({} : Cell)) d.cells = true ∧ (d.cell p).tiles = t

theorem hasTiles_of_cells_eq (h : d.HasTiles p t) (he : e.cells = d.cells) : e.HasTiles p t := by
  unfold Strand.HasTiles Strand.cell at h ⊢
  rwa [he]

/-- A cell replaced by one with the same total file changes no total file. -/
theorem hasTiles_setCell (h : d.HasTiles p t) (q : Nat) {c : Cell} (hc : c.tiles = (d.cell q).tiles) :
    (d.setCell q c).HasTiles p t := by
  obtain ⟨hwf, ht⟩ := h
  refine ⟨smSet_wf hwf q c, ?_⟩
  by_cases hp : p = q
  · subst hp
    rw [Strand.cell_setCell_same hwf, hc, ht]
  · rw [Strand.cell_setCell_other d c hp, ht]

/-- What leaves every cell its total file does so through the control port, in the cell and in its mirror. -/
theorem hasTiles_onCell (h : d.HasTiles p t) (q : Nat) {f : Cell → Cell} (hf : ∀ c, (f c).tiles = c.tiles) :
    (d.onCell q f).HasTiles p t := by
  unfold Strand.onCell
  dsimp only
  split
  · exact h
  · have hq := hasTiles_setCell h q (hf (d.cell q))
    split
    · exact hq
    · exact hasTiles_setCell hq _ (hf _)

theorem setMem_tiles (c : Cell) (m : Nat) (v : SMap Byte) : (c.setMem m v).tiles = c.tiles := by
  unfold Cell.setMem
  split_ifs <;> rfl

/-- An image holds memories, no totals. -/
theorem cellRewrite_tiles (k : Nat) (us : List Nat) (img : SMap Byte) (c : Cell) :
    (cellRewrite k us img c).tiles = c.tiles := by
  unfold cellRewrite
  dsimp only
  split <;> exact setMem_tiles c _ _

theorem hasTiles_loadCell (h : d.HasTiles p t) (old m : SMap Byte) (l : Nat) : (loadCell d old m l).HasTiles p t := by
  refine List.foldlRecOn (motive := (Strand.HasTiles · p t)) _ _ h fun e he k _ => ?_
  dsimp only
  split
  · exact he
  · exact hasTiles_onCell he _ (cellRewrite_tiles _ _ _)

theorem bankFollow_cells (m : SMap Byte) (l : Nat) (us : Nat → List Nat) (d : Strand) :
    (bankFollow m l us d).cells = d.cells := by
  have hone (e : Strand) (he : e.cells = d.cells) (w : Work) (kind target : Nat) :
      (bankStatus { e with work := w } kind target).cells = d.cells :=
    bankStatus_keeps (P := fun e => e.cells = d.cells) (fun _ _ _ _ _ h => h) he
  refine List.foldlRecOn (motive := fun e : Strand => e.cells = d.cells) _ _ rfl fun e he x _ => ?_
  dsimp only
  split
  · exact hone e he _ _ _
  · split
    · exact hone e he _ _ _
    · exact he

theorem hasTiles_loadBanks (h : d.HasTiles p t) (old m : SMap Byte) (l : Nat) : (loadBanks d old m l).HasTiles p t :=
  hasTiles_of_cells_eq (hasTiles_loadCell h old m l) (bankFollow_cells _ _ _ _)

theorem hasTiles_setGates (h : d.HasTiles p t) : (setGates d).HasTiles p t := by
  refine List.foldlRecOn (motive := (Strand.HasTiles · p t)) _ _ (hasTiles_of_cells_eq h (by rfl)) fun e he l _ => ?_
  exact hasTiles_onCell he _ fun c => rfl

theorem hasTiles_loadAll (h : d.HasTiles p t) (ls : List Nat) :
    (ls.foldl (fun d l => loadBanks d [] (d.planOf l) l) d).HasTiles p t :=
  List.foldlRecOn (motive := (Strand.HasTiles · p t)) _ _ h fun _ he _ _ => hasTiles_loadBanks he _ _ _

/-- The cells of a domain that has power take their images, and no totals. -/
theorem hasTiles_cellsUp (h : d.HasTiles p t) (dom : Nat) : (cellsUp d dom).HasTiles p t := by
  unfold cellsUp
  dsimp only
  refine hasTiles_of_cells_eq (d := ite _ _ _) ?_ rfl
  split
  · exact hasTiles_loadAll h _
  · exact hasTiles_setGates (hasTiles_loadAll h _)

/-- The wake-up of a cell domain leaves every total file as it is. -/
theorem hasTiles_domainGoodOp (h : d.HasTiles p t) (hdom : dom < 8) (us : Nat) :
    (domainGoodOp d (4 + dom) us).HasTiles p t := by
  unfold domainGoodOp
  dsimp only
  split
  · rw [if_neg (by omega), if_pos (by omega)]
    exact hasTiles_cellsUp (hasTiles_of_cells_eq h (by rfl)) _
  · exact h

end

/-- Settles O10: a domain that goes off drops its cells from the table; a wake-up rewrites memories and gates only, so a
total file that is lost stays empty. -/
theorem cellsLost : Obligations.CellsLost := by
  intro d dom p hdom hwf
  refine ⟨fun hp n => ?_, fun hp => ?_, fun us _ hlost n => ?_⟩
  · rw [domainOff_cell d hdom, if_pos hp]
    rfl
  · rw [domainOff_cell d hdom, if_neg hp]
  · obtain ⟨-, ht⟩ := hasTiles_domainGoodOp (d := d) (p := p) ⟨hwf, hlost⟩ hdom us
    rw [Cell.tile, ht]
    rfl

end Sys2Proof.Machine

/-! ### Splices and cut-overs (R89, R177 to R181) -/

namespace Sys2Proof.Machine

section

variable {s : State} {w : At} {d : Strand} {rq : Requester} {p spare slot l : Nat} {x : Splice}

/-- A command of the data plane leaves what its operation is known to make of the strand. -/
theorem leaves_of_live_eq {i : Instr} {f : Strand → Strand} (he : exec i s = .next (onLive s w f))
    (h : s.runs w.k = true) (hf : f (s.found w) = d) (hd : d.still = true) : Leaves i s w d := by
  subst hf
  exact leaves_of_onLive he h hd

/-! #### A request (R180) -/

theorem entryWrite_plans (g : Pkg) (d : Strand) (rq : Requester) (sub : Nat) (b : List Byte) {index : Nat}
    (h : 0x6000 ≤ index) (h' : index ≤ 0x67FF) :
    entryWrite g d rq index sub b = (g, writePlans d index sub (bytesToNat b) b) := by
  rw [entryWrite, isPackageLoc_eq_false (by omega), if_neg Bool.false_ne_true]
  iterate 10 rw [if_neg (by omega)]
  rw [if_pos h']

/-- STATE of a cell and CELL_SPARES_FREE lie at 0x5000 and above; what every write at 0x2800 and above keeps, a change
of STATE keeps. -/
theorem setCellState_keeps {P : Strand → Prop} (hput : ∀ e i j v, 0x2800 ≤ i → P e → P (e.put i j v)) (hd : P d)
    (p st : Nat) : P (setCellState d p st) := by
  unfold setCellState
  dsimp only
  refine hput _ _ _ _ (by omega) ?_
  split
  · exact hput _ _ _ _ (by omega) hd
  · split
    · exact hput _ _ _ _ (by omega) hd
    · exact hd

theorem setCellState_still (h : d.still = true) (p st : Nat) : (setCellState d p st).still = true :=
  setCellState_keeps (P := fun e => e.still = true) (fun _ _ _ _ _ he => he) h p st

theorem setCellState_sleep (h : d.sleep = 0) (p st : Nat) : (setCellState d p st).sleep = 0 :=
  setCellState_keeps (P := fun e => e.sleep = 0) (fun _ _ j v hi he => (sleep_put hi j v).trans he) h p st

theorem cellState_answer (d : Strand) (c p : Nat) : (d.answer c).cellState p = d.cellState p := rfl

/-- The answer of the write under way plays no part in a change of STATE. -/
theorem setCellState_answer (d : Strand) (c p st : Nat) :
    setCellState (d.answer c) p st = (setCellState d p st).answer c := by
  unfold setCellState
  dsimp only
  rw [cellState_answer]
  split
  · rfl
  · split <;> rfl

/-- The splice of cell `p` that begins now. -/
def newSplice (d : Strand) (p spare : Nat) (auto : Bool) : Splice :=
  ⟨d.logicalOf p, p, spare, boundaryAfter d.now, 0, auto, []⟩

/-- The strand with one more splice: its spare is under test and mirrors the retiring cell. -/
def withSplice (d : Strand) (x : Splice) : Strand :=
  (setCellState { d with work := { d.work with splices := d.work.splices ++ [x] } } x.spare 3).setCell x.old
    { d.cell x.old with mirror := some x.spare }

theorem spliceBegin_eq (d : Strand) (p spare : Nat) (auto : Bool) : spliceBegin d p spare auto =
    spliceStatus (withSplice d (newSplice d p spare auto)) p spare 1 (boundaryAfter d.now) := rfl

theorem withSplice_answer (d : Strand) (c : Nat) (x : Splice) :
    withSplice (d.answer c) x = (withSplice d x).answer c :=
  congrArg (Strand.setCell · x.old { d.cell x.old with mirror := some x.spare })
    (setCellState_answer { d with work := { d.work with splices := d.work.splices ++ [x] } } c x.spare 3)

theorem withSplice_still (h : d.still = true) (x : Splice) : (withSplice d x).still = true :=
  setCellState_still (d := { d with work := { d.work with splices := d.work.splices ++ [x] } }) h x.spare 3

theorem withSplice_sleep (h : d.sleep = 0) (x : Splice) : (withSplice d x).sleep = 0 :=
  setCellState_sleep (d := { d with work := { d.work with splices := d.work.splices ++ [x] } }) h x.spare 3

theorem spliceBegin_still (h : d.still = true) (p spare : Nat) (auto : Bool) :
    (spliceBegin d p spare auto).still = true :=
  still_of_eq (withSplice_still h (newSplice d p spare auto)) rfl rfl

theorem spliceBegin_sleep (h : d.sleep = 0) (p spare : Nat) (auto : Bool) :
    (spliceBegin d p spare auto).sleep = 0 :=
  (sleep_put (by decide) _ _).trans (withSplice_sleep h (newSplice d p spare auto))

/-- A splice of cell `p` can begin, with `spare` the lowest spare that it can take: the cell has a role, power and no
splice under way, and its domain has reserve left (R179, R180). -/
structure CanSplice (d : Strand) (p spare : Nat) : Prop where
  idle : (d.work.splices.any fun x => decide (x.old = p) && decide (x.phase = 0)) = false
  role : d.hasRole p = true
  power : d.domain (4 + p / 34) = 2
  safe : d.inSafe = false
  reserve : preparing d (p / 34) < reserveLeft d (p / 34)
  spares : ∃ rest, reservedSpares d p = spare :: rest

theorem spliceAsk_of_canSplice (h : CanSplice d p spare) (auto : Bool) :
    spliceAsk d p auto = (spliceBegin d p spare auto, false) := by
  obtain ⟨hidle, hrole, hpower, hsafe, hreserve, rest, hspares⟩ := h
  rw [spliceAsk, hidle, if_neg Bool.false_ne_true, if_neg (by simp [hrole, hpower, hsafe]), if_neg (by omega), hspares]

theorem canSplice_answer (h : CanSplice d p spare) (c : Nat) : CanSplice (d.answer c) p spare :=
  ⟨h.idle, h.role, h.power, h.safe, h.reserve, h.spares⟩

theorem spliceBegin_answer (d : Strand) (c p spare : Nat) (auto : Bool) :
    spliceBegin (d.answer c) p spare auto = (spliceBegin d p spare auto).answer c :=
  congrArg (spliceStatus · p spare 1 (boundaryAfter d.now)) (withSplice_answer d c (newSplice d p spare auto))

/-- A request that can be met begins the splice; the answer of the write under way gives way to OK. -/
theorem spliceRequestOp_of_canSplice (h : CanSplice d p spare) (hp : p < 272) (c : Nat) :
    spliceRequestOp (d.answer c) p = (spliceBegin d p spare false).answer 0x00 := by
  rw [spliceRequestOp, if_neg (by omega), spliceAsk_of_canSplice (canSplice_answer h c), spliceBegin_answer]
  rfl

theorem exec_spliceRequest (s : State) (w : At) (rq : Requester) (v : Nat) :
    exec (.spliceRequest w rq v) s = .next (regWrite s w rq true 0x6002 0x01 v) := rfl

theorem leaves_spliceRequest (ht : s.takes w rq 0x6002 0x01 = true) (hp : p < 272) (h : CanSplice (s.found w) p spare) :
    Leaves (.spliceRequest w rq p) s w ((spliceBegin (s.found w) p spare false).answer 0x00) := by
  have hr : dictFind 0x6002 0x01 = some ⟨0x6002, 0x6002, 0x01, 0x01, 2, 2, 2, 1, 0, false, 0x0⟩ := rfl
  obtain ⟨hready, -, hsleep⟩ := takes_ready ht
  have hstill : (s.found w).still = true := ready_still hready w.k
  refine leaves_of_regWrite ht hr (by decide) (exec_spliceRequest s w rq p) (by decide) (by simp; omega) (by simp)
    (fun b hb => ?_) (spliceBegin_still hstill p spare false) (spliceBegin_sleep hsleep p spare false)
  rw [noteLevel_of_ne_zero (by decide), entryWrite_plans _ _ _ _ _ (by decide) (by decide), hb, writePlans,
    if_neg (by decide), if_pos rfl, spliceRequestOp_of_canSplice h hp]

/-! #### Copies and the retirement (R89, R181) -/

/-- The splice that prepares for cell `p`. -/
def preparingSplice (d : Strand) (p : Nat) : Option Splice :=
  d.work.splices.find? fun y => decide (y.phase = 0) && decide (y.old = p)

/-- The strand with the prepare copy of a splice at its end: the spare holds the memories, and the splice waits for its
boundary. -/
def prepared (d : Strand) (x : Splice) : Strand :=
  let e := prepareCopy d x.old x.spare
  { e with work := { e.work with splices := d.work.splices.map fun y => if y = x then { y with phase := 2 } else y } }

theorem splicePrepareOp_done (h : preparingSplice d p = some x) : splicePrepareOp d p false = prepared d x := by
  rw [splicePrepareOp, ← preparingSplice, h]
  rfl

/-- The totals of a tile all pass ECC. -/
def TotalsGood (c : Cell) (slot : Nat) : Prop := ∀ i, i < 128 → smGet zeroAt c.ecc (totalKey slot i) = 0

/-- The cell with a tile whose totals are good. -/
def Cell.withGoodTile (c : Cell) (slot : Nat) (t : Tile) : Cell :=
  { c with ecc := c.ecc.filter fun y =>
      !(decide (totalKey slot 0 ≤ y.1) && decide (y.1 < totalKey (slot + 1) 0)) }.setTile slot t

theorem tileCopy_of_good (h : TotalsGood (d.cell x.old) slot) :
    tileCopy d x slot = d.setCell x.spare ((d.cell x.spare).withGoodTile slot ((d.cell x.old).tile slot)) := by
  have hbad : ((List.range 128).filter fun i => decide (smGet zeroAt (d.cell x.old).ecc (totalKey slot i) ≠ 0)) = [] :=
    List.filter_eq_nil_iff.2 fun i hi => by simpa using h i (List.mem_range.1 hi)
  rw [tileCopy, hbad]
  rfl

theorem spliceTileOp_tile (h : draining d p = some x) (hslot : slot < 64) :
    spliceTileOp d p slot = tileCopy d x slot := by
  simp only [spliceTileOp, h, if_pos hslot]

/-- The strand with a splice at its end: mirroring has stopped. -/
def withoutSplice (d : Strand) (x : Splice) : Strand :=
  { d with work := { d.work with splices := d.work.splices.erase x } }.setCell x.old
    { d.cell x.old with mirror := none }

theorem spliceRetireOp_of_draining (h : draining d p = some x) : spliceRetireOp d p =
    let e := withoutSplice d x
    setCellState e x.old (if x.failed = true ∨ e.cellState x.old = 4 then 4 else 3) := by
  simp only [spliceRetireOp, h]
  exact (apply_ite (setCellState (withoutSplice d x) x.old) _ _ _).symm

/-! #### Cut-overs (R177) -/

/-- The strand with a cell's cut-over at its end: whether the cell holds an image, and no record of a hot patch. -/
def cutOver (d : Strand) (l role : Nat) : Strand :=
  { d with plan := { d.plan with
      cellImages := smSet zeroAt d.plan.cellImages l role, patched := d.plan.patched.filter fun x => decide (x ≠ l) } }

theorem cutoverEndOp_of_no_role (h : smGet zeroAt d.plan.cellImages l = 2) (hr : imgRole d.plan.active l = false) :
    cutoverEndOp d l = cutOver d l 0 := by
  rw [cutoverEndOp, if_neg (not_not.2 h)]
  dsimp only
  rw [hr]
  rfl

theorem cutoverEndOp_of_role (h : smGet zeroAt d.plan.cellImages l = 2) (hr : imgRole d.plan.active l = true)
    {y : Sec} (hy : secFind d.plan.active 2 l = some y) : cutoverEndOp d l =
      cutOver (regionUncorr (loadBanks d d.plan.former d.plan.active l) y.off y.len l [d.physOf l]) l 1 := by
  rw [cutoverEndOp, if_neg (not_not.2 h)]
  dsimp only
  rw [hr, hy]
  rfl

end

/-- Settles O20: each command takes the one branch of its operation that the hypotheses choose. -/
theorem splices : Obligations.Splices := by
  refine ⟨fun s w rq p spare rest hp ht hidle hrole hpower hsafe hreserve hspares =>
      leaves_spliceRequest ht hp ⟨hidle, hrole, hpower, hsafe, hreserve, rest, hspares⟩,
    fun s w p x hrun => ?_, fun s w l hrun h => ?_⟩
  · have hstill : (s.found w).still = true := ready_still (runs_ready hrun) w.k
    exact ⟨fun h => leaves_of_live_eq rfl hrun (splicePrepareOp_done h) hstill,
      fun h slot hslot hgood => leaves_of_live_eq rfl hrun
        ((spliceTileOp_tile h hslot).trans (tileCopy_of_good hgood)) hstill,
      fun h => leaves_of_live_eq rfl hrun (spliceRetireOp_of_draining h)
        (setCellState_still (d := withoutSplice (s.found w) x) hstill _ _)⟩
  · have hstill : (s.found w).still = true := ready_still (runs_ready hrun) w.k
    exact ⟨fun hr => leaves_of_live_eq rfl hrun (cutoverEndOp_of_no_role h hr) hstill,
      fun hr y hy => becomes_of_onLive hrun (cutoverEndOp_of_role h hr hy) rfl⟩

end Sys2Proof.Machine

/-! ### Loads, hot writes and weight generations (R135 to R137) -/

namespace Sys2Proof.Machine

section

variable {s : State} {w : At} {d : Strand} {rq : Requester} {h : HeldLoad} {x : LoadPlace} {b : List Byte}
  {c ctx cell p target : Nat}

/-! #### What a load changes -/

/-- A control-port command reaches cells only. -/
theorem onCell_eq (d : Strand) (p : Nat) (f : Cell → Cell) :
    d.onCell p f = { d with cells := (d.onCell p f).cells } := by
  unfold Strand.onCell
  dsimp only
  split
  · rfl
  · split <;> rfl

theorem onCell_answer (d : Strand) (p c : Nat) (f : Cell → Cell) :
    (d.answer c).onCell p f = (d.onCell p f).answer c := by
  unfold Strand.onCell
  split
  · rfl
  · dsimp only [Strand.cell, Strand.answer]
    split <;> rfl

theorem loadApplyTo_eq (d : Strand) (h : HeldLoad) : loadApplyTo d h = { d with cells := (loadApplyTo d h).cells } := by
  unfold loadApplyTo
  split
  · rfl
  · exact onCell_eq d _ _

/-- The strand with a load's entries in the bank that is not active. -/
def loadInto (d : Strand) (h : HeldLoad) (x : LoadPlace) : Strand :=
  let a := ag3Of (d.cell x.phys) x.unit
  let base := otherBase (d.planOf (d.runsAs x.phys)) (d.runsAs x.phys) x.unit a.base
  d.onCell x.phys fun c => c.storeBytes a.mem ((base + x.off) % memSize a.mem) (h.bytes.drop 8)

theorem loadApplyTo_of_load (hk : h.kind ≤ 1) (hx : loadPlace d h = some x) : loadApplyTo d h = loadInto d h x := by
  rw [loadApplyTo, hx]
  dsimp only
  rw [if_pos hk]
  rfl

theorem loadInto_answer (d : Strand) (h : HeldLoad) (x : LoadPlace) (c : Nat) :
    loadInto (d.answer c) h x = (loadInto d h x).answer c := by
  unfold loadInto
  exact onCell_answer d x.phys c _

/-! #### Writes of loads (R135) -/

/-- The strand with one more load that waits. -/
def withHeld (d : Strand) (h : HeldLoad) : Strand := { d with work := { d.work with held := d.work.held ++ [h] } }

theorem loadWrite_of_waits (hok : loadOk d h = true) (hw : loadWaits d h = true) : loadWrite d h = withHeld d h := by
  simp [loadWrite, hok, hw, withHeld]

theorem loadWrite_of_not_waits (hok : loadOk d h = true) (hw : loadWaits d h = false) :
    loadWrite d h = (loadApplyTo d h).answer 0x00 := by
  simp [loadWrite, hok, hw]

/-- A write of an entry that takes a load or a hot write leaves what the entry's rule says. -/
theorem leaves_of_bankWrite {i : Instr} {index sub lo hi : Nat} {ok : Bool} (ht : s.takes w rq index sub = true)
    (hr : dictFind index sub = some ⟨lo, hi, sub, sub, 12, 0, 2, 2, 0, false, 0x0⟩) (hok : ok = true)
    (hi : exec i s = .next (dictWriteCmd s w rq ok index sub b)) (h1 : 1 ≤ b.length) (h2 : b.length ≤ 256)
    (he : entryWrite { s.pkg with out := [] } ((s.found w).answer 0xFF) rq index sub b = ({ s.pkg with out := [] }, d))
    (hd : d.still = true) (hz : d.sleep = 0) : Leaves i s w d :=
  leaves_of_takes ht hr (hok ▸ hi) (Nat.succ_ne_zero 1) (by simp [lengthOk, inR, h1, h2]) rfl
    (by rwa [noteLevel_of_ne_zero (Nat.succ_ne_zero 1)]) hd hz

theorem leaves_delayLoad (ht : s.takes w rq (0x5400 + cell) 0x01 = true) (hc : cell < 256) (h1 : 1 ≤ b.length)
    (h2 : b.length ≤ 256) (he : loadWrite ((s.found w).answer 0xFF) ⟨0, cell, b⟩ = d) (hd : d.still = true)
    (hz : d.sleep = 0) : Leaves (.delayLoad w rq cell b) s w d := by
  refine leaves_of_bankWrite ht (dictFind_of_rangeRow (lo := 0x5400) (hi := 0x54FF) rfl (by omega) (by omega))
    (decide_eq_true hc) rfl h1 h2 ?_ hd hz
  rw [entryWrite_cells _ _ _ _ _ (by omega) (by omega), writeCells, if_neg (by omega), if_neg (by omega),
    if_pos (by omega), if_pos rfl, Nat.add_sub_cancel_left, he]

theorem writeContexts_weightLoad (d : Strand) (v : Nat) (b : List Byte) :
    writeContexts d (0x8000 + ctx) 0x02 v b = loadWrite d ⟨1, ctx, b⟩ := by
  rw [writeContexts, Nat.add_sub_cancel_left]
  rfl

theorem leaves_weightLoad (ht : s.takes w rq (0x8000 + ctx) 0x02 = true) (hc : ctx < 4096) (h1 : 1 ≤ b.length)
    (h2 : b.length ≤ 256) (he : loadWrite ((s.found w).answer 0xFF) ⟨1, ctx, b⟩ = d) (hd : d.still = true)
    (hz : d.sleep = 0) : Leaves (.weightLoad w rq ctx b) s w d := by
  refine leaves_of_bankWrite ht (dictFind_of_rangeRow (lo := 0x8000) (hi := 0x8FFF) rfl (by omega) (by omega))
    (decide_eq_true hc) rfl h1 h2 ?_ hd hz
  rw [entryWrite_contexts _ _ _ _ _ (by omega) (by omega), writeContexts_weightLoad, he]

/-- What a write of a load that R135 accepts leaves: the load in its bank, or held. -/
theorem leaves_of_loadWrite {i : Instr} (hstill : (s.found w).still = true) (hsleep : (s.found w).sleep = 0)
    (hw : ∀ d, loadWrite ((s.found w).answer 0xFF) h = d → d.still = true → d.sleep = 0 → Leaves i s w d)
    (hk : h.kind ≤ 1) (hok : loadOk (s.found w) h = true) :
    (∀ x, loadWaits (s.found w) h = false → loadPlace (s.found w) h = some x →
      Leaves i s w ((loadInto (s.found w) h x).answer 0x00)) ∧
    (loadWaits (s.found w) h = true → Leaves i s w ((withHeld (s.found w) h).answer 0xFF)) := by
  refine ⟨fun x hno hx => hw _ ?_ ?_ ?_, fun hyes => hw _ (loadWrite_of_waits hok hyes) hstill hsleep⟩
  · rw [loadWrite_of_not_waits (d := (s.found w).answer 0xFF) hok hno,
      loadApplyTo_of_load (d := (s.found w).answer 0xFF) hk hx, loadInto_answer]
    rfl
  · exact (congrArg Strand.still (onCell_eq (s.found w) x.phys _)).trans hstill
  · exact (congrArg Strand.sleep (onCell_eq (s.found w) x.phys _)).trans hsleep

/-! #### Held loads (R135) -/

/-- Loads applied one after the other, each answering OK. -/
def loadsApplied (d : Strand) (l : List HeldLoad) : Strand := l.foldl (fun e h => (loadApplyTo e h).answer 0x00) d

theorem loadsApplied_eq (d : Strand) (l : List HeldLoad) :
    loadsApplied d l = { d with cells := (loadsApplied d l).cells, resp := (loadsApplied d l).resp } :=
  List.foldlRecOn (motive := fun e : Strand => e = { d with cells := e.cells, resp := e.resp }) _ _ rfl
    fun e he h _ => by
      rw [loadApplyTo_eq e h, he]
      rfl

theorem loadApplyOp_eq (d : Strand) : loadApplyOp d = { d with
    cells := (loadApplyOp d).cells
    resp := (loadApplyOp d).resp
    work := { d.work with held := d.work.held.filter fun h => loadWaits d h } } := loadsApplied_eq _ _

/-- With no load held back all go, and none is left. -/
theorem loadApplyOp_of_none_waits (h : (d.work.held.all fun h => !(loadWaits d h)) = true) :
    loadApplyOp d = loadsApplied { d with work := { d.work with held := [] } } d.work.held := by
  rw [List.all_eq_true] at h
  have hgo : d.work.held.filter (fun h => !(loadWaits d h)) = d.work.held := List.filter_eq_self.2 h
  have hstay : d.work.held.filter (fun h => loadWaits d h) = [] :=
    List.filter_eq_nil_iff.2 fun y hy => by simpa using h y hy
  rw [loadApplyOp, hgo, hstay]
  rfl

/-- With no access behind the loads nothing more is to be answered. -/
theorem loadApplyAll_of_no_access (g : Pkg) (ha : d.mgmt.asks = []) (hq : d.mgmt.queue = []) :
    loadApplyAll g d = (g, loadApplyOp d) := by
  have hmgmt : (loadApplyOp d).mgmt = d.mgmt := (congrArg Strand.mgmt (loadApplyOp_eq d) :)
  have hempty : ({ d.mgmt with asks := [], queue := [] } : Mgmt) = d.mgmt := by
    generalize d.mgmt = m at ha hq
    cases m
    cases ha
    cases hq
    rfl
  simp only [loadApplyAll, hmgmt, ha, hq, List.filter_nil, deliverAll, List.foldl_nil, drainAccess]
  rw [hempty, ← hmgmt]

/-- LOAD_APPLY with no access behind the loads: the loads that may go are applied. -/
theorem leaves_loadApply (hrun : s.runs w.k = true) (hwake : s.awake = true) (ha : (s.found w).mgmt.asks = [])
    (hq : (s.found w).mgmt.queue = []) : Leaves (.loadApply w) s w (loadApplyOp (s.found w)) := by
  have hready := runs_ready hrun
  have hlive : (s.found w).live = true := runs_live hrun
  have heq := loadApplyOp_eq (s.found w)
  have hpart : onPart s w (fun g d => if d.live then loadApplyAll g d else (g, d)) =
      s.leave w.k (loadApplyOp (s.found w)) :=
    onPart_of_ready hready w _ (by rw [if_pos hlive, loadApplyAll_of_no_access _ ha hq]) ((ready_iff s).1 hready).2.1
      ((congrArg Strand.still heq).trans (ready_still hready w.k))
  have hsleep : (loadApplyOp (s.found w)).sleep = 0 :=
    (congrArg Strand.sleep heq).trans (((awake_iff s).1 hwake).1 w.k)
  exact congrArg Host.Outcome.next
    ((congrArg shareDomains hpart).trans (shareDomains_of_awake (awake_leave hwake w.k hsleep)))

/-! #### Hot writes (R136) -/

/-- The strand with one more hot write that waits for a gap. -/
def withHot (d : Strand) (h : HeldLoad) : Strand := { d with work := { d.work with hots := d.work.hots ++ [h] } }

theorem hotWrite_of_ok (hok : loadOk d h = true) (c : Nat) :
    hotWrite (d.answer c) h = (bankStatus (withHot d h) 1 (loadBank d h).2).answer 0x00 := by
  have hok' : loadOk (d.answer c) h = true := hok
  have hb : bankStatus (withHot (d.answer c) h) 1 (loadBank d h).2 =
      (bankStatus (withHot d h) 1 (loadBank d h).2).answer c := bankStatus_answer (withHot d h) 1 (loadBank d h).2 c
  rw [hotWrite, hok']
  exact (congrArg (Strand.answer · 0x00) hb :)

theorem writeContexts_weightHot (d : Strand) (v : Nat) (b : List Byte) :
    writeContexts d (0x8000 + ctx) 0x04 v b = hotWrite d ⟨2, ctx, b⟩ := by
  rw [writeContexts, Nat.add_sub_cancel_left]
  rfl

theorem leaves_weightHot (ht : s.takes w rq (0x8000 + ctx) 0x04 = true) (hc : ctx < 4096) (h1 : 1 ≤ b.length)
    (h2 : b.length ≤ 256) (hok : loadOk (s.found w) ⟨2, ctx, b⟩ = true) :
    Leaves (.weightHot w rq ctx b) s w
      ((bankStatus (withHot (s.found w) ⟨2, ctx, b⟩) 1 (loadBank (s.found w) ⟨2, ctx, b⟩).2).answer 0x00) := by
  obtain ⟨hready, -, hsleep⟩ := takes_ready ht
  refine leaves_of_bankWrite ht (dictFind_of_rangeRow (lo := 0x8000) (hi := 0x8FFF) rfl (by omega) (by omega))
    (decide_eq_true hc) rfl h1 h2 ?_
    (bankStatus_still (d := withHot (s.found w) ⟨2, ctx, b⟩) (ready_still hready w.k))
    (bankStatus_sleep (d := withHot (s.found w) ⟨2, ctx, b⟩) hsleep)
  rw [entryWrite_contexts _ _ _ _ _ (by omega) (by omega), writeContexts_weightHot, hotWrite_of_ok hok]

/-- WGEN of a context counts one (R137). -/
def countWgen (d : Strand) (c : Nat) : Strand := d.put (0x8000 + c) 0x05 (d.get (0x8000 + c) 0x05 + 1)

/-- The strand with a hot write in the active bank of its cell, which has taken the gap; others wait on. -/
def hotLanded (d : Strand) (p : Nat) (h : HeldLoad) (rest : List HeldLoad) : Strand :=
  let e := loadApplyTo { d with work := { d.work with hots := rest } } h
  e.setCell p { e.cell p with gapHot := true }

theorem hotLanded_eq (d : Strand) (p : Nat) (h : HeldLoad) (rest : List HeldLoad) : hotLanded d p h rest =
    { d with cells := (hotLanded d p h rest).cells, work := { d.work with hots := rest } } :=
  let d' : Strand := { d with work := { d.work with hots := rest } }
  (congrArg (Strand.setCell · p { (loadApplyTo d' h).cell p with gapHot := true }) (loadApplyTo_eq d' h) :)

/-- WGEN of its context and HOT_APPLIED count a hot write that is applied. -/
def hotTaken (d : Strand) (p : Nat) (h : HeldLoad) (rest : List HeldLoad) : Strand :=
  (countWgen (hotLanded d p h rest) h.target).bump 0x5700 0x05 1

theorem hotTaken_still (hd : d.still = true) (p : Nat) (h : HeldLoad) (rest : List HeldLoad) :
    (hotTaken d p h rest).still = true :=
  (congrArg Strand.still (hotLanded_eq d p h rest)).trans hd

/-- The hot writes that go on waiting when a gap has taken one: those of its cell are put off, once. -/
def hotsLeft (d : Strand) (p : Nat) (h : HeldLoad) : List HeldLoad :=
  (d.work.hots.erase h).map fun x => if x.kind = 2 ∧ hotCell d x = p then { x with kind := 3 } else x

/-- How many hot writes a gap puts off for the first time. -/
def hotsLate (d : Strand) (p : Nat) (h : HeldLoad) : Nat :=
  ((d.work.hots.erase h).filter fun x => decide (x.kind = 2) && decide (hotCell d x = p)).length

/-- HOT_DEFERRED counts hot writes that are put off. -/
def countLate (d : Strand) (late : Nat) : Strand := if late = 0 then d else d.bump 0x5700 0x06 late

/-- A gap event while the cell runs, or after the gap has taken a hot write, applies nothing. -/
theorem hotApplyOp_of_no_gap (h : (d.cell p).running = true ∨ (d.cell p).gapHot = true) : hotApplyOp d p = d :=
  if_pos h

theorem hotApplyOp_of_gap (hr : (d.cell p).running = false) (hg : (d.cell p).gapHot = false)
    (hf : (d.work.hots.find? fun h => decide (hotCell d h = p)) = some h) :
    hotApplyOp d p =
      let e := countLate (hotTaken d p h (hotsLeft d p h)) (hotsLate d p h)
      bankStatus e 1 (loadBank e h).2 := by
  rw [hotApplyOp, if_neg (by simp [hr, hg]), hf]
  rfl

/-- A hot write that is alone on its cell puts none off. -/
theorem hotApplyOp_of_alone {rest : List HeldLoad} (hr : (d.cell p).running = false) (hg : (d.cell p).gapHot = false)
    (hh : d.work.hots = h :: rest) (hp : hotCell d h = p) (ho : ∀ x ∈ rest, hotCell d x ≠ p) :
    hotApplyOp d p = bankStatus (hotTaken d p h rest) 1 (loadBank (hotTaken d p h rest) h).2 := by
  have hf : (d.work.hots.find? fun h => decide (hotCell d h = p)) = some h := by
    rw [hh]
    exact List.find?_cons_of_pos (decide_eq_true hp)
  have hleft : hotsLeft d p h = rest := by
    rw [hotsLeft, hh, List.erase_cons_head]
    exact (List.map_congr_left (g := id) fun x hx => if_neg fun ⟨_, hc⟩ => ho x hx hc).trans (List.map_id rest)
  have hlate : hotsLate d p h = 0 := by
    rw [hotsLate, hh, List.erase_cons_head, List.length_eq_zero_iff]
    exact List.filter_eq_nil_iff.2 fun x hx => by simp [ho x hx]
  rw [hotApplyOp_of_gap hr hg hf, hleft, hlate]
  rfl

/-! #### Weight generations (R137) -/

/-- WGEN has 16 bits. -/
theorem dictWidth_wgen (hc : c < 4096) : dictWidth (locKey (0x8000 + c) 0x05) = 16 := by
  have hr : dictFind (0x8000 + c) 0x05 = some ⟨0x8000, 0x8FFF, 0x05, 0x05, 2, 2, 0, 3, 0, false, 0x0⟩ :=
    dictFind_of_rangeRow (lo := 0x8000) (hi := 0x8FFF) rfl (by omega) (by omega)
  have hi : locKey (0x8000 + c) 0x05 / 256 = 0x8000 + c := by unfold locKey; omega
  have hs : locKey (0x8000 + c) 0x05 % 256 = 0x05 := by unfold locKey; omega
  rw [dictWidth, hi, hs, hr]
  rfl

theorem countWgen_same (hd : d.regsOk = true) (hc : c < 4096) :
    (countWgen d c).get (0x8000 + c) 0x05 = (d.get (0x8000 + c) 0x05 + 1) % 2 ^ 16 := by
  rw [countWgen, Strand.get_put_same hd, dictWidth_wgen hc]

/-- A write of another location leaves WGEN alone. -/
theorem wgen_put {i j : Nat} (h : 0x8000 + c ≠ i ∨ j ≠ 0x05) (hj : j < 256) (v : Nat) :
    (d.put i j v).get (0x8000 + c) 0x05 = d.get (0x8000 + c) 0x05 :=
  d.get_put_other v (by unfold locKey; omega)

theorem countWgen_other {k : Nat} (h : c ≠ k) : (countWgen d k).get (0x8000 + c) 0x05 = d.get (0x8000 + c) 0x05 :=
  wgen_put (.inl (by omega)) (by decide) _

theorem foldl_countWgen_not_mem {l : List Nat} (h : c ∉ l) :
    (l.foldl countWgen d).get (0x8000 + c) 0x05 = d.get (0x8000 + c) 0x05 :=
  List.foldlRecOn (motive := fun e : Strand => e.get (0x8000 + c) 0x05 = d.get (0x8000 + c) 0x05) _ _ rfl
    fun _ he _ hk => (countWgen_other (ne_of_mem_of_not_mem hk h).symm).trans he

theorem foldl_countWgen_regsOk (hd : d.regsOk = true) (l : List Nat) : (l.foldl countWgen d).regsOk = true :=
  List.foldlRecOn (motive := fun e : Strand => e.regsOk = true) _ _ hd fun _ he _ _ => Strand.put_regsOk he _ _ _

/-- A context that stands once in a list is counted once. -/
theorem foldl_countWgen_mem {l : List Nat} (hd : d.regsOk = true) (hc : c < 4096) (hl : l.Nodup) (h : c ∈ l) :
    (l.foldl countWgen d).get (0x8000 + c) 0x05 = (d.get (0x8000 + c) 0x05 + 1) % 2 ^ 16 := by
  obtain ⟨before, after, rfl⟩ := List.append_of_mem h
  have hbefore : c ∉ before := fun hb => (List.nodup_append.1 hl).2.2 c hb c List.mem_cons_self rfl
  have hafter : c ∉ after := (List.nodup_cons.1 (List.nodup_append.1 hl).2.1).1
  rw [List.foldl_append, List.foldl_cons, foldl_countWgen_not_mem hafter,
    countWgen_same (foldl_countWgen_regsOk hd before) hc, foldl_countWgen_not_mem hbefore]

theorem stepContexts_nodup (m : SMap Byte) (target : Nat) : (stepContexts m target).Nodup := List.nodup_range.filter _

/-- The status of weight banks is CTX_STATUS, not WGEN. -/
theorem wgen_bankStatus (d : Strand) (c target : Nat) :
    (bankStatus d 1 target).get (0x8000 + c) 0x05 = d.get (0x8000 + c) 0x05 :=
  List.foldlRecOn (motive := fun e : Strand => e.get (0x8000 + c) 0x05 = d.get (0x8000 + c) 0x05) _ _ rfl
    fun _ he _ _ => (wgen_put (.inr (by decide)) (by decide) _).trans he

/-- The strand with a step's other bank of weights active and the copy of R135 to come. -/
def bankTaken (d : Strand) (target epoch : Nat) : Strand :=
  let key := bankKey 1 target
  { d with work := { d.work with
      swaps := d.work.swaps.filter fun s => !(decide (s.kind = 1) && decide (s.target = target))
      bank := smSet zeroAt d.work.bank key (1 - smGet zeroAt d.work.bank key)
      bankFrom := smSet zeroAt d.work.bankFrom key epoch
      copying := smSet zeroAt d.work.copying key 1 } }

/-- A swap of weights counts in WGEN of every context of its step. -/
theorem swapTake_weights (d : Strand) (target epoch : Nat) : swapTake d 1 target epoch =
    bankStatus ((stepContexts d.plan.active target).foldl countWgen (bankTaken d target epoch)) 1 target := rfl

theorem wgen_swapTake_mem (hd : d.regsOk = true) (hc : c < 4096) (h : c ∈ stepContexts d.plan.active target)
    (epoch : Nat) :
    (swapTake d 1 target epoch).get (0x8000 + c) 0x05 = (d.get (0x8000 + c) 0x05 + 1) % 2 ^ 16 := by
  rw [swapTake_weights, wgen_bankStatus]
  exact foldl_countWgen_mem (d := bankTaken d target epoch) hd hc (stepContexts_nodup d.plan.active target) h

theorem wgen_swapTake_not_mem (h : c ∉ stepContexts d.plan.active target) (epoch : Nat) :
    (swapTake d 1 target epoch).get (0x8000 + c) 0x05 = d.get (0x8000 + c) 0x05 := by
  rw [swapTake_weights, wgen_bankStatus]
  exact foldl_countWgen_not_mem (d := bankTaken d target epoch) h

theorem wgen_countLate (d : Strand) (c late : Nat) :
    (countLate d late).get (0x8000 + c) 0x05 = d.get (0x8000 + c) 0x05 := by
  unfold countLate
  split
  · rfl
  · exact wgen_put (.inl (by omega)) (by decide) _

theorem wgen_hotTaken (hd : d.regsOk = true) (ht : h.target < 4096) (p : Nat) (rest : List HeldLoad) :
    (hotTaken d p h rest).get (0x8000 + c) 0x05 =
      if h.target = c then (d.get (0x8000 + c) 0x05 + 1) % 2 ^ 16 else d.get (0x8000 + c) 0x05 := by
  have hget : (hotLanded d p h rest).get (0x8000 + c) 0x05 = d.get (0x8000 + c) 0x05 :=
    (congrArg (fun e : Strand => e.get (0x8000 + c) 0x05) (hotLanded_eq d p h rest) :)
  have hok : (hotLanded d p h rest).regsOk = true := (congrArg Strand.regsOk (hotLanded_eq d p h rest)).trans hd
  rw [hotTaken, Strand.bump, wgen_put (.inl (by omega)) (by decide), ← hget]
  split
  case isTrue hc => exact hc ▸ countWgen_same hok ht
  case isFalse hc => exact countWgen_other (Ne.symm hc)

/-- A hot write that is applied counts in WGEN of its own context. -/
theorem wgen_hotApplyOp (hd : d.regsOk = true) (ht : h.target < 4096) (hr : (d.cell p).running = false)
    (hg : (d.cell p).gapHot = false) (hf : (d.work.hots.find? fun h => decide (hotCell d h = p)) = some h) :
    (hotApplyOp d p).get (0x8000 + c) 0x05 =
      if h.target = c then (d.get (0x8000 + c) 0x05 + 1) % 2 ^ 16 else d.get (0x8000 + c) 0x05 := by
  rw [hotApplyOp_of_gap hr hg hf]
  dsimp only
  rw [wgen_bankStatus, wgen_countLate, wgen_hotTaken hd ht]

end

/-- Settles O14: a load lands in its bank or is held, the held ones are applied in their order, and a gap takes the
first hot write of its cell. -/
theorem bankWrites : Obligations.BankWrites := by
  refine ⟨fun s w rq n b h1 h2 => ?_, fun s w hrun hwake => ?_, fun s w rq n b => ?_⟩
  · intro d loads
    refine ⟨fun hn ht => ?_, fun hn ht => ?_⟩
    · obtain ⟨hready, -, hsleep⟩ := takes_ready ht
      exact leaves_of_loadWrite (ready_still hready w.k) hsleep (fun _ => leaves_delayLoad ht hn h1 h2) (Nat.zero_le 1)
    · obtain ⟨hready, -, hsleep⟩ := takes_ready ht
      exact leaves_of_loadWrite (ready_still hready w.k) hsleep (fun _ => leaves_weightLoad ht hn h1 h2) (Nat.le_refl 1)
  · intro d ha hq hh
    have hop := loadApplyOp_of_none_waits hh
    refine ⟨_, leaves_loadApply hrun hwake ha hq, ?_, (State.strand_leave_same _ _ _).trans hop⟩
    rw [State.strand_leave_same, hop, loadsApplied_eq]
  · intro d
    refine ⟨fun h1 h2 hn ht hok => leaves_weightHot ht hn h1 h2 hok, fun p h rest hrun hr hg hh hp ho => ?_,
      fun p hrun h => ?_⟩
    · have hstill : d.still = true := ready_still (runs_ready hrun) w.k
      exact leaves_of_live_eq rfl hrun (hotApplyOp_of_alone hr hg hh hp ho)
        (bankStatus_still (hotTaken_still hstill p h rest))
    · exact leaves_of_live_eq rfl hrun (hotApplyOp_of_no_gap h) (ready_still (runs_ready hrun) w.k)

/-- Settles O16: a swap counts each context of its step once, and a hot write its own context. -/
theorem weightGenerations : Obligations.WeightGenerations :=
  fun _ _ hd hc => ⟨fun _ epoch h => wgen_swapTake_mem hd hc h epoch, fun _ epoch h => wgen_swapTake_not_mem h epoch,
    fun _ _ hr hg hf ht => wgen_hotApplyOp hd ht hr hg hf, fun _ => hotApplyOp_of_no_gap⟩

end Sys2Proof.Machine

/-! PROOFS. One register of a cell through its control port (R181, R185), loads, checks and commits of the SHADOW plan
(R154, R165 to R167, R174), hot patches (R184). -/

/-! ### Control-port commands of one register (R181, R185) -/

namespace Sys2Proof.Machine

section

variable {s : State} {w : At} {d : Strand} {i : Instr} {p q arg addr : Nat} {m : CellMem} {f : Cell → Cell}

/-- A cell with a mirror takes a control-port command with the named spare. -/
theorem Strand.onCell_some (hp : p < 272) (hm : (d.cell p).mirror = some q) (hq : q ≠ p) (f : Cell → Cell) :
    d.onCell p f = (d.setCell p (f (d.cell p))).setCell q (f (d.cell q)) := by
  simp only [Strand.onCell, if_neg (Nat.not_le.2 hp), hm, Strand.cell_setCell_other _ _ hq]

theorem leaves_onCell_none (he : exec i s = .next (onLive s w fun d => d.onCell p f)) (hrun : s.runs w.k = true)
    (hp : p < 272) (hm : ((s.strand w.k).cell p).mirror = none) :
    Leaves i s w ((s.found w).setCell p (f ((s.strand w.k).cell p))) :=
  leaves_of_live_eq he hrun (Strand.onCell_none (d := s.found w) hp hm f) (found_setCell_still hrun p _)

theorem leaves_onCell_some (he : exec i s = .next (onLive s w fun d => d.onCell p f)) (hrun : s.runs w.k = true)
    (hp : p < 272) (hm : ((s.strand w.k).cell p).mirror = some q) (hq : q ≠ p) :
    Leaves i s w (((s.found w).setCell p (f ((s.strand w.k).cell p))).setCell q (f ((s.strand w.k).cell q))) :=
  leaves_of_live_eq he hrun (Strand.onCell_some (d := s.found w) hp hm hq f)
    (still_of_eq (found_setCell_still hrun p (f ((s.strand w.k).cell p))) rfl rfl)

/-- SELECT names one of the four memories by the low two bits of ADDR. -/
theorem cpSelect_of_memCode (h : addr % 4 = memCode m) (c : Cell) : cpSelect addr c = { c with sel := m } := by
  unfold cpSelect
  cases m with
  | totals => exact absurd h (Nat.mod_lt addr (by decide)).ne
  | _ => rw [h]; rfl

theorem mirrorOp_start (hp : p < 272) (hb : bit arg 0 = true) (ha : bits arg 16 9 < 272) :
    mirrorOp d p arg = d.setCell p { d.cell p with mirror := some (bits arg 16 9) } := by
  rw [mirrorOp, if_neg (by omega), if_pos hb]

theorem mirrorOp_stop (hp : p < 272) (hb : bit arg 0 = false) :
    mirrorOp d p arg = d.setCell p { d.cell p with mirror := none } := by
  rw [mirrorOp, if_neg (by simp [hb, hp]), if_neg (by simp [hb])]

/-- A cell whose register holds what is written to it stays as it is. -/
theorem Cell.mirror_none_eq {c : Cell} (h : c.mirror = none) : { c with mirror := none } = c := by
  rw [← h]

/-- OWNERS clears the tags of all 64 tiles. -/
theorem cpOwners_eq {c : Cell} (hw : smWf (fun _ => ({} : Tile)) c.tiles = true) :
    ∃ tiles, cpOwners c = { c with tiles := tiles } ∧ ∀ n, smGet (fun _ => ({} : Tile)) tiles n =
      if n < 64 then { c.tile n with owner := none, collided := false } else c.tile n := by
  obtain ⟨tiles, hfold, -, hget⟩ := ownersCleared c (List.range 64) hw
  exact ⟨tiles, hfold, by simpa only [List.mem_range] using hget⟩

end

/-- Settles O6: each command is one function on the cell, which the control port applies to the cell and to its
mirror. -/
theorem controlPort : Obligations.ControlPort := by
  refine ⟨fun s w p hrun hp hm => ?_, fun s w p q hrun hp hm hq => ?_⟩
  · intro c sets
    refine ⟨fun m addr h => ?_, fun unit arg => leaves_onCell_none (f := cpSetN0 unit arg) rfl hrun hp hm,
      fun arg => leaves_onCell_none (f := fun c => { c with gateOpen := bit arg 0 }) rfl hrun hp hm,
      fun arg hb ha => leaves_of_live_eq rfl hrun (mirrorOp_start hp hb ha) (found_setCell_still hrun p _),
      fun arg hb => ?_, fun hw => ?_⟩
    · exact cpSelect_of_memCode h c ▸ leaves_onCell_none (i := .select w p addr) rfl hrun hp hm
    · have hstop := leaves_of_live_eq (i := .mirror w p arg) rfl hrun (mirrorOp_stop hp hb)
        (found_setCell_still hrun p _)
      rwa [found_cell, Cell.mirror_none_eq hm] at hstop
    · obtain ⟨tiles, heq, hget⟩ := cpOwners_eq hw
      exact ⟨tiles, heq ▸ leaves_onCell_none (i := .owners w p) rfl hrun hp hm, hget⟩
  · exact ⟨fun addr arg => leaves_onCell_some rfl hrun hp hm hq, fun addr => leaves_onCell_some rfl hrun hp hm hq,
      fun unit arg => leaves_onCell_some rfl hrun hp hm hq, fun unit arg => leaves_onCell_some rfl hrun hp hm hq,
      leaves_onCell_some rfl hrun hp hm hq⟩

end Sys2Proof.Machine

/-! ### The SHADOW plan: loads and checks (R154, R165 to R167) -/

namespace Sys2Proof.Machine

section

variable {s : State} {w : At} {g : Pkg} {d : Strand} {rq : Requester} {i : Instr} {b : List Byte}
  {sub v type size : Nat}

/-- A write of a plan entry of fixed size leaves what the entry's rule says. -/
theorem leaves_of_planReg (ht : s.takes w rq 0x6000 sub = true)
    (hr : dictFind 0x6000 sub = some ⟨0x6000, 0x6000, sub, sub, type, size, 2, 1, 0, false, 0x0⟩) (hs : size ≠ 0)
    (hi : exec i s = .next (regWrite s w rq true 0x6000 sub v)) (hv : v < 256 ^ size) (hty : type = 0 → v ≤ 1)
    (he : ∀ b, writePlans ((s.found w).answer 0xFF) 0x6000 sub v b = d) (hd : d.still = true) (hz : d.sleep = 0) :
    Leaves i s w d := by
  refine leaves_of_regWrite ht hr hs hi (Nat.succ_ne_zero 1) hv hty (fun b hb => ?_) hd hz
  rw [noteLevel_of_ne_zero (Nat.succ_ne_zero 0), entryWrite_plans _ _ _ _ _ (by decide) (by decide), hb, he]

theorem setShadow_sleep (d : Strand) (n : Nat) : (d.setShadow n).sleep = d.sleep := sleep_put (by decide) _ _

/-! #### PLAN_LOAD (R165) -/

/-- A payload of PLAN_LOAD that is no image data at an offset: too short, misaligned, or beyond the slot. -/
def loadBad (b : List Byte) : Bool :=
  decide (b.length < 8) || decide (fieldAt b 0 4 % 8 ≠ 0) || decide (0x01000000 < fieldAt b 0 4 + (b.length - 8))

theorem loadBad_iff (b : List Byte) : loadBad b = true ↔
    b.length < 8 ∨ fieldAt b 0 4 % 8 ≠ 0 ∨ 0x01000000 < fieldAt b 0 4 + (b.length - 8) := by
  simp [loadBad, or_assoc]

theorem planLoadOp_of_busy (h : shadowBusy d = true) (c : Nat) : planLoadOp (d.answer c) b = d.answer 0x01 := if_pos h

theorem planLoadOp_of_bad (h : shadowBusy d = false) (hb : loadBad b = true) (c : Nat) :
    planLoadOp (d.answer c) b = d.answer 0x02 := by
  have h' : shadowBusy (d.answer c) = false := h
  rw [planLoadOp, h', if_neg Bool.false_ne_true, if_pos ((loadBad_iff b).1 hb)]
  rfl

/-- An emptied slot that is LOADING is the SHADOW slot still. -/
theorem shadowBase_emptied (d : Strand) : ((emptySlot d).setShadow 1).shadowBase = d.shadowBase :=
  congrArg (fun n => 0x0E000000 + (1 - n) * 0x01000000) ((emptySlot d).get_put_other 1 (by decide))

theorem slotWrite_eq (d : Strand) (off : Nat) (l : List Byte) : slotWrite d off l =
    (if off = 0 then (emptySlot d).setShadow 1 else d).storeWrite (d.shadowBase + off) l := by
  unfold slotWrite
  dsimp only
  split
  · rw [shadowBase_emptied]
  · rfl

theorem slotWrite_answer (d : Strand) (off c : Nat) (l : List Byte) :
    slotWrite (d.answer c) off l = (slotWrite d off l).answer c := by
  unfold slotWrite
  split <;> rfl

theorem planLoadOp_of_good (h : shadowBusy d = false) (hb : loadBad b = false) (c : Nat) :
    planLoadOp (d.answer c) b = (slotWrite d (fieldAt b 0 4) (b.drop 8)).answer 0x00 := by
  have h' : shadowBusy (d.answer c) = false := h
  rw [planLoadOp, h', if_neg Bool.false_ne_true, if_neg (by simp [← loadBad_iff, hb]), slotWrite_answer]
  rfl

theorem slotWrite_still (h : d.still = true) (off : Nat) (l : List Byte) : (slotWrite d off l).still = true := by
  unfold slotWrite
  split <;> exact h

theorem slotWrite_sleep (d : Strand) (off : Nat) (l : List Byte) : (slotWrite d off l).sleep = d.sleep := by
  unfold slotWrite
  split
  · exact setShadow_sleep (emptySlot d) 1
  · rfl

theorem leaves_planLoad (ht : s.takes w rq 0x6000 0x01 = true) (h1 : 1 ≤ b.length) (h2 : b.length ≤ 256)
    (he : planLoadOp ((s.found w).answer 0xFF) b = d) (hd : d.still = true) (hz : d.sleep = 0) :
    Leaves (.planLoad w rq b) s w d := by
  have hr : dictFind 0x6000 0x01 = some ⟨0x6000, 0x6000, 0x01, 0x01, 12, 0, 2, 1, 0, false, 0x0⟩ := rfl
  refine leaves_of_takes ht hr rfl (by decide) (by simp [lengthOk, inR, h1, h2]) rfl ?_ hd hz
  rw [noteLevel_of_ne_zero (by decide), entryWrite_plans _ _ _ _ _ (by decide) (by decide), ← he]
  rfl

/-! #### PLAN_CHECK (R166) -/

theorem planCheckOp_of_busy (h : shadowBusy d = true) (c : Nat) : planCheckOp (d.answer c) 1 = d.answer 0x01 := if_pos h

theorem planCheckOp_of_free (h : shadowBusy d = false) (c : Nat) :
    planCheckOp (d.answer c) 1 = ((d.setShadow 2).put 0x6001 0x01 1).answer 0x00 := by
  have h' : shadowBusy (d.answer c) = false := h
  rw [planCheckOp, h']
  rfl

theorem leaves_planCheck (ht : s.takes w rq 0x6000 0x02 = true) (he : planCheckOp ((s.found w).answer 0xFF) 1 = d)
    (hd : d.still = true) (hz : d.sleep = 0) : Leaves (.planCheck w rq 1) s w d :=
  leaves_of_planReg ht rfl (by decide) rfl (by decide) (fun _ => Nat.le_refl 1) (fun _ => he) hd hz

/-! #### The end of a check (R167) -/

/-- The latencies are dictionary values. -/
theorem fillLatencies_eq (d : Strand) (m : SMap Byte) :
    fillLatencies d m = { d with regs := (fillLatencies d m).regs } := by
  have hput (e : Strand) (he : e = { d with regs := e.regs }) (j k v : Nat) :
      e.put j k v = { d with regs := (e.put j k v).regs } := by
    rw [he]
    rfl
  unfold fillLatencies
  refine hput _ ?_ _ _ _
  refine List.foldlRecOn (motive := fun e : Strand => e = { d with regs := e.regs }) _ _ rfl fun e he n _ => ?_
  split
  · exact hput e he _ _ _
  · exact he

theorem fillLatencies_still (d : Strand) (m : SMap Byte) : (fillLatencies d m).still = d.still :=
  (congrArg Strand.still (fillLatencies_eq d m) :)

theorem fillLatencies_plan (d : Strand) (m : SMap Byte) : (fillLatencies d m).plan = d.plan :=
  (congrArg Strand.plan (fillLatencies_eq d m) :)

/-- The strand with its SHADOW plan CHECKED, and the result of the check. -/
def checkMarked (d : Strand) : Strand :=
  (((d.setShadow 3).put 0x6001 0x01 2).put 0x6001 0x02 (256 * b2n (checkWarn d d.shadowImage))).put 0x6001 0x03 0

/-- The strand with its present DMA rate noted as the one that the check rests on. -/
def withRateChecked (d : Strand) : Strand := { d with plan := { d.plan with rateChecked := d.get 0x7100 0x01 } }

theorem withRateChecked_still (d : Strand) : (withRateChecked d).still = d.still := rfl

theorem withRateChecked_recommit (d : Strand) : (withRateChecked d).plan.recommit = d.plan.recommit := rfl

/-- The strand as a passed check leaves it, with the latencies that the plan will promise. -/
def checkPassed (d : Strand) : Strand := withRateChecked (fillLatencies (checkMarked d) d.shadowImage)

theorem checkPassed_still (h : d.still = true) : (checkPassed d).still = true := by
  rw [checkPassed, withRateChecked_still, fillLatencies_still]
  exact h

theorem checkPassed_recommit (d : Strand) : (checkPassed d).plan.recommit = d.plan.recommit := by
  rw [checkPassed, withRateChecked_recommit, fillLatencies_plan]
  rfl

/-- Without a recommit to come a passed check commits nothing. -/
theorem planCheckDoneOp_of_pass (h2 : d.shadowState = 2) (hv : checkVerdict g d d.shadowImage = none)
    (hr : d.plan.recommit = false) : planCheckDoneOp g d = checkPassed d := by
  have hr' : ¬(checkPassed d).plan.recommit = true := by simp [checkPassed_recommit, hr]
  rw [planCheckDoneOp, if_neg (not_not.2 h2), hv]
  unfold checkPassed withRateChecked checkMarked at hr' ⊢
  exact if_neg hr'

/-- PLAN_CHECK_DONE of a plan that passes, with no recommit to come. -/
theorem leaves_planCheckDone_of_pass (hrun : s.runs w.k = true) (h2 : (s.found w).shadowState = 2)
    (hv : checkVerdict { s.pkg with out := [] } (s.found w) (s.found w).shadowImage = none)
    (hr : (s.found w).plan.recommit = false) : Leaves (.planCheckDone w) s w (checkPassed (s.found w)) :=
  leaves_of_becomes (runs_ready hrun) (checkPassed_still (ready_still (runs_ready hrun) w.k))
    (becomes_of_onLivePkg hrun (planCheckDoneOp_of_pass h2 hv hr) rfl)

/-- The strand with its SHADOW plan FAILED: the first condition that does not hold and its place. -/
def checkFailed (d : Strand) (x : Nat × Nat × Nat) : Strand :=
  let e := ((d.setShadow 4).put 0x6001 0x01 3).put 0x6001 0x02 (x.1 + x.2.1 * 65536)
  let e := { e with plan := { e.plan with recommit := false } }
  (e.put 0x6001 0x03 x.2.2).raise 0x40 0xFFFF

theorem planCheckDoneOp_of_fail {x : Nat × Nat × Nat} (h2 : d.shadowState = 2)
    (hv : checkVerdict g d d.shadowImage = some x) : planCheckDoneOp g d = checkFailed d x := by
  rw [planCheckDoneOp, if_neg (not_not.2 h2), hv]
  rfl

/-- PLAN_CHECK_DONE of a plan that fails. -/
theorem becomes_planCheckDone_of_fail {x : Nat × Nat × Nat} (hrun : s.runs w.k = true)
    (h2 : (s.found w).shadowState = 2)
    (hv : checkVerdict { s.pkg with out := [] } (s.found w) (s.found w).shadowImage = some x) :
    Becomes (.planCheckDone w) s w (checkFailed (s.found w) x) :=
  becomes_of_onLivePkg hrun (planCheckDoneOp_of_fail h2 hv) rfl

end

/-- Settles O17: each write takes the branch of its rule that the hypotheses choose, and the end of a check that of its
verdict. -/
theorem planLoadsAndChecks : Obligations.PlanLoadsAndChecks := by
  refine ⟨fun s w rq b h1 h2 ht => ?_, fun s w rq => ?_⟩
  · intro d off bad
    obtain ⟨hready, -, hsleep⟩ := takes_ready ht
    have hstill : d.still = true := ready_still hready w.k
    have hgood (hbusy : shadowBusy d = false) (hbad : loadBad b = false) :
        Leaves (.planLoad w rq b) s w ((slotWrite d off (b.drop 8)).answer 0x00) :=
      leaves_planLoad ht h1 h2 (planLoadOp_of_good hbusy hbad _) (slotWrite_still hstill off (b.drop 8))
        ((slotWrite_sleep d off (b.drop 8)).trans hsleep)
    rw [slotWrite_eq] at hgood
    exact ⟨hgood,
      fun hbusy hbad => leaves_planLoad ht h1 h2 (planLoadOp_of_bad hbusy hbad _) hstill hsleep,
      fun hbusy => leaves_planLoad ht h1 h2 (planLoadOp_of_busy hbusy _) hstill hsleep⟩
  · intro d g
    refine ⟨fun ht hbusy => ?_, fun ht hbusy => ?_, fun hrun hs hv hr => ?_,
      fun hrun hs x hv => becomes_planCheckDone_of_fail hrun hs hv⟩
    · obtain ⟨hready, -, hsleep⟩ := takes_ready ht
      exact leaves_planCheck ht (planCheckOp_of_free hbusy _) (ready_still hready w.k)
        ((sleep_put (by decide) _ _).trans ((setShadow_sleep d 2).trans hsleep))
    · obtain ⟨hready, -, hsleep⟩ := takes_ready ht
      exact leaves_planCheck ht (planCheckOp_of_busy hbusy _) (ready_still hready w.k) hsleep
    · have hpass : Leaves (.planCheckDone w) s w (checkPassed d) := leaves_planCheckDone_of_pass hrun hs hv hr
      unfold checkPassed withRateChecked checkMarked at hpass
      exact hpass

end Sys2Proof.Machine

/-! ### Commits asked for and taken back (R174) -/

namespace Sys2Proof.Machine

section

variable {s : State} {w : At} {d : Strand} {rq : Requester} {e v : Nat}

/-! #### PLAN_COMMIT -/

theorem planCommitOp_of_waiting (h : d.plan.pend.isSome = true) (c : Nat) :
    planCommitOp (d.answer c) v = commitNo d 4 := if_pos h

theorem planCommitOp_of_not_checked (h : d.plan.pend = none) (hs : d.shadowState ≠ 3) (c : Nat) :
    planCommitOp (d.answer c) v = commitNo d 2 :=
  (if_neg (by simp [h])).trans (if_pos hs)

/-- The boundary that a write of PLAN_COMMIT names is too near. -/
def commitLate (d : Strand) (v : Nat) : Bool := decide (v ≠ 0) && !(inTime d.now v)

theorem commitLate_iff (d : Strand) (v : Nat) : commitLate d v = true ↔ v ≠ 0 ∧ inTime d.now v = false := by
  simp [commitLate]

theorem planCommitOp_of_late (h : d.plan.pend = none) (hs : d.shadowState = 3) (hl : commitLate d v = true) (c : Nat) :
    planCommitOp (d.answer c) v = commitNo d 3 :=
  (if_neg (by simp [h])).trans ((if_neg (not_not.2 hs)).trans (if_pos ((commitLate_iff d v).1 hl)))

theorem planCommitOp_of_ok (h : d.plan.pend = none) (hs : d.shadowState = 3) (hl : commitLate d v = false) (c : Nat) :
    planCommitOp (d.answer c) v = (commitAt d (if v = 0 then boundaryAfter d.now else v)).answer 0x00 :=
  (if_neg (by simp [h])).trans ((if_neg (not_not.2 hs)).trans (if_neg (by simp [← commitLate_iff, hl])))

theorem commitAt_sleep (d : Strand) (e : Nat) : (commitAt d e).sleep = d.sleep :=
  (sleep_put (d := d.setShadow 5) (by decide) 0x08 e).trans (setShadow_sleep d 5)

theorem commitNo_sleep (d : Strand) (n : Nat) : (commitNo d n).sleep = d.sleep :=
  sleep_put (d := d) (i := 0x6000) (by decide) 0x09 n

theorem leaves_planCommit {x : Strand} (ht : s.takes w rq 0x6000 0x03 = true) (hv : v < 2 ^ 64)
    (he : planCommitOp ((s.found w).answer 0xFF) v = x) (hd : x.still = true) (hz : x.sleep = 0) :
    Leaves (.planCommit w rq v) s w x :=
  leaves_of_planReg (type := 4) (size := 8) ht rfl (by decide) rfl (by simpa using hv) (by simp) (fun _ => he) hd hz

/-! #### PLAN_CANCEL -/

/-- The strand without a pending commit, and without one to come after a check. -/
def withoutCommit (d : Strand) : Strand := { d with plan := { d.plan with pend := none, recommit := false } }

theorem planCancelOp_in_time (h : d.plan.pend = some e) (ht : inTime d.now e = true) (c : Nat) :
    planCancelOp (d.answer c) 1 = (((withoutCommit d).setShadow 3).put 0x6000 0x09 7).answer 0x00 := by
  have h' : (d.answer c).plan.pend = some e := h
  have ht' : inTime (d.answer c).now e = true := ht
  rw [planCancelOp, if_neg (by decide), h']
  dsimp only
  rw [if_pos ht']
  rfl

theorem planCancelOp_late (h : d.plan.pend = some e) (ht : inTime d.now e = false) (c : Nat) :
    planCancelOp (d.answer c) 1 = d.answer 0x01 := by
  have h' : (d.answer c).plan.pend = some e := h
  have ht' : inTime (d.answer c).now e = false := ht
  rw [planCancelOp, if_neg (by decide), h']
  dsimp only
  rw [ht']
  rfl

/-- Without a commit to take back, a slot that is LOADING is emptied. -/
theorem planCancelOp_no_commit (h : d.plan.pend = none) (c : Nat) : planCancelOp (d.answer c) 1 =
    if d.shadowState = 1 then ((emptySlot d).setShadow 0).answer 0x00 else d.answer 0x01 := by
  have h' : (d.answer c).plan.pend = none := h
  rw [planCancelOp, if_neg (by decide), h']
  rfl

theorem leaves_planCancel {x : Strand} (ht : s.takes w rq 0x6000 0x04 = true)
    (he : planCancelOp ((s.found w).answer 0xFF) 1 = x) (hd : x.still = true) (hz : x.sleep = 0) :
    Leaves (.planCancel w rq 1) s w x :=
  leaves_of_planReg ht rfl (by decide) rfl (by decide) (fun _ => Nat.le_refl 1) (fun _ => he) hd hz

end

/-- Settles O18: the hypotheses choose one refusal, or the commit; taking it back turns on its boundary, and without a
commit on LOADING. -/
theorem planCommitsAndCancels : Obligations.PlanCommitsAndCancels := by
  refine ⟨fun s w rq v hv ht => ?_, fun s w rq ht => ?_⟩
  · intro d late e
    obtain ⟨hready, -, hsleep⟩ := takes_ready ht
    have hstill : d.still = true := ready_still hready w.k
    have hno (n : Nat) (h : planCommitOp (d.answer 0xFF) v = commitNo d n) :
        Leaves (.planCommit w rq v) s w (commitNo d n) :=
      leaves_planCommit ht hv h hstill ((commitNo_sleep d n).trans hsleep)
    exact ⟨fun hp => hno 4 (planCommitOp_of_waiting hp _), fun hp hs => hno 2 (planCommitOp_of_not_checked hp hs _),
      fun hp hs hl => hno 3 (planCommitOp_of_late hp hs hl _),
      fun hp hs hl => leaves_planCommit ht hv (planCommitOp_of_ok hp hs hl _) hstill
        ((commitAt_sleep d e).trans hsleep)⟩
  · intro d
    obtain ⟨hready, -, hsleep⟩ := takes_ready ht
    have hstill : d.still = true := ready_still hready w.k
    refine ⟨fun e hp hi => leaves_planCancel ht (planCancelOp_in_time hp hi _) hstill
        ((sleep_put (by decide) _ _).trans ((setShadow_sleep (withoutCommit d) 3).trans hsleep)),
      fun e hp hi => leaves_planCancel ht (planCancelOp_late hp hi _) hstill hsleep,
      fun hp hs => ?_, fun hp hs => ?_⟩
    · exact leaves_planCancel ht ((planCancelOp_no_commit hp _).trans (if_pos hs)) hstill
        ((setShadow_sleep (emptySlot d) 0).trans hsleep)
    · exact leaves_planCancel ht ((planCancelOp_no_commit hp _).trans (if_neg hs)) hstill hsleep

end Sys2Proof.Machine

/-! ### Hot patches (R184) -/

namespace Sys2Proof.Machine

section

variable {s : State} {w : At} {d : Strand} {rq : Requester} {b : List Byte}

/-- The ACTIVE plan, where there is one, allows hot patches. -/
def allowsPatches (d : Strand) : Bool := d.hasPlan && bit (imgFlags d.plan.active) 1

theorem hotPatchOp_of_ok (hp : allowsPatches d = true) (hb : patchOk d b = true) (c : Nat) : hotPatchOp (d.answer c) b =
    ({ d with work := { d.work with patches := d.work.patches ++ [b] } } : Strand).answer 0x00 :=
  (if_pos hp).trans (if_pos hb)

theorem hotPatchOp_of_bad (hp : allowsPatches d = true) (hb : patchOk d b = false) (c : Nat) :
    hotPatchOp (d.answer c) b = d.answer 0x02 :=
  (if_pos hp).trans (if_neg (Bool.eq_false_iff.1 hb))

theorem hotPatchOp_of_not_allowed (hp : allowsPatches d = false) (c : Nat) :
    hotPatchOp (d.answer c) b = d.answer 0x01 :=
  if_neg (Bool.eq_false_iff.1 hp)

/-- PLAN_HOT_PATCH has level 0, so its write keeps the requester's session alive. -/
theorem leaves_planHotPatch (ht : s.takes w rq 0x6000 0x0C = true) (h1 : 1 ≤ b.length) (h2 : b.length ≤ 256)
    (he : hotPatchOp (((s.found w).touchSession rq).answer 0xFF) b = d) (hd : d.still = true) (hz : d.sleep = 0) :
    Leaves (.planHotPatch w rq b) s w d := by
  have hr : dictFind 0x6000 0x0C = some ⟨0x6000, 0x6000, 0x0c, 0x0c, 12, 0, 2, 0, 0, false, 0x0⟩ := rfl
  refine leaves_of_takes ht hr rfl (by decide) (by simp [lengthOk, inR, h1, h2]) rfl ?_ hd hz
  rw [entryWrite_plans _ _ _ _ _ (by decide) (by decide), ← he]
  rfl

/-- The strand with hot patch `b` taken from those that wait: it is in the parameter memory, and the AG0 offset of its
unit is reset. -/
def patched (d : Strand) (b : List Byte) (rest : List (List Byte)) : Strand :=
  let l := fieldAt b 0 1
  let e := { d with work := { d.work with patches := rest }
                    plan := { d.plan with patched := (l :: d.plan.patched).dedup } }
  e.onCell (d.physOf l) fun c =>
    { (c.storeBytes 3 (64 * fieldAt b 1 1 + fieldAt b 2 2) (b.drop 8)).dropAg0 (fieldAt b 1 1) with lastKF := none }

/-- The hot patch that has waited longest is applied when its cell does not run. -/
theorem hotPatchApplyOp_of_gap {rest : List (List Byte)} (h : d.work.patches = b :: rest)
    (hr : (d.cell (d.physOf (fieldAt b 0 1))).running = false) :
    hotPatchApplyOp d = shadowStale ((patched d b rest).raise 0x47 (fieldAt b 0 1)) := by
  have hf : (d.work.patches.find? fun b => !(d.cell (d.physOf (fieldAt b 0 1))).running) = some b := by
    rw [h]
    exact List.find?_cons_of_pos (by simp [hr])
  have hleft : d.work.patches.erase b = rest := by rw [h, List.erase_cons_head]
  rw [hotPatchApplyOp, hf]
  dsimp only
  rw [hleft]
  rfl

end

/-- Settles O19: the plan and the payload choose the answer of the write; the sequencer takes the patch at the front. -/
theorem hotPatches : Obligations.HotPatches := by
  intro s w rq b d
  refine ⟨fun h1 h2 ht => ?_, fun rest hrun => ?_⟩
  · obtain ⟨hready, -, hsleep⟩ := takes_ready ht
    have hstill : d.still = true := ready_still hready w.k
    exact ⟨fun hp hb => leaves_planHotPatch ht h1 h2 (hotPatchOp_of_ok hp hb _) hstill hsleep,
      fun hp hb => leaves_planHotPatch ht h1 h2 (hotPatchOp_of_bad hp hb _) hstill hsleep,
      fun hp => leaves_planHotPatch ht h1 h2 (hotPatchOp_of_not_allowed hp _) hstill hsleep⟩
  · intro d l hp hr
    exact becomes_of_onLive hrun (hotPatchApplyOp_of_gap hp hr) rfl

end Sys2Proof.Machine

/-! PROOFS. Beat instances and slot transfers (R194, R200), the store's scrubber and the soft repair of a row (R208,
R209), reads of QUEUE_READ and snap captures (R222, R227, R231 to R233), signals of faults and writes of the collector's
entries (R228, R229, R261, R383 to R391). -/

/-! ### Beat instances and slot transfers (R194, R200) -/

namespace Sys2Proof.Machine

section

variable {s : State} {w : At} {g : Pkg} {d : Strand} {b i j : Nat} {land : Landing}

/-- A command of the data plane that reads the package becomes a still strand: it leaves just that. -/
theorem leaves_of_onLivePkg {c : Instr} {f : Pkg → Strand → Strand} (h : s.runs w.k = true)
    (he : exec c s = .next (onLivePkg s w f)) (hf : f { s.pkg with out := [] } (s.found w) = d) (hd : d.still = true) :
    Leaves c s w d :=
  leaves_of_becomes (runs_ready h) hd (becomes_of_onLivePkg h hf he)

/-- The strand where number `j` of a beat's instances has begun: no entry has run, and the descriptors of the beat's
entries stand at word 0. -/
def instanceBegun (d : Strand) (b j : Nat) : Strand := (resetDescs d b).setBeat b ⟨j, d.now + 1, 0, j + 1⟩

theorem instanceBegun_still (h : d.still = true) (b j : Nat) : (instanceBegun d b j).still = true := h

/-- The next of a beat's instances begins, when due, where the one before it has ended. -/
theorem beatStartOp_of_due (hon : d.braidOn = true) (hj : beatNumber d b = some j) (h0 : (d.beat b).start = 0)
    (hn : beatEntries (d.beatOf b) ≠ 0) : beatStartOp d b = instanceBegun d b j := by
  rw [beatStartOp, hj]
  dsimp only
  rw [if_neg (by simp [hon]), if_pos h0, if_neg hn]
  rfl

theorem leaves_beatInstanceStart (hrun : s.runs w.k = true) (hon : (s.found w).braidOn = true)
    (hj : beatNumber (s.found w) b = some j) (h0 : ((s.found w).beat b).start = 0)
    (hn : beatEntries ((s.found w).beatOf b) ≠ 0) :
    Leaves (.beatInstanceStart w b) s w (instanceBegun (s.found w) b j) :=
  leaves_of_live_eq rfl hrun (beatStartOp_of_due hon hj h0 hn)
    (instanceBegun_still (ready_still (runs_ready hrun) w.k) b j)

/-- A source that gives all the words of its entry needs no padding. -/
theorem padWords_of_full {n : Nat} {ws : List Word32} (h : ws.length = n) : padWords n ws = (ws, false) := by
  simp [padWords, h]

/-- The strand with entry `i` of a beat marked as run. -/
def entryRun (d : Strand) (b i : Nat) : Strand := d.setBeat b { d.beat b with done := i + 1 }

/-- The beat has started and has entry `i` still to run, which is not its last. -/
structure EntryOpen (d : Strand) (b i : Nat) : Prop where
  on : d.braidOn = true
  started : (d.beat b).start ≠ 0
  fresh : (d.beat b).done ≤ i
  more : i + 1 < beatEntries (d.beatOf b)

/-- A transfer moves the words of its entry from source to sink. -/
theorem slotTransferOp_of_full {ws : List Word32} {d1 : Strand} (h : EntryOpen d b i)
    (hsrc : slotSource (entryRun d b i) b (d.slotOf b i) land.units = some (ws, d1))
    (hl : ws.length = slotWords (d.slotOf b i)) : slotTransferOp g d b i land =
      slotSink g b (d.slotOf b i) land
        (if 0x200 ≤ slotSrc (d.slotOf b i) then
          imgDesc (d.beatPlan b) (d.beatProf b) (slotSrc (d.slotOf b i) - 0x200) else 0)
        (smGet zeroAt d.descJ (descKey b (slotSrc (d.slotOf b i) - 0x200))) ws d1 := by
  obtain ⟨hon, hstart, hfresh, hmore⟩ := h
  have hruns : (!d.braidOn || decide ((d.beat b).start = 0) || decide (beatEntries (d.beatOf b) ≤ i) ||
      decide (i < (d.beat b).done)) = false := by
    simp [hon, hstart]
    omega
  unfold entryRun at hsrc
  rw [slotTransferOp]
  dsimp only
  rw [if_neg (by simp [hruns]), if_neg (by omega), hsrc]
  dsimp only
  rw [padWords_of_full hl, if_neg Bool.false_ne_true]
  rfl

end

/-- Settles O13: a start takes the one branch without an overrun; a transfer with all its words pads nothing and does
not end the beat. -/
theorem beatsRun : Obligations.BeatsRun := by
  intro s w b hrun d hon
  exact ⟨fun j hj h0 hn => leaves_beatInstanceStart hrun hon hj h0 hn,
    fun i land ws d1 _ hstart hfresh hmore hsrc hl ht => leaves_of_onLivePkg hrun rfl
      (slotTransferOp_of_full ⟨hon, hstart, hfresh, hmore⟩ hsrc hl) ht⟩

end Sys2Proof.Machine

/-! ### The scrubber and the soft repair of a row (R208, R209) -/

namespace Sys2Proof.Machine

section

variable {s : State} {w : At} {d e : Strand} {word row : Nat} {rest : List Nat} {f : EccFind}

/-- The scrubber's read on a strand whose clocks run. -/
theorem becomes_storeScrub (hrun : s.runs w.k = true) (he : storeScrubOp (s.found w) word f = e) :
    Becomes (.storeScrub w word f) s w e := by
  have hlive : (s.found w).live = true := runs_live hrun
  exact becomes_of_onStrand (runs_ready hrun) (by rw [hlive, Bool.true_or, if_pos rfl, he]) rfl

/-- A word of the partition that is not its last. -/
def InnerWord (word : Nat) : Prop := 8 * word < storeSize ∧ word ≠ 0x1FFFFFF

theorem storeScrubOp_clean (h : InnerWord word) : storeScrubOp d word .clean = d :=
  (if_neg (Nat.not_le.2 h.1)).trans (if_neg h.2)

theorem storeScrubOp_corrected (h : InnerWord word) (hm : smGet zeroAt d.store.ecc word = 0) :
    storeScrubOp d word .corrected = rowCorrected (d.bump 0x6810 0x01 1) (word / 1024) :=
  (if_neg (Nat.not_le.2 h.1)).trans ((if_neg h.2).trans (if_pos hm))

/-- The strand with a word marked uncorrectable. -/
def wordMarked (d : Strand) (word : Nat) : Strand :=
  { d with store := { d.store with ecc := smSet zeroAt d.store.ecc word 1 } }

theorem storeScrubOp_uncorrectable (h : InnerWord word) (hm : smGet zeroAt d.store.ecc word = 0) :
    storeScrubOp d word .uncorrectable = repairStart ((wordMarked d word).bump 0x6810 0x02 1) (word / 1024) :=
  (if_neg (Nat.not_le.2 h.1)).trans ((if_neg h.2).trans (if_pos hm))

/-- The corrected errors that still count: those of the last 3,600 s. -/
def recentCe (d : Strand) : List (Nat × Nat) := d.store.rowCe.filter fun x => decide (d.sage < x.2 + secTime 3600)

/-- The strand with a corrected error of a row noted. -/
def withCorrected (d : Strand) (row : Nat) : Strand :=
  { d with store := { d.store with rowCe := (row, d.sage) :: recentCe d } }

/-- One more corrected error within STORE_ROW_CE_LIMIT starts no repair. -/
theorem rowCorrected_of_few
    (h : ((recentCe d).filter fun x => decide (x.1 = row)).length < d.get 0x6810 0x06) :
    rowCorrected d row = withCorrected d row := by
  have hlen : (((row, d.sage) :: recentCe d).filter fun x => decide (x.1 = row)).length =
      ((recentCe d).filter fun x => decide (x.1 = row)).length + 1 := by
    simp
  refine if_neg (Nat.not_lt.2 ?_)
  exact hlen.trans_le h

theorem rowCorrected_bump_of_few
    (h : ((recentCe d).filter fun x => decide (x.1 = row)).length < d.get 0x6810 0x06) :
    rowCorrected (d.bump 0x6810 0x01 1) row = withCorrected (d.bump 0x6810 0x01 1) row := by
  have hlimit : (d.bump 0x6810 0x01 1).get 0x6810 0x06 = d.get 0x6810 0x06 := d.get_put_other _ (by decide)
  exact rowCorrected_of_few (hlimit ▸ h)

/-- The strand with the copy of a row complete: the map names the spare row, and what was uncorrectable is poisoned. -/
def rowSwitched (d : Strand) (row : Nat) (rest : List Nat) : Strand :=
  { d with store := { d.store with
      repair := rest
      ecc := d.store.ecc.map fun (x : Nat × Nat) => if x.1 / 1024 = row then (x.1, 2) else x
      rowMap := smSet zeroAt d.store.rowMap row (smGet zeroAt d.store.rowMap row + 1)
      rowCe := d.store.rowCe.filter fun x => decide (x.1 ≠ row) } }

/-- The strand with one spare row of a bank counted off. -/
def spareTaken (d : Strand) (bank : Nat) : Strand := d.put 0x6811 bank (d.get 0x6811 bank - 1)

theorem repairSwitchOp_of_copy (h : d.store.repair = row :: rest) : repairSwitchOp d =
    ((spareTaken (rowSwitched d row rest) (rowBank row)).bump 0x6810 0x05 1).raise 0x55 (0x8000 + rowBank row) := by
  rw [repairSwitchOp, h]
  rfl

end

/-- Settles O21: what the scrubber finds chooses the branch, in which one error more stays within the limit; the end of
a copy switches the row at the front. -/
theorem storeRepair : Obligations.StoreRepair := by
  refine ⟨fun s w word hrun hsize hlast => ?_, fun s w row rest hrun h =>
    becomes_of_onLive hrun (repairSwitchOp_of_copy h) rfl⟩
  intro d row
  have hinner : InnerWord word := ⟨hsize, hlast⟩
  have hready := runs_ready hrun
  have hstill : d.still = true := ready_still hready w.k
  refine ⟨leaves_of_becomes hready hstill (becomes_storeScrub hrun (storeScrubOp_clean hinner)), fun hm hfew => ?_,
    fun hm => becomes_storeScrub hrun (storeScrubOp_uncorrectable hinner hm)⟩
  have hop := (storeScrubOp_corrected hinner hm).trans (rowCorrected_bump_of_few hfew)
  exact leaves_of_becomes (d := withCorrected (d.bump 0x6810 0x01 1) row) hready hstill (becomes_storeScrub hrun hop)

end Sys2Proof.Machine

/-! ### Reads of QUEUE_READ (R222, R227, R233) -/

namespace Sys2Proof.Machine

section

variable {s : State} {w : At} {d e : Strand} {rq : Requester} {i : Instr} {index sub len q k : Nat} {r : DictRow}

/-- A read that the checks of R371 pass is answered by its entry. -/
theorem becomes_of_dictRead (h : s.ready = true) (hfree : (s.found w).dictFree = true) (hpf : rq ≠ .pf4)
    (hr : dictFind index sub = some r) (hg : (s.found w).granted rq index sub r.level false = true)
    (hi : exec i s = .next (dictReadCmd s w rq index sub len))
    (he : readGranted { s.pkg with out := [] } (s.found w) rq r index sub len = e) : Becomes i s w e := by
  refine becomes_of_onStrandPkg h ?_ hi
  simp only [Strand.dictFree, Bool.and_eq_true, Bool.not_eq_true'] at hfree
  obtain ⟨⟨hup, hout⟩, hidle⟩ := hfree
  simp [dictReadOp, accessOp, askFor, arriveAs, arrive, reachable, hup, hout, findEntry, hpf, hr, hg, mustWait, hidle,
    perform, he]

/-- A read of QUEUE_READ that the checks pass is one of the queue engine. -/
theorem readGranted_queueRead (g : Pkg) (d : Strand) (rq : Requester) :
    readGranted g d rq ⟨0x6821, 0x6821, 0x02, 0x02, 12, 0, 0, 2, 0, false, 0x0⟩ 0x6821 0x02 256 = queueReadOp d := by
  rw [readGranted, noteLevel_of_ne_zero (by decide), entryRead]
  cases hq : hostReadQueue d (d.get 0x6821 0x01) with
  | false =>
    have hop : queueReadOp d = d.answer 0x01 := if_pos hq
    rw [hop]
    rfl
  | true => rfl

theorem becomes_queueRead (h : s.ready = true) (hfree : (s.found w).dictFree = true) (hpf : rq ≠ .pf4)
    (hg : (s.found w).granted rq 0x6821 0x02 2 false = true) (he : queueReadOp (s.found w) = e) :
    Becomes (.queueRead w rq) s w e := by
  have hr : dictFind 0x6821 0x02 = some ⟨0x6821, 0x6821, 0x02, 0x02, 12, 0, 0, 2, 0, false, 0x0⟩ := rfl
  exact becomes_of_dictRead h hfree hpf hr hg rfl ((readGranted_queueRead _ _ _).trans he)

/-- The oldest packet that the plan before the last commit has left for a HOST_READ queue. -/
def oldPacket (d : Strand) (q : Nat) : Option OldPacket :=
  d.q.old.find? fun p => decide (p.queue = q) && decide (p.out % 4 = 3)

theorem queueReadOp_of_no_queue (h : hostReadQueue d (d.get 0x6821 0x01) = false) : queueReadOp d = d.answer 0x01 :=
  if_pos h

/-- A packet of the plan before the last commit is read first. -/
theorem queueReadOp_of_old {p : OldPacket} (hq : hostReadQueue d (d.get 0x6821 0x01) = true)
    (hp : oldPacket d (d.get 0x6821 0x01) = some p) (hmore : 256 * (d.q.readPos + 1) < p.bytes.length) :
    queueReadOp d = readPiece d p.bytes true := by
  rw [queueReadOp]
  dsimp only
  rw [if_neg (by simp [hq]), ← oldPacket, hp]
  exact if_pos hmore

theorem queueReadOp_of_empty (hq : hostReadQueue d (d.get 0x6821 0x01) = true)
    (hp : oldPacket d (d.get 0x6821 0x01) = none) (hk : d.ready (readKey d (d.get 0x6821 0x01)) = false) :
    queueReadOp d = d.answerData (idleItem (d.get 0x6821 0x01)) := by
  rw [queueReadOp]
  dsimp only
  rw [if_neg (by simp [hq]), ← oldPacket, hp]
  exact if_pos hk

/-- A store without marked words has no bad link word. -/
theorem guardLinks_of_no_marks (h : d.store.ecc = []) (q : Nat) (l : List Nat) : guardLinks d q l = d :=
  if_pos (by simp [h])

theorem storeBad_of_no_marks (h : d.store.ecc = []) (off n : Nat) : d.storeBad off n = false := by
  simp [Strand.storeBad, h]

/-- Nor a bad word in the data of a packet. -/
theorem packetAt_good (h : d.store.ecc = []) (q c : Nat) : (packetAt d q c).2.2 = false := by
  simp [packetAt, storeBad_of_no_marks h]

/-- The bytes of the oldest packet of a queue key as they leave from a store without marked words. -/
def leavingBytes (d : Strand) (k : Nat) : List Byte :=
  leaveHeader (qKind (d.qEntry k)) (d.queue k).raised (decide (0 < (d.queue k).waited))
    (packetAt d k (d.queue k).head).2.1

/-- A piece of the oldest packet of a queue, of which more is to come. -/
theorem queueReadOp_of_packet (hq : hostReadQueue d (d.get 0x6821 0x01) = true)
    (hp : oldPacket d (d.get 0x6821 0x01) = none) (hkey : readKey d (d.get 0x6821 0x01) = k) (hk : d.ready k = true)
    (hecc : d.store.ecc = []) (hmore : d.q.readPos + 1 < (packetAt d k (d.queue k).head).1.length) :
    queueReadOp d = readPiece d (leavingBytes d k) true := by
  have hpkts : (d.queue k).pkts ≠ 0 := by
    simp only [Strand.ready, Bool.and_eq_true, decide_eq_true_eq] at hk
    omega
  rw [queueReadOp]
  dsimp only
  rw [if_neg (by simp [hq]), ← oldPacket, hp]
  dsimp only
  rw [hkey, if_neg (by simp [hk]), guardLinks_of_no_marks hecc, if_neg hpkts, packetAt_good hecc, Bool.false_and,
    if_neg Bool.false_ne_true, if_pos hmore, Bool.false_or]
  rfl

end

end Sys2Proof.Machine

/-! ### Snap captures (R231, R232) -/

namespace Sys2Proof.Machine

section

variable {s : State} {w : At} {g : Pkg} {d : Strand} {rq : Requester} {v st k group tU : Nat} {former : Bool}

theorem entryWrite_queues (g : Pkg) (d : Strand) (rq : Requester) (sub : Nat) (b : List Byte) {index : Nat}
    (h : 0x6800 ≤ index) (h' : index ≤ 0x6FFF) :
    entryWrite g d rq index sub b = (g, writeQueues d index sub (bytesToNat b)) := by
  rw [entryWrite, isPackageLoc_eq_false (by omega), if_neg Bool.false_ne_true]
  iterate 11 rw [if_neg (by omega)]
  rw [if_pos h']

/-- Fewer than four captures of a group of a plan are in progress. -/
def CaptureFree (d : Strand) (former : Bool) (group : Nat) : Prop :=
  (d.q.caps.filter fun c => decide (c.group = group) && decide (c.former = former)).length < 4

/-- A capture that starts changes the captures, their numbers and their count, and nothing else. -/
theorem captureStart_of_free (h : CaptureFree d former group) (tU : Nat) : ∃ caps capCnt,
    captureStart d former group tU =
      Strand.bump { d with q := { d.q with caps := caps, capCnt := capCnt } } 0x6822 0x02 1 :=
  ⟨_, _, if_neg (Nat.not_le.2 h)⟩

theorem captureStart_still (h : CaptureFree d former group) (hd : d.still = true) :
    (captureStart d former group tU).still = true := by
  obtain ⟨caps, capCnt, he⟩ := captureStart_of_free h tU
  rw [he]
  exact hd

theorem captureStart_sleep (h : CaptureFree d former group) : (captureStart d former group tU).sleep = d.sleep := by
  obtain ⟨caps, capCnt, he⟩ := captureStart_of_free h tU
  rw [he]
  exact sleep_put (by decide) _ _

/-- The answer of the write under way plays no part in a capture. -/
theorem captureStart_answer (d : Strand) (c : Nat) :
    captureStart (d.answer c) former group tU = (captureStart d former group tU).answer c := by
  unfold captureStart
  dsimp only [Strand.answer_q, Strand.answer_plan]
  split <;> rfl

/-- A number of a snap group of the ACTIVE plan. -/
def SnapNamed (d : Strand) (v : Nat) : Prop := d.hasPlan = true ∧ v < snapCount d.plan.active

theorem snapCaptureOp_of_named (h : SnapNamed d v) (c : Nat) :
    snapCaptureOp (d.answer c) v = (captureStart d false v (toU d.now)).answer 0x00 := by
  have hop : snapCaptureOp (d.answer c) v = (captureStart (d.answer c) false v (toU d.now)).answer 0x00 := if_pos h
  rw [hop, captureStart_answer]
  rfl

theorem snapCaptureOp_of_not_named (h : ¬SnapNamed d v) (c : Nat) : snapCaptureOp (d.answer c) v = d.answer 0x02 :=
  if_neg h

/-- SNAP_CAPTURE takes a number of one byte. -/
theorem leaves_snapCapture (ht : s.takes w rq 0x6822 0x01 = true) (hv : v < 256)
    (he : snapCaptureOp ((s.found w).answer 0xFF) v = d) (hd : d.still = true) (hz : d.sleep = 0) :
    Leaves (.snapCapture w rq v) s w d := by
  have hr : dictFind 0x6822 0x01 = some ⟨0x6822, 0x6822, 0x01, 0x01, 1, 1, 2, 2, 0, false, 0x0⟩ := rfl
  refine leaves_of_regWrite ht hr (by decide) rfl (by decide) (by simpa using hv) (by simp) (fun b hb => ?_) hd hz
  rw [noteLevel_of_ne_zero (by decide), entryWrite_queues _ _ _ _ _ (by decide) (by decide), hb, ← he]
  rfl

/-- The captures once block `k` of a stream is taken from one of them; a capture with nothing left to queue ends. -/
def capturesLeft (d : Strand) (c : Capture) (st k : Nat) : List Capture :=
  (d.q.caps.map fun x => if x = c then { c with todo := c.todo.erase (st, k) } else x).filter fun x => !x.todo.isEmpty

/-- Capture `c` of the ACTIVE plan is the one that queues block `k` of a stream next, and the block's slot has
passed. -/
structure BlockDue (d : Strand) (group st k : Nat) (c : Capture) : Prop where
  passed : k + 1 < smGet zeroAt d.ing.next st
  first : (d.q.caps.find? fun c => decide (c.group = group) && decide (c.todo.head? = some (st, k))) = some c
  active : c.former = false

/-- The place of a block of a snap group in the store, and its length. -/
def snapPlace (d : Strand) (group st k : Nat) : Nat × Nat :=
  (snapSlotOff d.plan.active (imgSnap d.plan.active group) st k,
    32 + blockBytes (stInFmt (imgStream d.plan.active st)))

/-- A good block goes into its group's queue behind its SNAP header. -/
theorem snapBlockOp_of_good {c : Capture} (h : BlockDue d group st k c)
    (hgood : d.storeBad (snapPlace d group st k).1 (snapPlace d group st k).2 = false)
    (hshed : (imgSnap d.plan.active group).queue ∉ d.plan.shed) : snapBlockOp g d group st k =
      packetIn { d with q := { d.q with caps := capturesLeft d c st k } } (imgSnap d.plan.active group).queue
        (snapHeader g d (imgSnap d.plan.active group) c
            (decide (smGet zeroAt d.ing.gapAt (snapPlace d group st k).1 ≠ 0)) false
            ((k : Int) - blockAt (imgStream d.plan.active st) c.tcU) ++
          d.storeRead (snapPlace d group st k).1 (snapPlace d group st k).2) := by
  obtain ⟨hpassed, hfirst, hactive⟩ := h
  unfold snapPlace at hgood ⊢
  rw [snapBlockOp, if_neg (by omega), hfirst, capturesLeft]
  simp only [hactive, Bool.false_eq_true, if_false, false_and, hgood, List.contains_eq_mem, hshed, decide_false]

end

/-- Settles O23: the selected queue and what it holds choose the branch of the read; the number written chooses that
of a capture, and a block that is due and good goes into its queue. -/
theorem queueReadsAndSnaps : Obligations.QueueReadsAndSnaps := by
  refine ⟨fun s w rq hready hfree hpf hg => ?_, fun s w rq v hv => ?_⟩
  · intro d q mine k piece
    have hstill : d.still = true := ready_still hready w.k
    have hread {e : Strand} (he : queueReadOp d = e) (hs : e.still = true) : Leaves (.queueRead w rq) s w e :=
      leaves_of_becomes hready hs (becomes_queueRead hready hfree hpf hg he)
    exact ⟨fun hq => hread (queueReadOp_of_no_queue hq) hstill,
      fun hq hnone hk => hread (queueReadOp_of_empty hq hnone hk) hstill,
      fun hq p hp hmore => hread (queueReadOp_of_old hq hp hmore) hstill,
      fun hq hnone hk hecc hmore => hread (queueReadOp_of_packet hq hnone rfl hk hecc hmore) hstill⟩
  · intro d
    refine ⟨fun ht hno => ?_, fun ht hp hlt hfree => ?_, fun hrun st k c hpassed hfirst hactive hgood hshed =>
      becomes_of_onLivePkg hrun (snapBlockOp_of_good ⟨hpassed, hfirst, hactive⟩ hgood hshed) rfl⟩
    · obtain ⟨hready, -, hsleep⟩ := takes_ready ht
      exact leaves_snapCapture ht hv (snapCaptureOp_of_not_named hno _) (ready_still hready w.k) hsleep
    · obtain ⟨hready, -, hsleep⟩ := takes_ready ht
      exact leaves_snapCapture ht hv (snapCaptureOp_of_named ⟨hp, hlt⟩ _)
        (captureStart_still (d := d) hfree (ready_still hready w.k)) ((captureStart_sleep (d := d) hfree).trans hsleep)

end Sys2Proof.Machine

/-! ### Signals of faults (R228, R229, R261, R383, R384) -/

namespace Sys2Proof.Machine

section

variable {s : State} {w : At} {g : Pkg} {d e : Strand} {src inst : Nat}

/-- A source that no strand shares drives the rails of its own strand. -/
theorem becomes_faultSignal (h : s.ready = true) (hsrc : src < 0xB0 ∨ 0xB4 < src)
    (he : faultSignalOp (s.found w) src inst = e) : Becomes (.faultSignal w src inst) s w e :=
  becomes_of_onStrand h he (congrArg Host.Outcome.next (if_neg (by omega)))

/-- A source whose signal alone is its effect. -/
structure PlainSource (src : Nat) : Prop where
  known : src < 192
  link : src ≠ 0x59
  row : src ≠ 0x5A
  table : src ≠ 0x66

theorem faultSignalOp_plain (h : PlainSource src) : faultSignalOp d src inst = d.raise src inst := by
  obtain ⟨hknown, hlink, hrow, htable⟩ := h
  rw [faultSignalOp, if_neg (by omega), if_neg hlink, if_neg hrow, if_neg htable]

theorem faultSignalOp_unknown (h : 192 ≤ src) : faultSignalOp d src inst = d := if_pos h

/-- A package source drives the rails of all four strands. -/
theorem faultSignalCmd_package (h : s.ready = true) (h1 : 0xB0 ≤ src) (h2 : src ≤ 0xB4) : faultSignalCmd s w src inst =
    settleAll ((s.mapStrands fun d => { d with out := [] }).mapStrands fun d => d.raise src inst) :=
  (if_pos ⟨h1, h2⟩).trans (if_neg (by simp [ready_hold h]))

/-- A rail pair that is bad is noted where its source is sampled and was not noted before. -/
theorem railFaultOp_noted (hsrc : src < 192) (hbit : d.getBit 0x2810 src 3 = false)
    (hsamp : sampledSource g d src 0xFFFF = true) :
    railFaultOp g d src = (d.putBit 0x2810 src 3 true).raise 0x00 src :=
  if_neg (by simp [hbit, hsamp, hsrc])

theorem railFaultOp_again (h : 192 ≤ src ∨ d.getBit 0x2810 src 3 = true) : railFaultOp g d src = d :=
  if_pos (h.imp_right .inl)

end

end Sys2Proof.Machine

/-! ### Writes of the collector's entries (R384, R386 to R391) -/

namespace Sys2Proof.Machine

section

variable {s : State} {w : At} {d e : Strand} {rq : Requester} {i : Instr} {src grp sev v index sub : Nat}

theorem entryWrite_faults (g : Pkg) (d : Strand) (rq : Requester) (sub : Nat) (b : List Byte) {index : Nat}
    (h : 0x2800 ≤ index) (h' : index ≤ 0x2FFF) :
    entryWrite g d rq index sub b = (g, writeFaults g d index sub (bytesToNat b)) := by
  rw [entryWrite, isPackageLoc_eq_false h, if_neg Bool.false_ne_true]
  iterate 6 rw [if_neg (by omega)]
  rw [if_pos h']

/-- A write of one byte to an entry of the collector leaves what the entry's rule says. -/
theorem leaves_of_faultReg {lo hi subLo subHi access level type : Nat} (ht : s.takes w rq index sub = true)
    (hr : dictFind index sub = some ⟨lo, hi, subLo, subHi, type, 1, access + 1, level + 1, 0, false, 0x0⟩)
    (h : 0x2800 ≤ index) (h' : index ≤ 0x2FFF) (hi : exec i s = .next (regWrite s w rq true index sub v))
    (hv : v < 256) (hty : type = 0 → v ≤ 1)
    (he : writeFaults { s.pkg with out := [] } ((s.found w).answer 0xFF) index sub v = e) (hd : e.still = true)
    (hz : e.sleep = 0) : Leaves i s w e := by
  refine leaves_of_regWrite ht hr Nat.one_ne_zero hi (Nat.succ_ne_zero access) (by simpa using hv) hty (fun b hb => ?_)
    hd hz
  rw [noteLevel_of_ne_zero (Nat.succ_ne_zero level), entryWrite_faults _ _ _ _ _ h h', hb, ← he]

/-! #### FAULT_WIRE_RETEST and FAULT_CFG -/

/-- A retest clears the note of a bad rail pair; a number that is no source's is refused. -/
theorem leaves_faultWireRetest (ht : s.takes w rq 0x2800 0x05 = true) (hv : v < 256)
    (he : wireRetestOp ((s.found w).answer 0xFF) v = e) (hd : e.still = true) (hz : e.sleep = 0) :
    Leaves (.faultWireRetest w rq v) s w e := by
  have hr : dictFind 0x2800 0x05 = some ⟨0x2800, 0x2800, 0x05, 0x05, 1, 1, 2, 1, 0, false, 0x0⟩ := by decide +kernel
  exact leaves_of_faultReg ht hr (by decide) (by decide) rfl hv (by simp) he hd hz

theorem wireRetestOp_of_source (h : v < 192) (c : Nat) :
    wireRetestOp (d.answer c) v = (d.putBit 0x2810 v 3 false).answer 0x00 := if_neg (Nat.not_le.2 h)

theorem wireRetestOp_of_no_source (h : 192 ≤ v) (c : Nat) : wireRetestOp (d.answer c) v = d.answer 0x02 := if_pos h

theorem dictFind_faultCfg (h : src < 192) :
    dictFind 0x2810 src = some ⟨0x2810, 0x2810, 0x00, 0xbf, 1, 1, 1, 1, 0, false, 0x0⟩ :=
  dictFind_of_indexRow (lo := 0x2810) (hi := 0x2810) (by decide +kernel) (Nat.le_refl _) (Nat.le_refl _) (Nat.le_refl _)
    (Nat.le_refl _) (Nat.zero_le _) (by dsimp only; omega)

theorem exec_faultCfg (h : src < 192) : exec (.faultCfg w rq src v) s = .next (regWrite s w rq true 0x2810 src v) := by
  rw [← decide_eq_true (show src < 256 by omega)]
  rfl

theorem leaves_faultCfg (ht : s.takes w rq 0x2810 src = true) (hsrc : src < 192) (hv : v < 256)
    (he : faultCfgOp ((s.found w).answer 0xFF) src v = e) (hd : e.still = true) (hz : e.sleep = 0) :
    Leaves (.faultCfg w rq src v) s w e :=
  leaves_of_faultReg ht (dictFind_faultCfg hsrc) (by decide) (by decide) (exec_faultCfg hsrc) hv (by simp) he hd hz

/-- A FAULT_CFG that would lower a source which stays FATAL and unmasked. -/
def LowersFatal (src v : Nat) : Prop := 5 ≤ src ∧ src ≤ 7 ∧ bits v 0 3 ≠ 3

theorem faultCfgOp_of_lowers (h : LowersFatal src v) (c : Nat) : faultCfgOp (d.answer c) src v = d.answer 0x02 :=
  if_pos h

theorem faultCfgOp_of_not_lowers (h : ¬LowersFatal src v) (c : Nat) :
    faultCfgOp (d.answer c) src v = (d.putF 0x2810 src 0 3 (bits v 0 3)).answer 0x00 := if_neg h

/-! #### FAULT_REACT -/

theorem dictFind_faultReact (hg : grp < 12) (hs : sev < 4) :
    dictFind (0x2820 + grp) sev = some ⟨0x2820, 0x282b, 0x00, 0x03, 1, 1, 1, 1, 0, false, 0x0⟩ :=
  dictFind_of_indexRow (lo := 0x2820) (hi := 0x282B) (by decide +kernel) (by omega) (by omega) (Nat.le_refl _)
    (Nat.le_refl _) (Nat.zero_le _) (by dsimp only; omega)

theorem exec_faultReact (hg : grp < 12) (hs : sev < 4) :
    exec (.faultReact w rq grp sev v) s = .next (regWrite s w rq true (0x2820 + grp) sev v) := by
  have hok : (decide (grp < 12) && decide (sev < 256)) = true := by
    simp [hg]
    omega
  rw [← hok]
  rfl

theorem writeFaults_faultReact (g : Pkg) (d : Strand) (v : Nat) (h : grp < 12) :
    writeFaults g d (0x2820 + grp) sev v = faultReactOp d grp sev v := by
  rw [writeFaults, if_neg (by omega), if_neg (by omega), if_neg (by omega), if_pos (by omega), Nat.add_sub_cancel_left]

theorem leaves_faultReact (ht : s.takes w rq (0x2820 + grp) sev = true) (hg : grp < 12) (hs : sev < 4) (hv : v < 256)
    (he : faultReactOp ((s.found w).answer 0xFF) grp sev v = e) (hd : e.still = true) (hz : e.sleep = 0) :
    Leaves (.faultReact w rq grp sev v) s w e :=
  leaves_of_faultReg ht (dictFind_faultReact hg hs) (by omega) (by omega) (exec_faultReact hg hs) hv (by simp)
    ((writeFaults_faultReact _ _ v hg).trans he) hd hz

/-- Outside group 0xB no severity takes DEVICE_RESET. -/
theorem faultReactOp_of_refused (hb : bit v 5 = true) (hg : grp ≠ 0x0B) (c : Nat) :
    faultReactOp (d.answer c) grp sev v = d.answer 0x02 := if_pos ⟨hb, hg⟩

theorem faultReactOp_of_allowed (h : bit v 5 = false ∨ grp = 0x0B) (c : Nat) :
    faultReactOp (d.answer c) grp sev v = (d.put (0x2820 + grp) sev (bits v 0 6)).answer 0x00 := by
  refine if_neg ?_
  rintro ⟨hb, hg⟩
  rcases h with h | h
  · simp [h] at hb
  · exact hg h

/-! #### FAULT_GROUP_STATUS -/

theorem dictFind_groupStatus (h : grp < 12) :
    dictFind 0x2801 grp = some ⟨0x2801, 0x2801, 0x00, 0x0b, 1, 1, 3, 2, 0, false, 0x0⟩ :=
  dictFind_of_indexRow (lo := 0x2801) (hi := 0x2801) (by decide +kernel) (Nat.le_refl _) (Nat.le_refl _) (Nat.le_refl _)
    (Nat.le_refl _) (Nat.zero_le _) (by dsimp only; omega)

theorem exec_faultGroupAck (h : grp < 12) :
    exec (.faultGroupAck w rq grp v) s = .next (regWrite s w rq true 0x2801 grp v) := by
  rw [← decide_eq_true (show grp < 256 by omega)]
  rfl

theorem leaves_faultGroupAck (ht : s.takes w rq 0x2801 grp = true) (hg : grp < 12) (hv : v < 256)
    (he : groupAckOp ((s.found w).answer 0xFF) grp v = e) (hd : e.still = true) (hz : e.sleep = 0) :
    Leaves (.faultGroupAck w rq grp v) s w e :=
  leaves_of_faultReg ht (dictFind_groupStatus hg) (by decide) (by decide) (exec_faultGroupAck hg) hv (by simp) he hd hz

/-- INT_N is a pin and a bit of its status entry; what a change of either keeps, a change of INT_N keeps. -/
theorem setIntN_keeps {P : Strand → Prop} (hput : ∀ e v, P e → P (e.put 0x2840 0x03 v))
    (hpin : ∀ e n b, P e → P (Strand.pin e n b)) (hd : P d) (b : Bool) : P (setIntN d b) := by
  unfold setIntN
  split
  · exact hd
  · exact hpin _ _ _ (hput _ _ hd)

theorem refreshInt_still (h : d.still = true) : (refreshInt d).still = true :=
  setIntN_keeps (P := fun e => e.still = true) (fun _ _ he => he) (fun _ _ _ he => he) h _

theorem refreshInt_sleep (h : d.sleep = 0) : (refreshInt d).sleep = 0 :=
  setIntN_keeps (P := fun e => e.sleep = 0) (fun _ _ he => (sleep_put (by decide) _ _).trans he) (fun _ _ _ he => he) h
    _

/-- The answer of the write under way plays no part in INT_N. -/
theorem setIntN_answer (d : Strand) (c : Nat) (b : Bool) : setIntN (d.answer c) b = (setIntN d b).answer c :=
  (apply_ite (Strand.answer · c) (d.getBit 0x2840 0x03 1 = b) d ((d.putBit 0x2840 0x03 1 b).pin 7 b)).symm

theorem refreshInt_answer (d : Strand) (c : Nat) : refreshInt (d.answer c) = (refreshInt d).answer c :=
  setIntN_answer d c _

/-- The strand with a group acknowledged: none of its bits is set, and INT_N follows. -/
def groupCleared (d : Strand) (grp : Nat) : Strand := refreshInt (d.put 0x2801 grp 0)

theorem groupAckOp_of_ack (h : bit v 0 = true) (c : Nat) :
    groupAckOp (d.answer c) grp v = (groupCleared d grp).answer 0x00 := by
  have hint : refreshInt ((d.answer c).put 0x2801 grp 0) = (groupCleared d grp).answer c :=
    refreshInt_answer (d.put 0x2801 grp 0) c
  rw [groupAckOp, if_pos h, hint]
  rfl

theorem groupAckOp_of_no_ack (h : bit v 0 = false) (c : Nat) : groupAckOp (d.answer c) grp v = d.answer 0x00 :=
  if_neg (by simp [h])

theorem groupCleared_still (h : d.still = true) (grp : Nat) : (groupCleared d grp).still = true :=
  refreshInt_still (d := d.put 0x2801 grp 0) h

theorem groupCleared_sleep (h : d.sleep = 0) (grp : Nat) : (groupCleared d grp).sleep = 0 :=
  refreshInt_sleep ((sleep_put (by decide) _ _).trans h)

/-! #### FAULT_FIRST_CLEAR -/

theorem leaves_faultFirstClear (ht : s.takes w rq 0x2800 0x04 = true) (hv : v ≤ 1)
    (he : firstClearOp ((s.found w).answer 0xFF) v = e) (hd : e.still = true) (hz : e.sleep = 0) :
    Leaves (.faultFirstClear w rq v) s w e := by
  have hr : dictFind 0x2800 0x04 = some ⟨0x2800, 0x2800, 0x04, 0x04, 0, 1, 2, 1, 0, false, 0x0⟩ := by decide +kernel
  exact leaves_of_faultReg ht hr (by decide) (by decide) rfl (by omega) (fun _ => hv) he hd hz

end

/-- Settles O52: each signal is what its source does, and each write takes the branch of its entry's rule that the
hypotheses choose. -/
theorem faultSignalsAndWrites : Obligations.FaultSignalsAndWrites := by
  refine ⟨fun s w hready => ?_, fun s w rq v hv => ?_⟩
  · intro d g
    have hstill : d.still = true := ready_still hready w.k
    refine ⟨fun src inst hsrc hlink hrow htable hown =>
        becomes_faultSignal hready hown (faultSignalOp_plain ⟨hsrc, hlink, hrow, htable⟩),
      fun inst => ⟨becomes_faultSignal hready (by decide) rfl, becomes_faultSignal hready (by decide) rfl,
        becomes_faultSignal hready (by decide) rfl⟩,
      fun src inst h1 h2 => congrArg Host.Outcome.next (faultSignalCmd_package hready h1 h2),
      fun src inst h => leaves_of_becomes hready hstill
        (becomes_faultSignal hready (by omega) (faultSignalOp_unknown h)),
      fun src hsrc hbit hsamp => becomes_of_onStrandPkg hready (railFaultOp_noted hsrc hbit hsamp) rfl,
      fun src h => leaves_of_becomes hready hstill (becomes_of_onStrandPkg hready (railFaultOp_again h) rfl),
      fun rq v hv ht => ?_⟩
    obtain ⟨-, -, hsleep⟩ := takes_ready ht
    exact ⟨fun h => leaves_faultWireRetest ht hv (wireRetestOp_of_source h _) hstill
        ((sleep_put (by decide) _ _).trans hsleep),
      fun h => leaves_faultWireRetest ht hv (wireRetestOp_of_no_source h _) hstill hsleep⟩
  · intro d
    refine ⟨fun src hsrc ht => ?_, fun grp sev hg hs ht => ?_, fun grp hg ht => ?_, fun ht => ?_⟩
    all_goals
      obtain ⟨hready, -, hsleep⟩ := takes_ready ht
      have hstill : d.still = true := ready_still hready w.k
    · exact ⟨fun h => leaves_faultCfg ht hsrc hv (faultCfgOp_of_lowers h _) hstill hsleep,
        fun h => leaves_faultCfg ht hsrc hv (faultCfgOp_of_not_lowers h _) hstill
          ((sleep_put (by decide) _ _).trans hsleep)⟩
    · exact ⟨fun ⟨hb, h⟩ => leaves_faultReact ht hg hs hv (faultReactOp_of_refused hb h _) hstill hsleep,
        fun h => leaves_faultReact ht hg hs hv (faultReactOp_of_allowed h _) hstill
          ((sleep_put (by omega) _ _).trans hsleep)⟩
    · exact ⟨fun h => leaves_faultGroupAck ht hg hv (groupAckOp_of_ack h _) (groupCleared_still hstill grp)
          (groupCleared_sleep hsleep grp),
        fun h => leaves_faultGroupAck ht hg hv (groupAckOp_of_no_ack h _) hstill hsleep⟩
    · exact ⟨leaves_faultFirstClear (v := 1) ht (by decide) rfl hstill ((sleep_put (by decide) _ _).trans hsleep),
        leaves_faultFirstClear (v := 0) ht (by decide) rfl hstill hsleep⟩

end Sys2Proof.Machine

/-! ### Detector events (R236, R237, R451) -/

namespace Sys2Proof.Machine

section

variable {s : State} {w : At} {d : Strand} {p rep blk n det tick md bf : Nat} {x : Crossing}

/-- The tick of a crossing's sample, by the sample's nominal time. -/
def crossingTick (d : Strand) (p : Nat) (x : Crossing) : Nat :=
  tickOfU ((x.prov.bind (provTime (d.planOf (d.logicalOf p)))).getD (toU d.now))

/-- The strand with a crossing gone from those of its cell. -/
def withoutCrossing (d : Strand) (p : Nat) (x : Crossing) : Strand :=
  d.setCell p { d.cell p with events := (d.cell p).events.erase x }

theorem crossingOp_of_none (h : (d.cell p).crossing rep blk n = none) : crossingOp d p rep blk n = d := by
  simp only [crossingOp, h]

theorem crossingOp_of_some (h : (d.cell p).crossing rep blk n = some x) : crossingOp d p rep blk n =
    detectorOp (withoutCrossing d p x) x.det (crossingTick d p x) x.md x.flags := by
  simp only [crossingOp, h]
  rfl

/-- The entry of a detector under the plan whose units decide a tick. -/
def detectorEntry (d : Strand) (det tick : Nat) : Nat := imgDetector (d.unitImg (d.unitsAt tick)) det

/-- The trigger domain is on, and the detector is enabled. -/
structure DetectorOn (d : Strand) (det tick : Nat) : Prop where
  power : d.trigOn = true
  enabled : bit (detectorEntry d det tick) 0 = true

theorem DetectorOn.not_off (h : DetectorOn d det tick) :
    ¬(!d.trigOn || !bit (detectorEntry d det tick) 0) = true := by
  simp [h.power, h.enabled]

/-- The metadata of a crossing, or of its block, says INVALID. -/
def crossingInvalid (md bf : Nat) : Bool := bit md 2 || bit bf 2 || bit bf 3

/-- A tick, counted from 1, lies in the dead time that the last event of its detector began. -/
def InDeadTime (d : Strand) (det tick : Nat) : Prop :=
  smGet zeroAt d.trig.detLast det ≠ 0 ∧
    tick + 1 < smGet zeroAt d.trig.detLast det + bits (detectorEntry d det tick) 16 16

theorem detectorOp_of_invalid (h : DetectorOn d det tick) (hi : crossingInvalid md bf = true) :
    detectorOp d det tick md bf = d.bump 0x7800 0x06 1 :=
  (if_neg h.not_off).trans (if_pos hi)

section

variable (h : DetectorOn d det tick) (hi : crossingInvalid md bf = false)

include h hi

theorem detectorOp_of_same_tick (hl : smGet zeroAt d.trig.detLast det = tick + 1) : detectorOp d det tick md bf = d :=
  (if_neg h.not_off).trans ((if_neg (ne_true_of_eq_false hi)).trans (if_pos hl))

theorem detectorOp_of_dead (hl : smGet zeroAt d.trig.detLast det ≠ tick + 1) (hd : InDeadTime d det tick) :
    detectorOp d det tick md bf = { d with trig := { d.trig with
      detDrops := smSet zeroAt d.trig.detDrops det (smGet zeroAt d.trig.detDrops det + 1) } } :=
  (if_neg h.not_off).trans ((if_neg (ne_true_of_eq_false hi)).trans ((if_neg hl).trans (if_pos hd)))

theorem detectorOp_of_event (hl : smGet zeroAt d.trig.detLast det ≠ tick + 1) (hd : ¬InDeadTime d det tick) :
    detectorOp d det tick md bf =
      sourceEvent { d with trig := { d.trig with detLast := smSet zeroAt d.trig.detLast det (tick + 1) } } 0 tick
        (fun _ => some det) (bit md 3) :=
  (if_neg h.not_off).trans ((if_neg (ne_true_of_eq_false hi)).trans ((if_neg hl).trans (if_neg hd)))

end

/-- DETECTOR_EVENT with no such crossing changes nothing. -/
theorem leaves_detectorEvent_of_none (hrun : s.runs w.k = true) (h : ((s.found w).cell p).crossing rep blk n = none) :
    Leaves (.detectorEvent w p rep blk n) s w (s.found w) :=
  leaves_of_live_eq rfl hrun (crossingOp_of_none h) (ready_still (runs_ready hrun) w.k)

/-- DETECTOR_EVENT takes its crossing to the detector. -/
theorem becomes_detectorEvent (hrun : s.runs w.k = true) (hx : ((s.found w).cell p).crossing rep blk n = some x)
    (he : detectorOp (withoutCrossing (s.found w) p x) x.det (crossingTick (s.found w) p x) x.md x.flags = d) :
    Becomes (.detectorEvent w p rep blk n) s w d :=
  becomes_of_onLive hrun ((crossingOp_of_some hx).trans he) rfl

end

end Sys2Proof.Machine

/-! ### Trigger inputs (R242 to R244) -/

namespace Sys2Proof.Machine

section

variable {s : State} {w : At} {d : Strand} {rq : Requester} {n t cfg v : Nat} {high : Bool} {r : List (Nat × Nat)}

/-! #### Pulses (R242) -/

/-- An input with the settings of its pulse that begins now. -/
def pulseBegun (d : Strand) (n : Nat) : PinSt :=
  { d.tin n with start := some d.tick, cfg := d.get 0x7802 n, stuck := d.get 0x7803 n, done := d.tinMasked n }

theorem trigInEdgeOp_of_active (hn : n < 5) (hon : d.trigOn = true) (he : d.getBit 0x7802 n 0 = true)
    (hidle : (d.tin n).start = none) (ha : tinActive d n high = true) :
    trigInEdgeOp d n high = d.setTin n (pulseBegun d n) := by
  refine if_neg ?_
  simp only [hon, he, hidle, ha, Bool.not_true, Bool.false_eq_true, Option.isSome_none, or_false]
  exact Nat.not_le.2 hn

theorem trigInEdgeOp_of_inactive (ha : tinActive d n high = false) : trigInEdgeOp d n high = d :=
  if_pos (by simp [ha])

/-- An input whose pulse ends now. -/
def pulseEnded (d : Strand) (n : Nat) : PinSt := { d.tin n with start := none, lastEnd := d.tick }

section

variable (hs : (d.tin n).start = some t) (ha : tinActive d n high = false)

include hs ha

/-- A pulse shorter than MIN_WIDTH_TICKS is a glitch. -/
theorem trigInEndOp_of_short (hw : d.tick < t + tinWidth (d.tin n).cfg) (hm : ¬(n = 4 ∧ (d.tin n).done = true)) :
    trigInEndOp d n high = ((d.setTin n (pulseEnded d n)).bump 0x7808 n 1).raiseOnce 0x60 (0x100 + n) := by
  simp only [trigInEndOp, hs, ha, if_pos hw, if_neg hm, Bool.false_eq_true, if_false, pulseEnded]

section

variable (hw : t + tinWidth (d.tin n).cfg ≤ d.tick) (hd : (d.tin n).done = false)

include hw hd

/-- A qualified pulse of TRIG_IN waits for its delivery. -/
theorem trigInEndOp_of_trigIn (hn : n < 4) : trigInEndOp d n high =
    d.setTin n { pulseEnded d n with deliver := (d.tin n).deliver ++ [(t, (d.tin n).cfg)] } := by
  simp only [trigInEndOp, hs, ha, if_neg (Nat.not_lt.2 hw), hd, if_neg (Nat.ne_of_lt hn), Bool.false_eq_true, if_false,
    pulseEnded]

/-- A qualified pulse of VETO_N leaves its veto interval. -/
theorem trigInEndOp_of_veto (hn : n = 4) : trigInEndOp d n high =
    (d.setTin n { pulseEnded d n with vetos := pulseVeto t (d.tin n).cfg d.tick :: (d.tin n).vetos }).bump 0x7806 n
      1 := by
  simp only [trigInEndOp, hs, ha, if_neg (Nat.not_lt.2 hw), hd, if_pos hn, Bool.false_eq_true, if_false, pulseEnded]

end

end

/-! #### Delivery (R242) -/

theorem trigInDeliverOp_of_due (hn : n < 4) (hq : (d.tin n).deliver = (t, cfg) :: r)
    (ht : t + tinWidth cfg + 3 ≤ d.tick) :
    trigInDeliverOp d n = tinEvent (d.setTin n { d.tin n with deliver := r }) n t cfg := by
  simp only [trigInDeliverOp, if_neg (Nat.not_le.2 hn), hq, if_pos ht]

theorem trigInDeliverOp_of_early (hn : n < 4) (hq : (d.tin n).deliver = (t, cfg) :: r)
    (ht : d.tick < t + tinWidth cfg + 3) : trigInDeliverOp d n = d := by
  simp only [trigInDeliverOp, if_neg (Nat.not_le.2 hn), hq, if_neg (Nat.not_le.2 ht)]

/-- A pulse that is still active is delivered once it is long enough. -/
theorem trigInDeliverOp_of_active (hn : n < 4) (hq : (d.tin n).deliver = []) (hs : (d.tin n).start = some t)
    (hd : (d.tin n).done = false) (ht : t + tinWidth (d.tin n).cfg + 3 ≤ d.tick) :
    trigInDeliverOp d n = tinEvent (d.setTin n { d.tin n with done := true }) n t (d.tin n).cfg := by
  simp only [trigInDeliverOp, if_neg (Nat.not_le.2 hn), hq, hs, hd, ht, Bool.not_false, and_self, if_true]

/-! #### Masking and unmasking (R243, R244) -/

/-- STUCK_TIME_US is in microseconds, of 500 ticks each; a TRIG_IN that is masked leaves no veto interval. -/
theorem trigInStuckOp_of_stuck (hs : (d.tin n).start = some t) (hm : d.tinMasked n = false)
    (ht : t * 2 + (d.tin n).stuck * 1000 ≤ d.tick * 2) (hn : n < 4) :
    trigInStuckOp d n = ((d.setTin n { d.tin n with done := true, maskAt := some d.tick, unmask := false }).putBit
      0x7804 n 0 true).raiseOnce 0x62 (0x100 + n) := by
  have hnot : ¬(d.tinMasked n = true ∨ d.tick * 2 < t * 2 + (d.tin n).stuck * 1000) := by
    simp only [hm, Bool.false_eq_true, false_or]
    exact Nat.not_lt.2 ht
  simp only [trigInStuckOp, hs, if_neg hnot, if_neg (Nat.ne_of_lt hn)]

theorem trigInStuckOp_of_early (hs : (d.tin n).start = some t) (ht : d.tick * 2 < t * 2 + (d.tin n).stuck * 1000) :
    trigInStuckOp d n = d := by
  simp only [trigInStuckOp, hs, if_pos (Or.inr ht)]

theorem inputUnmaskOp_of_inactive (hm : d.tinMasked n = true)
    (hu : (d.tin n).unmask = true ∨ d.getBit 0x7802 n 2 = true) (hs : (d.tin n).start = none)
    (ht : (d.tin n).lastEnd + tinInterval (d.get 0x7802 n) ≤ d.tick + 1) : inputUnmaskOp d n = clearMask d n :=
  if_pos ⟨hm, hu, Option.isNone_iff_eq_none.2 hs, ht⟩

theorem inputUnmaskOp_of_active (hs : (d.tin n).start.isSome = true) : inputUnmaskOp d n = d := by
  refine if_neg ?_
  rintro ⟨-, -, hnone, -⟩
  simp [Option.isNone_iff_eq_none.1 hnone] at hs

theorem clearMask_still (h : d.still = true) (n : Nat) : (clearMask d n).still = true := h

/-! #### TIN_UNMASK (R244) -/

/-- The strand with an input that is to be unmasked. -/
def unmaskAsked (d : Strand) (n : Nat) : Strand := d.setTin n { d.tin n with unmask := true }

theorem entryWrite_trigger (g : Pkg) (d : Strand) (rq : Requester) (sub : Nat) (b : List Byte) {index : Nat}
    (h : 0x7800 ≤ index) (h' : index ≤ 0x7FFF) :
    entryWrite g d rq index sub b = (g, writeTrigger d index sub (bytesToNat b)) := by
  rw [entryWrite, isPackageLoc_eq_false (by omega), if_neg Bool.false_ne_true]
  iterate 13 rw [if_neg (by omega)]
  rw [if_pos h']

theorem dictFind_tinUnmask (h : n < 5) :
    dictFind 0x7805 n = some ⟨0x7805, 0x7805, 0x00, 0x04, 0, 1, 2, 2, 0, false, 0x0⟩ :=
  dictFind_of_indexRow (lo := 0x7805) (hi := 0x7805) (by decide +kernel) (Nat.le_refl _) (Nat.le_refl _) (Nat.le_refl _)
    (Nat.le_refl _) (Nat.zero_le _) (by dsimp only; omega)

theorem exec_tinUnmask (h : n < 5) : exec (.tinUnmask w rq n v) s = .next (regWrite s w rq true 0x7805 n v) := by
  rw [← decide_eq_true (show n < 256 by omega)]
  rfl

/-- TIN_UNMASK takes a Boolean; a write of 1 performs the unmasking. -/
theorem leaves_tinUnmask (ht : s.takes w rq 0x7805 n = true) (hn : n < 5) (hv : v ≤ 1)
    (he : onOne ((s.found w).answer 0xFF) v (tinUnmaskOp · n) = d) (hd : d.still = true) (hz : d.sleep = 0) :
    Leaves (.tinUnmask w rq n v) s w d := by
  refine leaves_of_regWrite ht (dictFind_tinUnmask hn) Nat.one_ne_zero (exec_tinUnmask hn) (Nat.succ_ne_zero 1)
    (Nat.lt_of_le_of_lt hv (by decide)) (fun _ => hv) (fun b hb => ?_) hd hz
  rw [noteLevel_of_ne_zero (Nat.succ_ne_zero 1), entryWrite_trigger _ _ _ _ _ (by decide) (by decide), hb, ← he]
  rfl

theorem onOne_tinUnmask_of_masked (h : d.tinMasked n = true) (c : Nat) :
    onOne (d.answer c) 1 (tinUnmaskOp · n) = (unmaskAsked d n).answer 0x00 := by
  have hop : tinUnmaskOp (d.answer c) n = unmaskAsked (d.answer c) n := if_pos h
  exact (congrArg (Strand.answer · 0x00) hop :)

theorem onOne_tinUnmask_of_not_masked (h : d.tinMasked n = false) (c : Nat) :
    onOne (d.answer c) 1 (tinUnmaskOp · n) = d.answer 0x00 := by
  have hop : tinUnmaskOp (d.answer c) n = d.answer c := if_neg (ne_true_of_eq_false h)
  exact (congrArg (Strand.answer · 0x00) hop :)

end

/-- Settles O24: a crossing goes to its detector and each sample, delivery and mask to its input, where the operation
takes the branch that the hypotheses choose. -/
theorem triggerInputs : Obligations.TriggerInputs := by
  refine ⟨fun s w p rep blk n x hrun => ?_, fun s w n high hrun => ?_, fun s w n hrun => ?_,
    fun s w rq n hn ht => ?_⟩
  · intro d c tick e entry last invalid
    refine ⟨leaves_detectorEvent_of_none hrun, fun hx hpower henabled => ?_⟩
    have hready := runs_ready hrun
    have hstill : d.still = true := ready_still hready w.k
    have hon : DetectorOn e x.det tick := ⟨hpower, henabled⟩
    refine ⟨fun hi => leaves_of_becomes hready hstill (becomes_detectorEvent hrun hx (detectorOp_of_invalid hon hi)),
      fun hi hl => leaves_of_becomes hready hstill (becomes_detectorEvent hrun hx (detectorOp_of_same_tick hon hi hl)),
      fun hi h0 hl hdead => leaves_of_becomes hready hstill
        (becomes_detectorEvent hrun hx (detectorOp_of_dead hon hi hl ⟨h0, hdead⟩)),
      fun hi hlive hl => becomes_detectorEvent hrun hx (detectorOp_of_event hon hi hl ?_)⟩
    rintro ⟨h0, hdead⟩
    exact hlive.elim h0 (Nat.not_le.2 hdead)
  · intro d x
    have hstill : d.still = true := ready_still (runs_ready hrun) w.k
    refine ⟨fun hn hon he hidle ha => leaves_of_live_eq rfl hrun (trigInEdgeOp_of_active hn hon he hidle ha) hstill,
      fun ha => leaves_of_live_eq rfl hrun (trigInEdgeOp_of_inactive ha) hstill, fun t hs ha => ?_⟩
    exact ⟨fun hw hm => becomes_of_onLive hrun (trigInEndOp_of_short hs ha hw hm) rfl,
      fun hw hn hd => leaves_of_live_eq rfl hrun (trigInEndOp_of_trigIn hs ha hw hd hn) hstill,
      fun hw hn hd => leaves_of_live_eq rfl hrun (trigInEndOp_of_veto hs ha hw hd hn) hstill⟩
  · intro d x
    have hstill : d.still = true := ready_still (runs_ready hrun) w.k
    exact ⟨fun t cfg r hn hq ht => becomes_of_onLive hrun (trigInDeliverOp_of_due hn hq ht) rfl,
      fun t cfg r hn hq ht => leaves_of_live_eq rfl hrun (trigInDeliverOp_of_early hn hq ht) hstill,
      fun t hn hq hs hd ht => becomes_of_onLive hrun (trigInDeliverOp_of_active hn hq hs hd ht) rfl,
      fun t hs hm ht hn => becomes_of_onLive hrun (trigInStuckOp_of_stuck hs hm ht hn) rfl,
      fun t hs ht => leaves_of_live_eq rfl hrun (trigInStuckOp_of_early hs ht) hstill,
      fun hm hu hs ht => leaves_of_live_eq rfl hrun (inputUnmaskOp_of_inactive hm hu hs ht) (clearMask_still hstill n),
      fun _ hs => leaves_of_live_eq rfl hrun (inputUnmaskOp_of_active hs) hstill⟩
  · intro d
    obtain ⟨hready, -, hsleep⟩ := takes_ready ht
    have hstill : d.still = true := ready_still hready w.k
    exact ⟨fun hm => leaves_tinUnmask ht hn (Nat.le_refl 1) (onOne_tinUnmask_of_masked hm _) hstill hsleep,
      fun hm => leaves_tinUnmask ht hn (Nat.le_refl 1) (onOne_tinUnmask_of_not_masked hm _) hstill hsleep,
      leaves_tinUnmask ht hn (Nat.zero_le 1) rfl hstill hsleep⟩

end Sys2Proof.Machine

/-! PROOFS. Repeated TRIG frames (R279). -/

namespace Sys2Proof.Machine

section

variable {d : Strand} {o : Option Nat} {m : SMap Byte} {u now i : Nat} {ev : UnitEv} {msg : List Byte}

theorem Strand.bump_lanes (d : Strand) (i s n : Nat) : (d.bump i s n).lanes = d.lanes := rfl

theorem setUnit_lanes (d : Strand) (o : Option Nat) (u : Nat) (x : UnitSt) : (d.setUnit o u x).lanes = d.lanes := by
  cases o <;> rfl

theorem unitTake_lanes (d : Strand) (o : Option Nat) (m : SMap Byte) (u now : Nat) (ev : UnitEv) :
    (unitTake d o m u now ev).lanes = d.lanes := by
  unfold unitTake
  dsimp only
  split <;> exact setUnit_lanes d o u _

theorem feedUnits_lanes (o : Option Nat) (type idx tick now : Nat) (part : Bool) (d : Strand) :
    (feedUnits o type idx tick now part d).lanes = d.lanes := by
  refine List.foldlRecOn (motive := fun e : Strand => e.lanes = d.lanes) _ _ rfl fun e he u _ => ?_
  dsimp only
  split
  · refine List.foldlRecOn (motive := fun e : Strand => e.lanes = d.lanes) _ _ he fun f hf p _ => ?_
    split
    · exact (unitTake_lanes f o _ u now _).trans hf
    · exact hf
  · exact he

theorem eventIn_lanes (d : Strand) : (eventIn d).2.lanes = d.lanes := by
  fun_cases eventIn d <;> rfl

/-- A source event moves units, the event queue and counters, not lanes. It is unfolded as a function: at its arguments
the kernel would set out to compute the tick at which the event reaches the units. -/
theorem sourceEvent_lanes_of_eq (d : Strand) (type tick : Nat) (src : SMap Byte → Option Nat) (part : Bool) :
    ∀ f, f = @sourceEvent → (f d type tick src part).lanes = d.lanes := by
  delta sourceEvent
  rintro _ rfl
  beta_reduce
  have hin := eventIn_lanes d
  rcases hx : eventIn d with ⟨arrival, e⟩
  rw [hx] at hin
  cases arrival with
  | none => rfl
  | some now =>
    refine List.foldlRecOn (motive := fun e : Strand => e.lanes = d.lanes) _ _ ((Strand.bump_lanes _ _ _ _).trans hin)
      fun e he o _ => ?_
    split
    · exact (feedUnits_lanes o type _ tick _ part e).trans he
    · exact he

theorem sourceEvent_lanes (d : Strand) (type tick : Nat) (src : SMap Byte → Option Nat) (part : Bool) :
    (sourceEvent d type tick src part).lanes = d.lanes := sourceEvent_lanes_of_eq d type tick src part _ rfl

theorem remoteMessage_lanes (d : Strand) (msg : List Byte) : (remoteMessage d msg).lanes = d.lanes := by
  unfold remoteMessage
  dsimp only
  split
  · rfl
  · split_ifs
    · rfl
    · rfl
    · exact sourceEvent_lanes _ _ _ _ _

/-- The TRIG frames taken within the last 1 ms. -/
def recentTrigs (d : Strand) : List (Nat × Nat × Nat) := d.lanes.trigs.filter fun x => decide (d.now < x.1 + msTime 1)

/-- A frame taken within the last 1 ms has the sender, the unit and the FIRE_SEQ of `msg`. -/
def TrigRepeats (d : Strand) (msg : List Byte) : Prop :=
  ∃ x ∈ d.lanes.trigs, x.2.1 = fieldAt msg 2 3 ∧ x.2.2 = fieldAt msg 20 4 ∧ d.now < x.1 + msTime 1

theorem recentTrigs_any_iff (d : Strand) (msg : List Byte) :
    ((recentTrigs d).any fun x => decide (x.2.1 = fieldAt msg 2 3) && decide (x.2.2 = fieldAt msg 20 4)) = true ↔
      TrigRepeats d msg := by
  simp only [recentTrigs, TrigRepeats, List.any_eq_true, List.mem_filter, Bool.and_eq_true, decide_eq_true_eq]
  grind

/-- The strand with other TRIG frames noted. -/
def withTrigs (d : Strand) (l : List (Nat × Nat × Nat)) : Strand := { d with lanes := { d.lanes with trigs := l } }

theorem trigFrameOp_of_repeat (g : Pkg) (h : TrigRepeats d msg) :
    trigFrameOp g d msg = (withTrigs d (recentTrigs d)).bump 0x3004 0x03 1 :=
  if_pos ((recentTrigs_any_iff d msg).2 h)

theorem trigFrameOp_lanes_of_new (g : Pkg) (h : ¬TrigRepeats d msg) :
    (trigFrameOp g d msg).lanes = (withTrigs d ((d.now, fieldAt msg 2 3, fieldAt msg 20 4) :: recentTrigs d)).lanes := by
  rw [trigFrameOp]
  refine (congrArg Strand.lanes (if_neg (mt (recentTrigs_any_iff d msg).1 h))).trans ?_
  dsimp only
  split
  · rfl
  · exact remoteMessage_lanes _ _

/-- A location of a subindex below 256 is another where its index or its subindex is. -/
theorem locKey_ne {i j s t : Nat} (hs : s < 256) (ht : t < 256) (h : i ≠ j ∨ s ≠ t) : locKey i s ≠ locKey j t := by
  unfold locKey
  omega

/-- A counter goes up by one until it is full. -/
theorem get_bump_same {i s n : Nat} (hd : d.regsOk = true) (hw : dictWidth (locKey i s) = n) :
    (d.bump i s 1).get i s = min (d.get i s + 1) (2 ^ n - 1) := by
  have hpos : 0 < 2 ^ n := Nat.two_pow_pos n
  rw [Strand.bump, Strand.get_put_same hd, hw, Nat.mod_eq_of_lt (by omega)]

end

/-- Settles O26: a repeat only counts; another frame is noted, and what it then sets off moves no lane. -/
theorem duplicateTriggers : Obligations.DuplicateTriggers := by
  intro g d msg isCopy e
  refine ⟨fun hrep => ?_, fun hnew => ?_⟩
  · have he : e = (withTrigs d (recentTrigs d)).bump 0x3004 0x03 1 := trigFrameOp_of_repeat g hrep
    rw [he]
    refine ⟨rfl, rfl, rfl, rfl, fun hregs => ⟨?_, fun i x hx hne => ?_⟩⟩
    · exact get_bump_same (d := withTrigs d (recentTrigs d)) hregs (by decide +kernel)
    · exact Strand.get_put_other (withTrigs d (recentTrigs d)) _ (locKey_ne hx (by decide) hne)
  · have hnot : ¬TrigRepeats d msg := fun ⟨x, hx, hc⟩ => hnew x hx hc
    have he : e.lanes = _ := trigFrameOp_lanes_of_new g hnot
    rw [he]
    exact List.mem_cons_self

end Sys2Proof.Machine

/-! PROOFS. Lane records: loss, lock and training (R269, R285). -/

/-! ### What lane records leave alone -/

namespace Sys2Proof.Machine

/-- Strand `e` differs from `d` in lane records only: in their dynamic state and in the values of 0x3100 to 0x313F. -/
structure RecordsOnly (d e : Strand) : Prop where
  eq : e = { d with regs := e.regs, lanes := { d.lanes with lane := e.lanes.lane } }
  get : ∀ i t, locKey i t < 0x310000 ∨ 0x314000 ≤ locKey i t → e.get i t = d.get i t

section

variable {d e : Strand} {n l : Nat}

namespace RecordsOnly

theorem refl (d : Strand) : RecordsOnly d d := ⟨rfl, fun _ _ _ => rfl⟩

theorem setLane (h : RecordsOnly d e) (n : Nat) (x : LaneDyn) : RecordsOnly d (e.setLane n x) :=
  ⟨congrArg (Strand.setLane · n x) h.eq, h.get⟩

theorem put (h : RecordsOnly d e) {t : Nat} (hn : n < 64) (ht : t < 256) (v : Nat) :
    RecordsOnly d (e.put (0x3100 + n) t v) :=
  ⟨congrArg (fun f : Strand => { f with regs := (e.put (0x3100 + n) t v).regs }) h.eq,
    fun i u hi => (e.get_put_other v (by unfold locKey at *; omega)).trans (h.get i u hi)⟩

theorem bump (h : RecordsOnly d e) {t : Nat} (hn : n < 64) (ht : t < 256) (k : Nat) :
    RecordsOnly d (e.bump (0x3100 + n) t k) := h.put hn ht _

theorem setLaneState (h : RecordsOnly d e) (hn : n < 64) (v : Nat) : RecordsOnly d (e.setLaneState n v) :=
  h.put hn (by decide) v

/-- A location below the lane records. -/
theorem get_below (h : RecordsOnly d e) {i t : Nat} (hi : i < 0x3100) (ht : t < 256) : e.get i t = d.get i t :=
  h.get i t (.inl (by unfold locKey; omega))

/-- A location above the lane records. -/
theorem get_above (h : RecordsOnly d e) {i : Nat} (hi : 0x3140 ≤ i) (t : Nat) : e.get i t = d.get i t :=
  h.get i t (.inr (by unfold locKey; omega))

theorem now (h : RecordsOnly d e) : e.now = d.now := by rw [h.eq]

theorem plan (h : RecordsOnly d e) : e.plan = d.plan := by rw [h.eq]

theorem swaps (h : RecordsOnly d e) : e.lanes.swaps = d.lanes.swaps := by rw [h.eq]

theorem swapWant (h : RecordsOnly d e) : e.lanes.swapWant = d.lanes.swapWant := by rw [h.eq]

theorem hasPlan (h : RecordsOnly d e) : e.hasPlan = d.hasPlan := by
  simp only [Strand.hasPlan, h.get_above (i := 0x6000) (by decide)]

theorem laneNo (h : RecordsOnly d e) (n : Nat) : e.laneNo n = d.laneNo n := by
  unfold Strand.laneNo
  split
  · congr 1
    refine List.find?_congr fun l hl => ?_
    rw [h.get_below (by decide) (by simp at hl; omega)]
  · next hn =>
    unfold Strand.endpointOf
    have him : e.lanes.imap = d.lanes.imap := by rw [h.eq]
    rw [if_pos (show 26 ≤ n by omega), if_pos (show 26 ≤ n by omega), him]

end RecordsOnly

/-- A pair's lane-map number is below 24, or 0x7F. -/
theorem laneNo_lt (d : Strand) (hn : n < 26) : d.laneNo n < 256 := by
  rw [Strand.laneNo, if_pos hn]
  cases h : (List.range 24).find? fun l => decide (d.get 0x3001 l = n) with
  | none => decide
  | some l =>
    have hl := List.mem_range.1 (List.mem_of_find?_eq_some h)
    simp only [Option.getD_some]
    omega

namespace RecordsOnly

theorem cwRate (h : RecordsOnly d e) (hn : n < 26) : cwRate e n = cwRate d n := by
  simp only [Machine.cwRate, h.laneNo, Strand.getBit, Strand.laneRate, Strand.getF,
    h.get_below (i := 0x3000) (by decide) (laneNo_lt d hn)]
  rfl

theorem agushInput (h : RecordsOnly d e) (l : Nat) : agushInput e l = agushInput d l := by
  refine List.find?_congr fun k hk => ?_
  have hk : k < 256 := by
    simp only [List.mem_cons, List.not_mem_nil, or_false] at hk
    omega
  rw [Strand.refCfg, h.get_below (by decide) hk, Strand.refCfg]

theorem plansInUse (h : RecordsOnly d e) : e.plansInUse = d.plansInUse := by
  have hstore : e.store = d.store := by rw [h.eq]
  have hslot : e.shadowSlot = d.shadowSlot := by rw [Strand.shadowSlot, h.get_above (by decide), Strand.shadowSlot]
  simp only [Strand.plansInUse, h.hasPlan, h.plan, Strand.shadowState, h.get_above (i := 0x6000) (by decide),
    Strand.shadowImage, Strand.shadowBase, hstore, hslot]
  rfl

theorem portInUse (h : RecordsOnly d e) (p : Nat) : e.portInUse p = d.portInUse p := by
  have hpend : ∀ f, e.pendVal (0x3500 + f) 1 = d.pendVal (0x3500 + f) 1 := fun f => by
    have hw : e.pendW = d.pendW := by rw [h.eq]
    rw [Strand.pendVal, hw, h.get_above (by omega), Strand.pendVal]
  simp only [Strand.portInUse, h.plansInUse, hpend]

theorem bondMembers (h : RecordsOnly d e) {b : Nat} (hb : b < 256) : e.bondMembers b = d.bondMembers b := by
  simp only [Strand.bondMembers, Strand.getBit, h.get_below (i := 0x3003) (by decide) hb]

theorem laneInUse (h : RecordsOnly d e) (l : Nat) : e.laneInUse l = d.laneInUse l := by
  have hends : e.endsInUse = d.endsInUse := by rw [Strand.endsInUse, h.plansInUse, Strand.endsInUse]
  have hbonds : ((List.range 16).any fun b => e.endsInUse.contains (0x40 + b) && decide (l < 24) && (e.bondMembers b).contains l) =
      (List.range 16).any fun b => d.endsInUse.contains (0x40 + b) && decide (l < 24) && (d.bondMembers b).contains l := by
    rw [Bool.eq_iff_iff, List.any_eq_true, List.any_eq_true, hends]
    refine exists_congr fun b => and_congr_right fun hb => ?_
    rw [h.bondMembers (by simp at hb; omega)]
  simp only [Strand.laneInUse, hbonds]
  simp only [hends, Strand.jesd, h.get_above (i := 0x3600) (by decide), h.portInUse, Strand.ethPort,
    h.get_above (i := 0x3400) (by decide)]

end RecordsOnly

end

end Sys2Proof.Machine

/-! ### Loss and lock of a receive lane (R269) -/

namespace Sys2Proof.Machine

section

variable {s : State} {w : At} {d : Strand} {i : Instr} {n : Nat}

/-- The references that rest on a lane, a bond or a port are looked at again after a command of the lanes (R307). -/
def State.rechecked (s : State) (e : Strand) : Strand := refsRecheck { s.pkg with out := [] } e

/-- A command of the lanes becomes what its operation makes of the strand, with the references looked at again. -/
theorem becomes_rechecked (op : Strand → Strand) {e : Strand} (h : s.runs w.k = true)
    (hi : exec i s = .next (onLivePkg s w fun g d => refsRecheck g (op d))) (he : op (s.found w) = e) :
    Becomes i s w (s.rechecked e) :=
  becomes_of_onLivePkg (f := fun g d => refsRecheck g (op d)) h (congrArg (refsRecheck _) he) hi

theorem laneRec_of_pair (h : n < 26) (d : Strand) : d.laneRec n = true := by simp [Strand.laneRec, h]

theorem laneUp_iff (d : Strand) (n : Nat) : d.laneUp n = true ↔ d.laneState n = 2 ∨ d.laneState n = 3 := by
  simp [Strand.laneUp]

/-- The strand that has seen the loss of a record's signal. -/
def withLos (d : Strand) (n : Nat) : Strand := d.setLane n { d.lane n with los := true }

theorem losDetectOp_of_signal (hn : n < 26) (h : d.laneState n = 1 ∨ d.laneState n = 2) :
    losDetectOp d n = (laneLost ((withLos d n).bump (0x3100 + n) 0x02 1) n).raiseOnce 0x70 ((withLos d n).laneNo n) :=
  if_pos (by simpa [laneRec_of_pair hn] using h)

theorem losDetectOp_of_test (h : d.laneState n = 4) : losDetectOp d n = d :=
  if_neg (by simp [h])

/-- A lane that is up goes DOWN where it loses its lock (R269). -/
theorem lolOp_of_up (hn : n < 26) (h : d.laneUp n = true) :
    lolOp d n = (laneLost (d.bump (0x3100 + n) 0x03 1) n).raiseOnce 0x71 (d.laneNo n) :=
  if_pos (by simp [laneRec_of_pair hn, h])

/-- The lane record where training ends. -/
def LaneDyn.trained (x : LaneDyn) : LaneDyn := { x with badRun := 0, release := none, eiNext := false, txIdle := false }

theorem laneTrainedOp_of_signal (hn : n < 26) (h : d.laneState n = 1 ∨ d.laneState n = 5) (hlos : (d.lane n).los = false) :
    laneTrainedOp d n =
      refreshOutputs ((rxMargin (d.setLane n (d.lane n).trained) n).setLaneState n 2) :=
  if_pos (by rcases h with h | h <;> simp [laneRec_of_pair hn, h, hlos])

theorem laneTrainedOp_of_off (hn : n < 26) (h : d.laneState n = 0) : laneTrainedOp d n = d :=
  if_neg (by simp [h, Nat.not_le.2 hn])

/-! #### A lane goes DOWN -/

theorem refreshOutputs_of_no_plan (h : d.hasPlan = false) : refreshOutputs d = d := if_neg (by simp [h])

theorem oldPathFails_of_no_swaps (h : d.lanes.swaps = []) (n : Nat) : oldPathFails d n = d := by
  simp [oldPathFails, h]

/-- The strand where a swap of a lane is called for. -/
def withSwapWant (d : Strand) (l : Nat) : Strand :=
  { d with lanes := { d.lanes with swapWant := d.lanes.swapWant ++ [l] } }

theorem wantSwap_of_off {b l : Nat} (h : d.getBit 0x3002 0x02 b = false) : wantSwap d b l = d := if_neg (by simp [h])

theorem wantSwap_of_used {b l : Nat} (h : d.getBit 0x3002 0x02 b = true) (hu : d.laneInUse l = true)
    (hw : d.lanes.swapWant.contains l = false) : wantSwap d b l = withSwapWant d l :=
  if_pos (by simp only [h, hu, hw]; rfl)

/-- The lane record out of lock, with its runs of codewords forgotten. -/
def LaneDyn.unlocked (x : LaneDyn) : LaneDyn := { x with locked := false, goodRun := 0, badRun := 0, release := none }

/-- Where no swap is under way, a lane that goes DOWN calls for a swap at most. -/
theorem laneLost_of_no_swaps {e : Strand} (hp : d.hasPlan = false) (hs : d.lanes.swaps = []) (hn : n < 64)
    (he : wantSwap (d.setLaneState n 5) 0 (d.laneNo n) = e) (hep : e.hasPlan = (d.setLaneState n 5).hasPlan)
    (hel : e.lanes.swaps = d.lanes.swaps) : laneLost d n = e.setLane n (e.lane n).unlocked := by
  have hrec : RecordsOnly d (d.setLaneState n 5) := (RecordsOnly.refl d).setLaneState hn 5
  rw [laneLost, hrec.laneNo, he, oldPathFails_of_no_swaps (hel.trans hs)]
  exact refreshOutputs_of_no_plan (hep.trans (hrec.hasPlan.trans hp))

end

/-- Settles O28: each command takes the branch of its operation that the record's state chooses; a lane that goes DOWN
without a swap under way changes its record, and calls for a swap where that is enabled. -/
theorem laneLosses : Obligations.LaneLosses := by
  refine ⟨fun s w n hrun hn => ?_, fun d n hn hplan hswaps => ?_⟩
  · intro d recheck
    have hstill : d.still = true := ready_still (runs_ready hrun) w.k
    exact ⟨fun h => becomes_rechecked (losDetectOp · n) hrun rfl (losDetectOp_of_signal hn h),
      fun h => becomes_rechecked (losDetectOp · n) hrun rfl (losDetectOp_of_test h),
      leaves_of_live_eq rfl hrun rfl hstill,
      fun h => becomes_rechecked (lolOp · n) hrun rfl (lolOp_of_up hn h),
      fun h hlos => becomes_rechecked (laneTrainedOp · n) hrun rfl (laneTrainedOp_of_signal hn h hlos),
      fun h => becomes_rechecked (laneTrainedOp · n) hrun rfl (laneTrainedOp_of_off hn h)⟩
  · intro e x
    have hrec : RecordsOnly d e := (RecordsOnly.refl d).setLaneState hn 5
    have hbit : e.getBit 0x3002 0x02 0 = d.getBit 0x3002 0x02 0 := by
      rw [Strand.getBit, hrec.get_below (by decide) (by decide), Strand.getBit]
    refine ⟨fun hoff => ?_, fun hon hused hnew => ?_⟩
    · exact laneLost_of_no_swaps hplan hswaps hn (wantSwap_of_off (hbit.trans hoff)) rfl rfl
    · exact laneLost_of_no_swaps hplan hswaps hn
        (wantSwap_of_used (hbit.trans hon) ((hrec.laneInUse _).trans hused) hnew) rfl rfl

end Sys2Proof.Machine

/-! PROOFS. Codewords, their release, lane health and tests (R270 to R272, R281, R407). -/

/-! ### Codewords (R272) -/

namespace Sys2Proof.Machine

section

variable {s : State} {w : At} {d e : Strand} {i : Instr} {n seq : Nat} {dec : CwDecode}

/-- The strand that has counted a codeword of a record. -/
def withCodeword (d : Strand) (n : Nat) : Strand := d.bump (0x3100 + n) 0x04 1

/-- The strand that has counted a codeword of a record with what its decoding found. -/
def withDecoded (d : Strand) (n : Nat) : CwDecode → Strand
  | .ok => withCodeword d n
  | .corrected k => ((withCodeword d n).bump (0x3100 + n) 0x05 1).bump (0x3100 + n) 0x07 k
  | .uncorrectable => (withCodeword d n).bump (0x3100 + n) 0x06 1

theorem withDecoded_recordsOnly (hn : n < 26) (dec : CwDecode) : RecordsOnly d (withDecoded d n dec) := by
  have h64 : n < 64 := by omega
  have hc : RecordsOnly d (withCodeword d n) := (RecordsOnly.refl d).bump h64 (by decide) 1
  cases dec with
  | ok => exact hc
  | corrected k => exact (hc.bump h64 (by decide) 1).bump h64 (by decide) k
  | uncorrectable => exact hc.bump h64 (by decide) 1

theorem withDecoded_lane (d : Strand) (n : Nat) (dec : CwDecode) (m : Nat) : (withDecoded d n dec).lane m = d.lane m := by
  cases dec <;> rfl

/-- A record takes codewords while it trains, is up or is DOWN. -/
def TakesCodewords (d : Strand) (n : Nat) : Prop := d.laneState n = 2 ∨ d.laneState n = 1 ∨ d.laneState n = 5

/-- An unlocked record after one more good codeword in sequence: the fourth locks it. -/
def LaneDyn.inSequence (x : LaneDyn) (seq : Nat) : LaneDyn :=
  { x with goodRun := x.goodRun + 1, cwSeq := (seq + 1) % 256, locked := decide (4 ≤ x.goodRun + 1), badRun := 0,
           resync := false }

/-- A locked record after a good codeword in its place. -/
def LaneDyn.inPlace (x : LaneDyn) (seq : Nat) : LaneDyn :=
  { x with badRun := 0, cwSeq := (seq + 1) % 256, resync := false }

/-- A locked record after an uncorrectable codeword: its number goes on by one. -/
def LaneDyn.missed (x : LaneDyn) : LaneDyn := { x with badRun := x.badRun + 1, cwSeq := (x.cwSeq + 1) % 256 }

/-- What a codeword makes of an unlocked record, once it is counted. -/
def cwUnlocked (d : Strand) (n : Nat) (good : Bool) (seq : Nat) : Strand :=
  let x := d.lane n
  let run := if !good then 0 else if x.goodRun ≠ 0 ∧ seq % 256 = x.cwSeq then x.goodRun + 1 else 1
  let e := d.setLane n { x with goodRun := run, cwSeq := (seq + 1) % 256, locked := decide (4 ≤ run), badRun := 0,
                                resync := false }
  if 4 ≤ run then swapAlign (cwRelease e n false 0) n else e

/-- What a codeword makes of a locked record, once it is counted. -/
def cwLocked (d : Strand) (n : Nat) (good : Bool) (seq : Nat) : Strand :=
  let x := d.lane n
  let fresh := good && x.resync
  let run := if !good || (!x.resync && decide (seq % 256 ≠ x.cwSeq)) then x.badRun + 1 else 0
  let e := d.setLane n { x with badRun := run, cwSeq := (if fresh then seq + 1 else x.cwSeq + 1) % 256,
                                resync := x.resync && !good }
  if 8 ≤ run then lolOp e n
  else swapAlign (if x.resync && !good then e else cwRelease e n fresh ((seq + 257 - x.cwSeq) % 256)) n

theorem codewordOp_of_takes (hn : n < 26) (h : TakesCodewords d n) (dec : CwDecode) (seq : Nat) :
    codewordOp d n dec seq =
      if (d.lane n).locked then cwLocked (withDecoded d n dec) n (decide (dec ≠ .uncorrectable)) seq
      else cwUnlocked (withDecoded d n dec) n (decide (dec ≠ .uncorrectable)) seq := by
  have htakes : ¬((!d.laneRec n) = true ∨
      (!(decide (d.laneState n = 1) || decide (d.laneState n = 2) || decide (d.laneState n = 5))) = true) := by
    rcases h with h | h | h <;> simp [laneRec_of_pair hn, h]
  cases dec <;> exact if_neg htakes

theorem cwUnlocked_of_sequence (h0 : (d.lane n).goodRun ≠ 0) (hseq : seq % 256 = (d.lane n).cwSeq) :
    cwUnlocked d n true seq =
      if 4 ≤ (d.lane n).goodRun + 1 then swapAlign (cwRelease (d.setLane n ((d.lane n).inSequence seq)) n false 0) n
      else d.setLane n ((d.lane n).inSequence seq) := by
  simp only [cwUnlocked, Bool.not_true, Bool.false_eq_true, if_false, if_pos (And.intro h0 hseq)]
  rfl

/-- A good codeword in its place, or the first one after electrical idle. -/
theorem cwLocked_of_good (h : (d.lane n).resync = true ∨ seq % 256 = (d.lane n).cwSeq) :
    cwLocked d n true seq = swapAlign (cwRelease (d.setLane n ((d.lane n).inPlace seq)) n (d.lane n).resync
      ((seq + 257 - (d.lane n).cwSeq) % 256)) n := by
  cases hr : (d.lane n).resync with
  | true => simp [cwLocked, hr, LaneDyn.inPlace]
  | false =>
    have hseq : seq % 256 = (d.lane n).cwSeq := by simpa [hr] using h
    have hnext : ((d.lane n).cwSeq + 1) % 256 = (seq + 1) % 256 := by omega
    simp [cwLocked, hr, hseq, hnext, LaneDyn.inPlace]

theorem cwLocked_of_bad :
    cwLocked d n false seq =
      if 8 ≤ (d.lane n).badRun + 1 then lolOp (d.setLane n (d.lane n).missed) n
      else swapAlign (if (d.lane n).resync then d.setLane n (d.lane n).missed else
        cwRelease (d.setLane n (d.lane n).missed) n false ((seq + 257 - (d.lane n).cwSeq) % 256)) n := by
  simp [cwLocked, LaneDyn.missed]

/-! #### Where nothing else follows a codeword -/

theorem cwRelease_of_rate_zero (h : cwRate d n = 0) (wasIdle : Bool) (step : Nat) : cwRelease d n wasIdle step = d :=
  if_pos h

theorem swapAlign_of_no_swaps (h : d.lanes.swaps = []) (n : Nat) : swapAlign d n = d := by
  simp [swapAlign, h]

theorem codewordPhase_of_no_input (h : agushInput d (d.laneNo n) = none) (seq : Nat) : codewordPhase d n seq = d := by
  simp [codewordPhase, h]

theorem codewordPhase_of_rate_zero (h : cwRate d n = 0) (seq : Nat) : codewordPhase d n seq = d := by
  unfold codewordPhase
  dsimp only
  split
  · rfl
  · exact if_pos (.inl h)

/-- The timing unit takes nothing of a codeword that is uncorrectable or leaves its record unlocked, nor where it finds
no input or no rate. -/
theorem codewordIn_eq (hop : codewordOp d n dec seq = e)
    (h : dec = .uncorrectable ∨ (e.lane n).locked = false ∨ codewordPhase e n seq = e) : codewordIn d n dec seq = e := by
  rw [codewordIn, hop]
  split
  · next hc =>
    obtain ⟨hdec, hlock, -⟩ := hc
    rcases h with h | h | h
    · exact absurd h hdec
    · simp [h] at hlock
    · exact h
  · rfl

theorem laneState_setLane (d : Strand) (n : Nat) (x : LaneDyn) (m : Nat) : (d.setLane n x).laneState m = d.laneState m := rfl

theorem laneState_bump (d : Strand) {m t : Nat} (hm : t < 256) (h1 : t ≠ 0x01) (k : Nat) :
    (d.bump (0x3100 + m) t k).laneState n = d.laneState n :=
  d.get_put_other _ (locKey_ne (by decide) hm (.inr h1.symm))

theorem laneState_withDecoded (d : Strand) (n : Nat) (dec : CwDecode) :
    (withDecoded d n dec).laneState n = d.laneState n := by
  have hc : (withCodeword d n).laneState n = d.laneState n := laneState_bump d (by decide) (by decide) 1
  cases dec with
  | ok => exact hc
  | corrected k =>
    exact (laneState_bump _ (by decide) (by decide) k).trans ((laneState_bump _ (by decide) (by decide) 1).trans hc)
  | uncorrectable => exact (laneState_bump _ (by decide) (by decide) 1).trans hc

theorem LaneDyn.inSequence_of_few {x : LaneDyn} (hlock : x.locked = false) (h : x.goodRun < 3) (seq : Nat) :
    x.inSequence seq = { x with goodRun := x.goodRun + 1, cwSeq := (seq + 1) % 256, badRun := 0, resync := false } := by
  have hfew : decide (4 ≤ x.goodRun + 1) = x.locked := by rw [hlock, decide_eq_false (by omega)]
  rw [inSequence, hfew]

theorem LaneDyn.inSequence_of_enough {x : LaneDyn} (h : 3 ≤ x.goodRun) (seq : Nat) :
    x.inSequence seq = { x with goodRun := x.goodRun + 1, cwSeq := (seq + 1) % 256, locked := true, badRun := 0,
                                resync := false } := by
  rw [inSequence, decide_eq_true (by omega)]

theorem LaneDyn.inPlace_of_sequence {x : LaneDyn} (hr : x.resync = false) (hseq : seq % 256 = x.cwSeq) :
    x.inPlace seq = { x with badRun := 0, cwSeq := (x.cwSeq + 1) % 256 } := by
  rw [inPlace, ← hr, show (seq + 1) % 256 = (x.cwSeq + 1) % 256 by omega]

/-- The strand that a codeword leaves where its record changes and nothing else follows. -/
def afterCodeword (d : Strand) (n : Nat) (dec : CwDecode) (x : LaneDyn) : Strand := (withDecoded d n dec).setLane n x

theorem afterCodeword_recordsOnly (hn : n < 26) (dec : CwDecode) (x : LaneDyn) :
    RecordsOnly d (afterCodeword d n dec x) := (withDecoded_recordsOnly hn dec).setLane n x

/-- A codeword of a record without release point and without a swap changes its record. -/
theorem codeword_quiet (hn : n < 26) (hrate : cwRate d n = 0) (hswaps : d.lanes.swaps = []) (dec : CwDecode) (x : LaneDyn)
    (wasIdle : Bool) (step : Nat) :
    swapAlign (cwRelease (afterCodeword d n dec x) n wasIdle step) n = afterCodeword d n dec x ∧
      codewordPhase (afterCodeword d n dec x) n seq = afterCodeword d n dec x := by
  have hrec := afterCodeword_recordsOnly (d := d) hn dec x
  have hr : cwRate (afterCodeword d n dec x) n = 0 := (hrec.cwRate hn).trans hrate
  rw [cwRelease_of_rate_zero hr]
  exact ⟨swapAlign_of_no_swaps (hrec.swaps.trans hswaps) n, codewordPhase_of_rate_zero hr seq⟩

/-- An unlocked record counts a good codeword in sequence, and stays unlocked before the fourth. -/
theorem codewordIn_of_few (hn : n < 26) (h : TakesCodewords d n) (hlock : (d.lane n).locked = false)
    (hfew : (d.lane n).goodRun < 3) (h0 : (d.lane n).goodRun ≠ 0) (hseq : seq % 256 = (d.lane n).cwSeq) :
    codewordIn d n .ok seq = afterCodeword d n .ok ((d.lane n).inSequence seq) := by
  refine codewordIn_eq ?_ (.inr (.inl ?_))
  · rw [codewordOp_of_takes hn h, if_neg (by simp [hlock])]
    exact (cwUnlocked_of_sequence (d := withCodeword d n) h0 hseq).trans (if_neg (Nat.not_le.2 (Nat.succ_lt_succ hfew)))
  · have hne : (d.lane n).inSequence seq ≠ {} := fun he => by simpa [LaneDyn.inSequence] using congrArg LaneDyn.goodRun he
    have hread : (afterCodeword d n .ok ((d.lane n).inSequence seq)).lane n = (d.lane n).inSequence seq :=
      smGet_smSet_of_ne _ hne
    rw [hread, LaneDyn.inSequence]
    exact decide_eq_false (by omega)

/-- The fourth good codeword in sequence locks. -/
theorem codewordIn_of_fourth (hn : n < 26) (h : TakesCodewords d n) (hlock : (d.lane n).locked = false)
    (hrun : 3 ≤ (d.lane n).goodRun) (hseq : seq % 256 = (d.lane n).cwSeq) (hrate : cwRate d n = 0)
    (hswaps : d.lanes.swaps = []) :
    codewordIn d n .ok seq = afterCodeword d n .ok ((d.lane n).inSequence seq) := by
  obtain ⟨hop, hphase⟩ := codeword_quiet (seq := seq) hn hrate hswaps .ok ((d.lane n).inSequence seq) false 0
  refine codewordIn_eq ?_ (.inr (.inr hphase))
  have h0 : (d.lane n).goodRun ≠ 0 := by omega
  rw [codewordOp_of_takes hn h, if_neg (by simp [hlock])]
  exact ((cwUnlocked_of_sequence (d := withCodeword d n) h0 hseq).trans (if_pos (Nat.succ_le_succ hrun))).trans hop

/-- A locked record goes on over an uncorrectable codeword, before the eighth in a row. -/
theorem codewordIn_of_missed (hn : n < 26) (h : TakesCodewords d n) (hlock : (d.lane n).locked = true)
    (hrun : (d.lane n).badRun < 7) (hrate : cwRate d n = 0) (hswaps : d.lanes.swaps = []) :
    codewordIn d n .uncorrectable seq = afterCodeword d n .uncorrectable (d.lane n).missed := by
  have hswaps' := (afterCodeword_recordsOnly hn .uncorrectable (d.lane n).missed).swaps.trans hswaps
  refine codewordIn_eq ?_ (.inl rfl)
  rw [codewordOp_of_takes hn h, if_pos hlock]
  refine (cwLocked_of_bad (d := withDecoded d n .uncorrectable)).trans ?_
  refine (if_neg (Nat.not_le.2 (Nat.succ_lt_succ hrun))).trans ?_
  split
  · exact swapAlign_of_no_swaps hswaps' n
  · exact (codeword_quiet (seq := seq) hn hrate hswaps .uncorrectable (d.lane n).missed false _).1

/-- The eighth uncorrectable codeword in a row takes the lane DOWN. -/
theorem codewordIn_of_eighth (hn : n < 26) (h : TakesCodewords d n) (hlock : (d.lane n).locked = true)
    (hrun : (d.lane n).badRun = 7) (hup : d.laneUp n = true) :
    codewordIn d n .uncorrectable seq =
      (laneLost ((afterCodeword d n .uncorrectable (d.lane n).missed).bump (0x3100 + n) 0x03 1) n).raiseOnce 0x71
        (d.laneNo n) := by
  refine codewordIn_eq ?_ (.inl rfl)
  rw [codewordOp_of_takes hn h, if_pos hlock]
  refine (cwLocked_of_bad (d := withDecoded d n .uncorrectable)).trans ?_
  refine (if_pos (Nat.succ_le_succ (Nat.le_of_eq hrun.symm))).trans ?_
  have hstate := laneState_withDecoded d n .uncorrectable
  have hup' : (afterCodeword d n .uncorrectable (d.lane n).missed).laneUp n = true := by
    rw [laneUp_iff] at hup ⊢
    rwa [afterCodeword, laneState_setLane, hstate]
  rw [← (afterCodeword_recordsOnly hn .uncorrectable (d.lane n).missed).laneNo]
  exact lolOp_of_up hn hup'

/-- A locked record takes a good codeword in its place, or the first one after electrical idle. -/
theorem codewordOp_of_good (hn : n < 26) (h : TakesCodewords d n) (hlock : (d.lane n).locked = true)
    (hdec : dec ≠ .uncorrectable) (hseq : (d.lane n).resync = true ∨ seq % 256 = (d.lane n).cwSeq) :
    codewordOp d n dec seq = swapAlign (cwRelease (afterCodeword d n dec ((d.lane n).inPlace seq)) n (d.lane n).resync
      ((seq + 257 - (d.lane n).cwSeq) % 256)) n := by
  have hlane := withDecoded_lane d n dec n
  rw [codewordOp_of_takes hn h, if_pos hlock, decide_eq_true hdec,
    cwLocked_of_good (by rwa [hlane]), hlane, afterCodeword]

theorem codewordIn_of_good (hn : n < 26) (h : TakesCodewords d n) (hlock : (d.lane n).locked = true)
    (hdec : dec ≠ .uncorrectable) (hseq : (d.lane n).resync = true ∨ seq % 256 = (d.lane n).cwSeq)
    (hrate : cwRate d n = 0) (hswaps : d.lanes.swaps = []) :
    codewordIn d n dec seq = afterCodeword d n dec ((d.lane n).inPlace seq) := by
  obtain ⟨hop, hphase⟩ := codeword_quiet (seq := seq) hn hrate hswaps dec ((d.lane n).inPlace seq) (d.lane n).resync
    ((seq + 257 - (d.lane n).cwSeq) % 256)
  exact codewordIn_eq ((codewordOp_of_good hn h hlock hdec hseq).trans hop) (.inr (.inr hphase))

/-! #### Release (R281) -/

theorem raiseOnce_now (d : Strand) (src inst : Nat) : (d.raiseOnce src inst).now = d.now := by
  unfold Strand.raiseOnce
  split <;> rfl

theorem raiseOnce_lanes (d : Strand) (src inst : Nat) : (d.raiseOnce src inst).lanes = d.lanes := by
  unfold Strand.raiseOnce
  split <;> rfl

theorem raiseOnce_regs (d : Strand) (src inst : Nat) : (d.raiseOnce src inst).regs = d.regs := by
  unfold Strand.raiseOnce
  split <;> rfl

theorem raiseOnce_id (d : Strand) (src inst : Nat) : (d.raiseOnce src inst).id = d.id := by
  unfold Strand.raiseOnce
  split <;> rfl

theorem raiseOnce_get (d : Strand) (src inst i t : Nat) : (d.raiseOnce src inst).get i t = d.get i t := by
  rw [Strand.get, raiseOnce_regs, raiseOnce_id, Strand.get]

theorem laneNo_raiseOnce (d : Strand) (src inst n : Nat) : (d.raiseOnce src inst).laneNo n = d.laneNo n := by
  unfold Strand.raiseOnce
  split <;> rfl

theorem agushInput_raiseOnce (d : Strand) (src inst l : Nat) : agushInput (d.raiseOnce src inst) l = agushInput d l := by
  unfold Strand.raiseOnce
  split <;> rfl

/-- The strand where a record's release point is fixed anew. -/
def withRelease (d : Strand) (n base i : Nat) : Strand := d.setLane n { d.lane n with release := some (base, i) }

variable {base j step : Nat}

/-- The first codeword of a locked lane fixes the release point 4 ns after its arrival. -/
theorem cwRelease_of_first (hrate : cwRate d n ≠ 0) (h : (d.lane n).release = none) (wasIdle : Bool) (step : Nat) :
    cwRelease d n wasIdle step = withRelease d n (d.now + nsTime 4) 0 := by
  simp [cwRelease, hrate, h, withRelease]

/-- A codeword in time keeps the release point. -/
theorem cwRelease_of_timely (hrate : cwRate d n ≠ 0) (h : (d.lane n).release = some (base, j))
    (ht : d.now ≤ releaseTime base (cwRate d n) (j + 1)) (step : Nat) :
    cwRelease d n false step = withRelease d n base (j + 1) := by
  simp [cwRelease, hrate, h, ht, withRelease]

/-- A late codeword slips: it fixes the release point anew. -/
theorem cwRelease_of_late (hrate : cwRate d n ≠ 0) (h : (d.lane n).release = some (base, j))
    (ht : releaseTime base (cwRate d n) (j + 1) < d.now) (step : Nat) :
    cwRelease d n false step = (withRelease d n (d.now + nsTime 4) 0).raiseOnce 0x78 (d.laneNo n) := by
  simp [cwRelease, hrate, h, Nat.not_le.2 ht, withRelease]

/-- Where no swap is under way and no timing input rests on the lane, nothing follows the release of a codeword. -/
theorem codewordIn_of_release (hn : n < 26) (h : TakesCodewords d n) (hlock : (d.lane n).locked = true)
    (hr : (d.lane n).resync = false) (hseq : seq % 256 = (d.lane n).cwSeq) (hswaps : d.lanes.swaps = [])
    (hinput : agushInput d (d.laneNo n) = none)
    (he : ∀ step, cwRelease (afterCodeword d n .ok ((d.lane n).inPlace seq)) n false step = e)
    (hlanes : e.lanes.swaps = d.lanes.swaps) (hin : agushInput e (e.laneNo n) = agushInput d (d.laneNo n)) :
    codewordIn d n .ok seq = e := by
  refine codewordIn_eq ?_ (.inr (.inr (codewordPhase_of_no_input (hin.trans hinput) seq)))
  rw [codewordOp_of_good hn h hlock (by decide) (.inr hseq), hr, he]
  exact swapAlign_of_no_swaps (hlanes.trans hswaps) n

/-! #### Health and tests (R270, R271, R407) -/

/-- The last second's corrected symbols of a record exceed LANE_BER_SWAP. -/
def secondHigh (d : Strand) (n : Nat) : Bool :=
  decide (d.get 0x3002 0x03 < d.get (0x3100 + n) 0x07 - (d.lane n).symSec)

/-- The strand after the check of a record's second, with its run of high ones and its eye margin measured. -/
def withBerCheck (d : Strand) (n run : Nat) : Strand :=
  rxMargin (d.setLane n { d.lane n with symSec := d.get (0x3100 + n) 0x07, berRun := run }) n

theorem berCheckOp_eq (hn : n < 26) {run : Nat} (hrun : (if secondHigh d n = true then (d.lane n).berRun + 1 else 0) = run) :
    berCheckOp d n = if 3 ≤ run then
      wantSwap ((withBerCheck d n run).raiseOnce 0x72 ((withBerCheck d n run).laneNo n)) 1 ((withBerCheck d n run).laneNo n)
      else withBerCheck d n run := by
  subst hrun
  simp [berCheckOp, laneRec_of_pair hn, withBerCheck, secondHigh]

theorem spareTestOp_of_spare (hn : n < 26) (hno : d.laneNo n = 0x7F) (hst : d.laneState n ≠ 6) (errors : Nat)
    (pass : Bool) :
    spareTestOp d n errors pass = (d.bump (0x3100 + n) 0x0C errors).setLane n
      { d.lane n with testOk := decide (errors = 0) && pass } :=
  if_pos ⟨hn, hno, hst⟩

theorem prbsDoneOp_of_retest (hn : n < 26) (hst : d.laneState n = 6) (hr : (d.lane n).retest = true) (errors : Nat)
    (pass : Bool) :
    prbsDoneOp d n errors pass =
      let e := (d.bump (0x3100 + n) 0x0C errors).setLane n { d.lane n with retest := false, testOk := pass }
      if pass then e.setLaneState n 1 else e :=
  if_pos ⟨hn, hst, hr⟩

theorem prbsDoneOp_of_pattern (hn : n < 26) (hst : d.laneState n = 4) (hp : d.get (0x3100 + n) 0x0B ≠ 0) (errors : Nat)
    (pass : Bool) : prbsDoneOp d n errors pass = d.bump (0x3100 + n) 0x0C errors := by
  have hno : ¬(n < 26 ∧ d.laneState n = 6 ∧ (d.lane n).retest = true) := by simp [hst]
  refine (if_neg hno).trans (if_pos ?_)
  simp [laneRec_of_pair hn, hst, hp]

end

/-- Settles O29: each command takes the branch of its operation that the record and the codeword choose. -/
theorem codewordsAndHealth : Obligations.CodewordsAndHealth := by
  refine ⟨fun s w n seq hrun hn => ?_, fun s w n seq hrun hn => ?_, fun s w n errors pass hrun hn => ?_⟩
  · intro d recheck x c htakes
    have hb (dec : CwDecode) {e : Strand} (he : codewordIn d n dec seq = e) :
        Becomes (.codewordRx w n dec seq) s w (recheck e) := becomes_rechecked (codewordIn · n dec seq) hrun rfl he
    refine ⟨fun hlock hfew h0 hseq => ?_, fun hlock henough hseq hrate hswaps => ?_,
      fun hlock hbad hrate hswaps => hb .uncorrectable (codewordIn_of_missed hn htakes hlock hbad hrate hswaps),
      fun hlock hrate hswaps hseq k => hb (.corrected k) (codewordIn_of_good hn htakes hlock nofun hseq hrate hswaps),
      fun hlock hbad hup => ⟨_, ?_, rfl⟩⟩
    · rw [← LaneDyn.inSequence_of_few hlock hfew]
      exact hb .ok (codewordIn_of_few hn htakes hlock hfew h0 hseq)
    · rw [← LaneDyn.inSequence_of_enough henough]
      exact hb .ok (codewordIn_of_fourth hn htakes hlock henough hseq hrate hswaps)
    · rw [← show x.badRun + 1 = 8 from congrArg (· + 1) hbad]
      exact hb .uncorrectable (codewordIn_of_eighth hn htakes hlock hbad hup)
  · intro d recheck x c e y rate hst hlock hr hseq hrate hswaps hinput
    have he : afterCodeword d n .ok (x.inPlace seq) = e :=
      congrArg (c.setLane n) (LaneDyn.inPlace_of_sequence hr hseq)
    have hrec : RecordsOnly d e := he ▸ afterCodeword_recordsOnly hn .ok (x.inPlace seq)
    have hrate' : cwRate e n = rate := hrec.cwRate hn
    have hne : cwRate e n ≠ 0 := hrate' ▸ hrate
    have hnow : e.now = d.now := hrec.now
    have hb : ∀ f, (∀ step, cwRelease e n false step = f) → f.lanes.swaps = d.lanes.swaps →
        agushInput f (f.laneNo n) = agushInput d (d.laneNo n) → Becomes (.codewordRx w n .ok seq) s w (recheck f) :=
      fun f hf hs hi => becomes_rechecked (codewordIn · n .ok seq) hrun rfl
        (codewordIn_of_release hn (.inl hst) hlock hr hseq hswaps hinput (he ▸ hf) hs hi)
    have hfix : ∀ base i, (withRelease e n base i).lanes.swaps = d.lanes.swaps ∧
        agushInput (withRelease e n base i) ((withRelease e n base i).laneNo n) = agushInput d (d.laneNo n) := fun base i => by
      have hrel := hrec.setLane n { e.lane n with release := some (base, i) }
      exact ⟨hrel.swaps, by rw [withRelease, hrel.laneNo, hrel.agushInput]⟩
    rw [← hnow, ← hrate', ← hrec.laneNo]
    refine ⟨fun hy => ?_, fun base i hy ht => ?_, fun base i hy ht => ?_⟩
    · exact hb _ (cwRelease_of_first hne hy false) (hfix _ _).1 (hfix _ _).2
    · exact hb _ (cwRelease_of_timely hne hy ht) (hfix _ _).1 (hfix _ _).2
    · refine hb _ (cwRelease_of_late hne hy ht) ?_ ?_
      · rw [raiseOnce_lanes]
        exact (hfix _ _).1
      · rw [laneNo_raiseOnce, agushInput_raiseOnce]
        exact (hfix _ _).2
  · intro d recheck x cur high
    have hb {e : Strand} (he : berCheckOp d n = e) : Becomes (.laneBerCheck w n) s w (recheck e) :=
      becomes_rechecked (berCheckOp · n) hrun rfl he
    have ht (p : Bool) {e : Strand} (he : prbsDoneOp d n errors p = e) :
        Becomes (.lanePrbsTestDone w n errors p) s w (recheck e) :=
      becomes_rechecked (prbsDoneOp · n errors p) hrun rfl he
    refine ⟨fun hlow => hb ?_, fun hhigh hfew => hb ?_, fun hhigh hmany => hb ?_,
      fun hno hst => becomes_rechecked (spareTestOp · n errors pass) hrun rfl (spareTestOp_of_spare hn hno hst errors pass),
      fun hst hr => ht true (prbsDoneOp_of_retest hn hst hr errors true),
      fun hst hr => ht false (prbsDoneOp_of_retest hn hst hr errors false),
      fun hst hp => ht pass (prbsDoneOp_of_pattern hn hst hp errors pass)⟩
    · exact (berCheckOp_eq hn (if_neg (by rw [show secondHigh d n = false from hlow]; decide))).trans (if_neg (by decide))
    · exact (berCheckOp_eq hn (if_pos hhigh)).trans (if_neg (Nat.not_le.2 (Nat.succ_lt_succ hfew)))
    · exact (berCheckOp_eq hn (if_pos hhigh)).trans (if_pos (Nat.succ_le_succ hmany))

end Sys2Proof.Machine

/-! PROOFS. Ethernet ports (R289, R293, R294) and JESD204C links (R296 to R298). -/

namespace Sys2Proof.Machine

section

variable {s : State} {w : At} {d : Strand} {p l j k sp : Nat} {rest : List Nat} {b m : List Byte}

/-! ### Ethernet ports -/

theorem ethRxOp_of_down (h : d.getBit 0x3401 p 0 = false) : ethRxOp d p b = d := if_pos (by simp [h])

/-- A frame that brings no PTP message is counted (R293). -/
theorem ethRxOp_of_other (hup : d.getBit 0x3401 p 0 = true) (h : ptpPayload (d.ethPort p) b = none) :
    ethRxOp d p b = d.bump 0x3403 p 1 := by
  simp [ethRxOp, hup, h]

/-- A Sync on the port that input 8 names is captured (R293). -/
theorem ethRxOp_of_sync (hup : d.getBit 0x3401 p 0 = true) (h : ptpPayload (d.ethPort p) b = some m)
    (hen : bit (d.refCfg 8) 0 = true) (hport : bits (d.refCfg 8) 8 7 = p) (hsync : netField m 0 1 % 16 = 0) :
    ethRxOp d p b = refCapture d 8 := by
  simp [ethRxOp, hup, h, hen, hport, hsync]

theorem ethSwapOp_of_spare (hen : bit (d.ethPort p) 0 = true) (hl : (portLanes (d.ethPort p)).contains l = true)
    (hs : sparesFor d l = sp :: rest) :
    ethSwapOp d p l = (portDrop (coldMove d l sp) p).raiseOnce 0x7B l := by
  rw [ethSwapOp, if_pos (by simp only [hen, hl]; rfl), hs]

theorem ethDownOp_of_up (h : d.getBit 0x3401 p 0 = true) :
    ethDownOp d p = (portDrop d p).raiseOnce 0x7C (bits (d.ethPort p) 4 5) := if_pos h

theorem ethUpOp_of_down (hen : bit (d.ethPort p) 0 = true) (h : d.getBit 0x3401 p 0 = false) :
    ethUpOp d p = refreshOutputs ((portLaneState d p 2).put 0x3401 p 1) := if_pos (by simp [hen, h])

/-! ### JESD204C links -/

theorem jesdEdgeOp_of_up (hen : bit (d.jesd j) 0 = true) (h : d.getBit 0x3601 j 0 = true) (k : Nat) (x : List Byte) :
    jesdEdgeOp d j k x = (List.range (jesdStreams (d.jesd j))).foldl (jesdStreamEdge j k fun a i =>
      fieldAt x ((a * jesdStreams (d.jesd j) + i) * jesdWidth (d.jesd j)) (jesdWidth (d.jesd j))) d :=
  if_pos (by simp [hen, h])

theorem jesdDownOp_of_up (hen : bit (d.jesd j) 0 = true) (h : d.getBit 0x3601 j 0 = true) :
    jesdDownOp d j = jesdRestart d j := if_pos (by simp [hen, h])

/-- The lanes of a link that are not RETIRED are up. -/
def jesdLanesUp (d : Strand) (j : Nat) : Strand :=
  (jesdLanes (d.jesd j)).foldl (fun e l =>
    if e.laneState (e.recOf l) = 6 then e else e.setLaneState (e.recOf l) 2) d

theorem jesdUpOp_of_down (hen : bit (d.jesd j) 0 = true) (h : d.getBit 0x3601 j 0 = false) :
    jesdUpOp d j = (jesdLanesUp d j).put 0x3601 j 1 := if_pos (by simp [hen, h])

/-- States of lanes are no source of a fault and no access. -/
theorem jesdLanesUp_still (h : d.still = true) (j : Nat) : (jesdLanesUp d j).still = true :=
  List.foldlRecOn (motive := fun e : Strand => e.still = true) _ _ h fun e he l _ => by
    split
    · exact he
    · exact he

/-- The CRC errors of a link within the last 1 ms. -/
def recentCrc (d : Strand) (j : Nat) : List Nat :=
  (smGet (fun _ => ([] : List Nat)) d.lanes.jesdCrc j).filter fun t => decide (d.now < t + msTime 1)

/-- The strand that has counted and raised a CRC error of a link. -/
def withCrc (d : Strand) (j : Nat) : Strand := (d.bump 0x3603 j 1).raiseOnce 0x7E (0x60 + j)

/-- The strand that keeps the times of a link's CRC errors. -/
def withCrcTimes (d : Strand) (j : Nat) (l : List Nat) : Strand :=
  { d with lanes := { d.lanes with jesdCrc := smSet (fun _ => ([] : List Nat)) d.lanes.jesdCrc j l } }

theorem recentCrc_withCrc (d : Strand) (j : Nat) : recentCrc (withCrc d j) j = recentCrc d j := by
  rw [recentCrc, withCrc, raiseOnce_lanes, raiseOnce_now]
  rfl

/-- The seventeenth CRC error within 1 ms takes the link down, and the count begins anew (R298). -/
theorem jesdCrcOp_of_enabled (hen : bit (d.jesd j) 0 = true) :
    jesdCrcOp d j =
      if 16 ≤ (recentCrc d j).length then jesdDownOp (withCrcTimes (withCrc d j) j []) j
      else withCrcTimes (withCrc d j) j (d.now :: recentCrc d j) := by
  have hlist : (withCrc d j).now :: recentCrc (withCrc d j) j = d.now :: recentCrc d j := by
    rw [recentCrc_withCrc, withCrc, raiseOnce_now]
    rfl
  have hop : jesdCrcOp d j =
      let l := (withCrc d j).now :: recentCrc (withCrc d j) j
      let e := withCrcTimes (withCrc d j) j (if decide (16 < l.length) then [] else l)
      if decide (16 < l.length) then jesdDownOp e j else e := if_pos hen
  rw [hop, hlist]
  by_cases h : 16 ≤ (recentCrc d j).length
  · simp [h, Nat.lt_succ_of_le h]
  · simp [h]

theorem becomes_jesdCrc {e : Strand} (h : s.runs w.k = true) (hop : jesdCrcOp (s.found w) j = e) :
    Becomes (.jesdCrc w j) s w e :=
  becomes_of_onLive (f := (jesdCrcOp · j)) h hop rfl

end

/-- Settles O33: each command runs the one operation of its port or link, in the branch that the hypotheses choose. -/
theorem ethernetAndJesd : Obligations.EthernetAndJesd := by
  refine ⟨fun s w p l b hrun => ?_, fun s w j k x hrun => ?_⟩
  · intro d g
    have hstill : d.still = true := ready_still (runs_ready hrun) w.k
    exact ⟨fun hup h => leaves_of_live_eq rfl hrun (ethRxOp_of_other hup h) hstill,
      fun hup m h hen hport hsync => leaves_of_live_eq rfl hrun (ethRxOp_of_sync hup h hen hport hsync) hstill,
      fun hdown => leaves_of_live_eq rfl hrun (ethRxOp_of_down hdown) hstill,
      fun sp rest hen hl hs => becomes_rechecked (ethSwapOp · p l) hrun rfl (ethSwapOp_of_spare hen hl hs),
      fun hup => becomes_rechecked (ethDownOp · p) hrun rfl (ethDownOp_of_up hup),
      fun hen hdown => becomes_of_onLive (f := (ethUpOp · p)) hrun (ethUpOp_of_down hen hdown) rfl⟩
  · intro d c wd hen
    have hstill : d.still = true := ready_still (runs_ready hrun) w.k
    refine ⟨fun hup => ⟨becomes_of_onLive (f := (jesdEdgeOp · j k x)) hrun (jesdEdgeOp_of_up hen hup k x) rfl,
        becomes_of_onLive (f := (jesdDownOp · j)) hrun (jesdDownOp_of_up hen hup) rfl⟩, ?_,
      fun hdown => leaves_of_live_eq rfl hrun (jesdUpOp_of_down hen hdown) (jesdLanesUp_still hstill j)⟩
    intro recent e kept
    have hrecent : recent = recentCrc d j := rfl
    have hkept : ∀ l, kept l = withCrcTimes (withCrc d j) j l := fun _ => rfl
    have hop := jesdCrcOp_of_enabled hen
    rw [hrecent, hkept, hkept]
    exact ⟨fun hfew => becomes_jesdCrc hrun (hop.trans (if_neg (Nat.not_le.2 hfew))),
      fun hmany => becomes_jesdCrc hrun (hop.trans (if_pos hmany))⟩

end Sys2Proof.Machine

/-! PROOFS. Bonds and spare swaps (R280, R285 to R287). -/

/-! ### Frames handed to a lane record (R278) -/

namespace Sys2Proof.Machine

section

variable {d : Strand} {n : Nat}

theorem fillTo_still (d : Strand) (n t b : Nat) : (fillTo d n t b).still = d.still := by
  unfold fillTo
  dsimp only
  split <;> rfl

/-- What leaves a lane is no source of a fault. -/
theorem departAt_still (d : Strand) (n : Nat) (x : TxWait) (t : Nat) : (departAt d n x t).still = d.still := by
  have hfill : (if x.type = 4 then fillTo d n t (cwBoundary d n t) else d).still = d.still := by
    split
    · exact fillTo_still d n t _
    · rfl
  by_cases h : x.type = 4
  · simp only [departAt, h, if_true] at hfill ⊢
    exact hfill
  · simp only [departAt, h, if_false]
    rfl

theorem drainLane_still (n fuel : Nat) (d : Strand) : (drainLane n fuel d).still = d.still := by
  induction fuel generalizing d with
  | zero => rfl
  | succ fuel ih =>
    rw [drainLane]
    split
    · rfl
    · split
      · exact (ih _).trans (departAt_still _ n _ _)
      · rfl

theorem transmit_still (d : Strand) (n : Nat) (x : TxWait) : (transmit d n x).still = d.still := by
  have hdrain := drainLane_still n (d.lane n).wait.length d
  unfold transmit
  dsimp only
  split
  · exact (departAt_still _ n x _).trans hdrain
  · exact hdrain

end

end Sys2Proof.Machine

/-! ### Bonds and swaps -/

namespace Sys2Proof.Machine

section

variable {s : State} {w : At} {g : Pkg} {d : Strand} {b l sp : Nat} {rest : List Nat} {x : SwapSt}

theorem bondTimeoutOp_of_idle (h : (d.bond b).waiting = [] ∨ d.now < (d.bond b).since + nsTime 200) :
    bondTimeoutOp g d b = d := if_pos (by simpa using h)

/-- After 200 ns a bond goes on with the lowest BSEQ that waits (R280). -/
theorem bondTimeoutOp_of_due (hw : (d.bond b).waiting ≠ []) (ht : (d.bond b).since + nsTime 200 ≤ d.now) :
    bondTimeoutOp g d b = bondDrain g b ((d.bond b).waiting.length + 1)
      (d.setBond b { d.bond b with nextRx := ((d.bond b).nextRx + bondGap (d.bond b)) % 65536 }) :=
  if_neg (by
    rintro (h | h)
    · exact hw (List.isEmpty_iff.1 h)
    · exact absurd h (Nat.not_lt.2 ht))

theorem bondDegradedOp_of_lost (hon : d.bondOn b = true) (hm : (d.bondMembers b).contains l = true)
    (hl : d.memberLost l = true) : bondDegradedOp d b l = (refreshOutputs d).raiseOnce 0x7A (0x40 + b) :=
  if_pos (by simp only [hon, hm, hl]; rfl)

/-- The strand where a swap of a lane is called for no more. -/
def withoutSwapWant (d : Strand) (l : Nat) : Strand :=
  { d with lanes := { d.lanes with swapWant := d.lanes.swapWant.filter fun k => decide (k ≠ l) } }

/-- The swap that the initiator begins on a lane, with the spare that it takes. -/
def beginSwap (d : Strand) (l sp : Nat) : SwapSt :=
  ⟨l, sp, d.recOf l, true, false, false, false, none, none, !(d.laneUp (d.recOf l)), false, d.now⟩

/-- The strand with one more swap under way. -/
def withSwapBegun (d : Strand) (x : SwapSt) : Strand :=
  swapStatus { d with lanes := { d.lanes with swaps := d.lanes.swaps ++ [x] } } x.lane 1 x.spare

theorem withSwapBegun_still (h : d.still = true) (x : SwapSt) : (withSwapBegun d x).still = true := h

/-- The initiator takes the first eligible spare and asks the peer on it (R286). -/
theorem swapStartOp_of_eligible (hw : d.lanes.swapWant.contains l = true) (hs : d.swapFor l = none)
    (ha : d.agushLane l = true) (he : eligible (withoutSwapWant d l) l = sp :: rest) :
    swapStartOp g d l =
      let e := withSwapBegun (withoutSwapWant d l) (beginSwap d l sp)
      sendOn e sp 0 (idleBody g e sp false false) := by
  rw [swapStartOp, if_neg (by rw [hw, hs]; decide)]
  refine (if_pos ha).trans ?_
  rw [show eligible { d with lanes := { d.lanes with swapWant := d.lanes.swapWant.filter (· ≠ l) } } l = sp :: rest from he]
  rfl

theorem swapSwitchOp_of_ready (h : d.swapFor l = some x) (hr : x.ready = true) (hp : x.peerRdy = true)
    (hat : x.at_.isSome = true) (hs : x.swapped = false) : swapSwitchOp d l = swapTakeLane d x := by
  simp [swapSwitchOp, h, hr, hp, hat, hs]

/-- The strand where the old pair of a swap has stopped and is RETIRED. -/
def withOldStopped (d : Strand) (l : Nat) (x : SwapSt) : Strand :=
  let e := { d with lanes := { d.lanes with swaps := d.lanes.swaps.filter fun y => decide (y.lane ≠ l) } }
  ((e.setLane x.old {}).setLaneState x.old 6).emit .laneSig x.old []

theorem withOldStopped_still (h : d.still = true) (l : Nat) (x : SwapSt) : (withOldStopped d l x).still = true := h

theorem swapStopOp_of_swapped (h : d.swapFor l = some x) (hs : x.swapped = true) :
    swapStopOp d l = withOldStopped d l x := by
  simp [swapStopOp, h, hs, withOldStopped]

theorem swapTimeoutOp_of_late (h : d.swapFor l = some x) (hs : x.swapped = false)
    (hr : (x.ready && x.peerRdy) = false) (ht : x.start + msTime 1 ≤ d.now) : swapTimeoutOp d l = swapAbort d x := by
  rw [swapTimeoutOp, h]
  exact if_pos (by simp [hs, hr, ht])

end

/-- Settles O32: each command runs the one operation of its bond or swap, in the branch that the hypotheses choose; what
it hands to a lane is no source of a fault. -/
theorem bondsAndSpares : Obligations.BondsAndSpares := by
  refine ⟨fun s w b l hrun => ?_, fun s w l hrun => ?_⟩
  · intro d g x
    have hstill : d.still = true := ready_still (runs_ready hrun) w.k
    exact ⟨fun h => leaves_of_onLivePkg (f := fun g d => bondTimeoutOp g d b) hrun rfl (bondTimeoutOp_of_idle (.inl h)) hstill,
      fun _ h => leaves_of_onLivePkg (f := fun g d => bondTimeoutOp g d b) hrun rfl (bondTimeoutOp_of_idle (.inr h)) hstill,
      fun hw ht => becomes_of_onLivePkg (f := fun g d => bondTimeoutOp g d b) hrun (bondTimeoutOp_of_due hw ht) rfl,
      fun hon hm hl => becomes_rechecked (bondDegradedOp · b l) hrun rfl (bondDegradedOp_of_lost hon hm hl)⟩
  · intro d g
    have hstill : d.still = true := ready_still (runs_ready hrun) w.k
    refine ⟨?_, fun x hx => ⟨fun hr hp hat hs => ?_, fun hs => ?_, fun hs hr ht => ?_⟩⟩
    · intro sp rest hw hs ha _ he
      exact leaves_of_onLivePkg (f := fun g d => swapStartOp g d l) hrun rfl (swapStartOp_of_eligible hw hs ha he)
        ((transmit_still _ sp _).trans (withSwapBegun_still (d := withoutSwapWant d l) hstill _))
    · exact becomes_rechecked (swapSwitchOp · l) hrun rfl (swapSwitchOp_of_ready hx hr hp hat hs)
    · exact leaves_of_live_eq (f := (swapStopOp · l)) rfl hrun (swapStopOp_of_swapped hx hs)
        (withOldStopped_still hstill l x)
    · exact becomes_rechecked (swapTimeoutOp · l) hrun rfl (swapTimeoutOp_of_late hx hs hr ht)

end Sys2Proof.Machine

/-! PROOFS. Writes of the lane, bond, port, flow and link configuration (R266, R267, R271, R280, R285, R290, R291,
R297, R300). -/

/-! ### Accesses to 0x3000 to 0x3FFF -/

namespace Sys2Proof.Machine

section

variable {i : Instr} {s : State} {w : At} {rq : Requester} {index sub v : Nat} {r : DictRow} {e : Strand}

theorem entryWrite_lanes (g : Pkg) (d : Strand) (rq : Requester) (sub : Nat) (b : List Byte)
    (h : 0x3000 ≤ index) (h' : index ≤ 0x3FFF) :
    entryWrite g d rq index sub b = (g, refsRecheck g (writeLanes d index sub (bytesToNat b) b)) := by
  rw [entryWrite, isPackageLoc_eq_false (by omega), if_neg Bool.false_ne_true]
  iterate 7 rw [if_neg (by omega)]
  rw [if_pos h']

/-- A row that can be written, above level 0, of fixed size and no Boolean. -/
abbrev DictRow.plain (r : DictRow) : Prop := r.access ≠ 0 ∧ r.level ≠ 0 ∧ r.type ≠ 0 ∧ r.size ≠ 0

/-- A write of bytes to a lane location leaves what the chapter makes of them, with the references looked at again. -/
theorem leaves_laneBytes {b : List Byte} (h : 0x3000 ≤ index) (h' : index ≤ 0x3FFF) (hr : dictFind index sub = some r)
    (hp : r.plain) (hb : b.length = r.size) (hi : exec i s = .next (dictWriteCmd s w rq true index sub b))
    (ht : s.takes w rq index sub = true)
    (he : writeLanes ((s.found w).answer 0xFF) index sub (bytesToNat b) b = e)
    (hd : (refsRecheck { s.pkg with out := [] } e).still = true) (hz : (refsRecheck { s.pkg with out := [] } e).sleep = 0) :
    Leaves i s w (refsRecheck { s.pkg with out := [] } e) := by
  obtain ⟨hacc, hlev, hty, hsize⟩ := hp
  refine leaves_of_takes ht hr hi hacc (by simp [lengthOk, hsize, hb]) (by simp [typeOk, hty]) ?_ hd hz
  rw [noteLevel_of_ne_zero hlev, entryWrite_lanes _ _ _ _ _ h h', he]

/-- The same for a write of a number, where the bytes do not matter. -/
theorem leaves_laneReg (h : 0x3000 ≤ index) (h' : index ≤ 0x3FFF) (hr : dictFind index sub = some r)
    (hp : r.plain) (hv : v < 256 ^ r.size) (hi : exec i s = .next (regWrite s w rq true index sub v))
    (ht : s.takes w rq index sub = true) (he : ∀ b, writeLanes ((s.found w).answer 0xFF) index sub v b = e)
    (hd : (refsRecheck { s.pkg with out := [] } e).still = true) (hz : (refsRecheck { s.pkg with out := [] } e).sleep = 0) :
    Leaves i s w (refsRecheck { s.pkg with out := [] } e) := by
  obtain ⟨hacc, hlev, hty, hsize⟩ := hp
  refine leaves_of_regWrite ht hr hsize hi hacc hv (fun h0 => absurd h0 hty) (fun b hb => ?_) hd hz
  rw [noteLevel_of_ne_zero hlev, entryWrite_lanes _ _ _ _ _ h h', hb, he]

end

/-! ### Outputs and the answer to an access -/

/-- A queue of an output whose stall is over goes on, unless its descriptor row is bad. -/
def unstallQueue (d : Strand) (q : Nat) : Strand := d.setQueue q { d.queue q with stalled := (d.queue q).bad }

section

variable (d : Strand) (c : Nat)

theorem stallQueues_answer (l : List Nat) : l.foldl stallQueue (d.answer c) = (l.foldl stallQueue d).answer c :=
  List.foldl_hom (Strand.answer · c) (fun _ _ => rfl)

theorem unstallQueues_answer (l : List Nat) : l.foldl unstallQueue (d.answer c) = (l.foldl unstallQueue d).answer c :=
  List.foldl_hom (Strand.answer · c) (fun _ _ => rfl)

theorem stallOutput_answer (o : OutId) : stallOutput (d.answer c) o = (stallOutput d o).answer c := by
  by_cases h : (d.output o).stalled = true
  · exact (if_pos h).trans (congrArg (Strand.answer · c) (if_pos h).symm)
  · refine (if_neg h).trans (Eq.trans ?_ (congrArg (Strand.answer · c) (if_neg h).symm))
    have hq : (queuesOf (d.answer c) o).foldl stallQueue ((d.answer c).setOutput o { d.output o with stalled := true }) =
        ((queuesOf d o).foldl stallQueue (d.setOutput o { d.output o with stalled := true })).answer c :=
      stallQueues_answer (d.setOutput o { d.output o with stalled := true }) c (queuesOf d o)
    have hraise (e : Strand) (b : Bool) (n : Nat) : (e.answer c).raiseIf b 0x57 n = (e.raiseIf b 0x57 n).answer c := by
      cases b <;> rfl
    exact (congrArg (Strand.raiseIf · _ 0x57 _) hq).trans (hraise _ _ _)

theorem unstallOutput_answer (o : OutId) : unstallOutput (d.answer c) o = (unstallOutput d o).answer c := by
  by_cases h : (d.output o).stalled = true
  · refine (if_pos h).trans (Eq.trans ?_ (congrArg (Strand.answer · c) (if_pos h).symm))
    exact unstallQueues_answer (d.setOutput o { d.output o with stalled := false }) c (queuesOf d o)
  · exact (if_neg h).trans (congrArg (Strand.answer · c) (if_neg h).symm)

theorem refreshOutputs_answer : refreshOutputs (d.answer c) = (refreshOutputs d).answer c := by
  have hplan : (d.answer c).hasPlan = d.hasPlan := rfl
  unfold refreshOutputs
  rw [hplan]
  split
  · refine List.foldl_hom (Strand.answer · c) (fun x y => ?_)
    have hdown : (x.answer c).outDown y.out = x.outDown y.out := rfl
    rw [hdown]
    split
    · exact stallOutput_answer x c y.out
    · exact unstallOutput_answer x c y.out
  · rfl

theorem refreshOutputs_answer_answer (c' : Nat) :
    (refreshOutputs (d.answer c)).answer c' = (refreshOutputs d).answer c' := by
  rw [refreshOutputs_answer]
  rfl

end

/-! ### What the writes do -/

section

variable {d : Strand} {n v : Nat}

/-- Bit 11 of LANE_CFG is reserved. -/
theorem laneCfg_unreserved (hv : v < 2 ^ 38) (hb : bit v 11 = false) : v % 2 ^ 38 - bits v 11 1 * 2 ^ 11 = v := by
  have h0 : bits v 11 1 = 0 := by
    simp [bit, bits] at hb ⊢
    omega
  rw [h0, Nat.mod_eq_of_lt hv, Nat.zero_mul, Nat.sub_zero]

theorem laneCfgOp_of_refused (hv : v < 2 ^ 38) (hb : bit v 11 = false)
    (h : laneFields v = false ∨ pllClash d n v = true) : laneCfgOp d n v = d.answer 0x02 := by
  rw [laneCfgOp]
  dsimp only
  rw [laneCfg_unreserved hv hb]
  have hbad : (!(laneFields v) || pllClash d n v) = true := by
    rcases h with h | h <;> rw [h] <;> simp
  exact if_pos hbad

/-- The strand where a lane has a new LANE_CFG and its record trains, or is off where the lane or its group is. -/
def laneRestarted (d : Strand) (n v : Nat) : Strand :=
  (d.put 0x3000 n v).setLaneState (d.recOf n) (if bits v 0 3 = 0 ∨ d.domain (laneGroup (d.recOf n)) ≠ 2 then 0 else 1)

theorem laneCfgOp_of_new (hn : n < 24) (hv : v < 2 ^ 38) (hb : bit v 11 = false) (hf : laneFields v = true)
    (hp : pllClash d n v = false) (hu : d.laneInUse n = false) (hold : v ≠ d.get 0x3000 n)
    (h6 : d.laneState (d.recOf n) ≠ 6) (h4 : d.laneState (d.recOf n) ≠ 4) :
    laneCfgOp d n v = (refreshOutputs (laneRestarted d n v)).answer 0x00 := by
  rw [laneCfgOp]
  dsimp only
  rw [laneCfg_unreserved hv hb]
  have hgood : ¬(!(laneFields v) || pllClash d n v) = true := by simp [hf, hp]
  have hst : ¬(d.laneState (d.recOf n) = 6 ∨ d.laneState (d.recOf n) = 4) := not_or.2 ⟨h6, h4⟩
  have hdom : (d.put 0x3000 n v).domain (laneGroup (d.recOf n)) = d.domain (laneGroup (d.recOf n)) :=
    d.get_put_other v (by unfold locKey laneGroup; omega)
  refine (if_neg hgood).trans ((if_neg hold).trans ((if_neg (ne_true_of_eq_false hu)).trans ?_))
  rw [if_neg hst, hdom]
  rfl

theorem bondCfgOp_of_new (hv : v < 2 ^ 25) (hok : bondOk d n v = true) (hold : v ≠ d.get 0x3003 n)
    (he : d.endsInUse.contains (0x40 + n) = false)
    (hl : (((List.range 24).filter fun l => bit v (l + 1) || d.getBit 0x3003 n (l + 1)).any d.laneInUse) = false) :
    bondCfgOp d n v = ({ d with lanes := { d.lanes with
      bonds := smSet (fun _ => ({} : BondSt)) d.lanes.bonds n {} } }.put 0x3003 n v).answer 0x00 := by
  rw [bondCfgOp]
  dsimp only
  rw [Nat.mod_eq_of_lt hv]
  have hgood : ¬(bit v 0 && !(bondOk d n v)) = true := by simp [hok]
  refine (if_neg hgood).trans ((if_neg hold).trans ((if_neg ?_).trans rfl))
  exact ne_true_of_eq_false ((Bool.or_eq_false_iff).2 ⟨he, hl⟩)

theorem timePerSOp_of_ok (hv : v ≤ 1024) (h0 : v ≠ 0) (h : perSecondOk v (d.get 0x2005 0x01) = true) :
    timePerSOp d v = (d.put 0x3004 0x02 v).answer 0x00 :=
  if_neg (by
    rintro (h | h | h')
    · exact h0 h
    · omega
    · exact Bool.false_ne_true (h'.symm.trans h))

theorem dictFind_laneTest {sub : Nat} (hn : n < 26) (hs : sub = 0x0A ∨ sub = 0x0B) :
    dictFind (0x3100 + n) sub = some ⟨0x3100, 0x3119, sub, sub, 1, 1, 1, 1, 0, false, 0⟩ := by
  rcases hs with rfl | rfl <;>
    exact dictFind_of_rangeRow (lo := 0x3100) (hi := 0x3119) (by decide +kernel) (by omega) (by omega)

theorem laneTest_width {sub : Nat} (hn : n < 26) (hs : sub = 0x0A ∨ sub = 0x0B) :
    dictWidth (locKey (0x3100 + n) sub) = 8 := by
  have hkey : locKey (0x3100 + n) sub / 256 = 0x3100 + n ∧ locKey (0x3100 + n) sub % 256 = sub := by
    unfold locKey
    omega
  rw [dictWidth, hkey.1, hkey.2, dictFind_laneTest hn hs]
  rfl

theorem laneTestOp_of_on {sub : Nat} (hn : n < 26) (hs : sub = 0x0A ∨ sub = 0x0B) (hv : v ≤ 3) (h0 : v ≠ 0)
    (hu : d.laneInUse (d.laneNo n) = false) (h6 : d.laneState n ≠ 6) (hr : d.regsOk = true) :
    laneTestOp d n sub v = ((d.put (0x3100 + n) sub v).setLaneState n 4).answer 0x00 := by
  have hgood : ¬(3 < v ∨ (sub = 0x0A ∧ 0x20 ≤ n ∧ 1 < v)) := by omega
  have hread : (d.put (0x3100 + n) sub v).get (0x3100 + n) sub ≠ 0 := by
    rw [Strand.get_put_same hr, laneTest_width hn hs]
    omega
  have hstate : (d.put (0x3100 + n) sub v).laneState n ≠ 6 := by
    rw [Strand.laneState, d.get_put_other v (by unfold locKey; omega)]
    exact h6
  have hon : (decide ((d.put (0x3100 + n) sub v).get (0x3100 + n) 0x0A ≠ 0) ||
      decide ((d.put (0x3100 + n) sub v).get (0x3100 + n) 0x0B ≠ 0)) = true := by
    rcases hs with rfl | rfl <;> simp [hread]
  refine (if_neg hgood).trans ((if_neg (ne_true_of_eq_false hu)).trans ?_)
  dsimp only
  rw [if_neg hstate, if_pos hon]

theorem swapRequestOp_of_lane (hv : v < 24) (hr : d.laneRate v ≠ 0) (hw : d.lanes.swapWant.contains v = false) :
    swapRequestOp d v =
      { d with lanes := { d.lanes with swapWant := d.lanes.swapWant ++ [v] } }.answer 0x00 := by
  have hlane : ((decide (v < 24) && decide (d.laneRate v ≠ 0)) || d.internalLane v) = true := by simp [hv, hr]
  have hwant : (if d.lanes.swapWant.contains v then d.lanes.swapWant else d.lanes.swapWant ++ [v]) =
      d.lanes.swapWant ++ [v] := if_neg (ne_true_of_eq_false hw)
  refine (if_pos hlane).trans ?_
  exact congrArg (fun l => ({ d with lanes := { d.lanes with swapWant := l } } : Strand).answer 0x00) hwant

section

variable {b : List Byte}

theorem ethPortOp_of_new (h11 : bits (bytesToNat b) 11 5 = 0) (h64 : bits (bytesToNat b) 64 64 = 0)
    (hok : ethPortOk d n (bytesToNat b) = true) (hon : bit (bytesToNat b) 0 = true)
    (hkey : portKey (bytesToNat b) ≠ portKey (d.ethPort n))
    (hu : (d.portInUse n || (portLanes (bytesToNat b)).any d.laneInUse) = false) :
    ethPortOp d n b =
      (refreshOutputs ((d.put 0x3400 n (bytesToNat b)).put 0x3401 n 2)).answer 0x00 := by
  rw [ethPortOp]
  dsimp only
  rw [h11, h64, Nat.zero_mul, Nat.zero_mul, Nat.sub_zero, Nat.sub_zero]
  have hgood : ¬(!(ethPortOk d n (bytesToNat b))) = true := by simp [hok]
  have hfree : ¬(portKey (bytesToNat b) ≠ portKey (d.ethPort n) ∧
      (d.portInUse n || (portLanes (bytesToNat b)).any d.laneInUse) = true) := by simp [hu]
  have hstate : (if bit (bytesToNat b) 0 = false then 0 else if portKey (bytesToNat b) = portKey (d.ethPort n)
      then (d.put 0x3400 n (bytesToNat b)).get 0x3401 n else 2) = 2 := by
    rw [if_neg (by simp [hon]), if_neg hkey]
  refine (if_neg hgood).trans ((if_neg hfree).trans ?_)
  exact congrArg (fun st => (refreshOutputs ((d.put 0x3400 n (bytesToNat b)).put 0x3401 n st)).answer 0x00) hstate

theorem jesdCfgOp_of_new (h40 : bits (bytesToNat b) 40 24 = 0) (hok : jesdOk (bytesToNat b) = true)
    (hold : bytesToNat b ≠ d.jesd n) (he : d.endsInUse.contains (0x60 + n) = false)
    (hu : ((jesdLanes (d.jesd n) ++ jesdLanes (bytesToNat b)).any d.laneInUse) = false) :
    jesdCfgOp d n b = (({ d with lanes := { d.lanes with
      jesdN := d.lanes.jesdN.filter fun x => decide (x.1 / 4096 ≠ n)
      jesdBuf := d.lanes.jesdBuf.filter fun x => decide (x.1 / 4096 ≠ n) } }.put 0x3600 n (bytesToNat b)).put 0x3601 n
        (if bit (bytesToNat b) 0 then 2 else 0)).answer 0x00 := by
  rw [jesdCfgOp]
  dsimp only
  rw [h40, Nat.zero_mul, Nat.sub_zero]
  refine (if_neg (by simp [hok])).trans ((if_neg hold).trans ((if_neg ?_).trans rfl))
  exact ne_true_of_eq_false ((Bool.or_eq_false_iff).2 ⟨he, hu⟩)

end

end

/-! ### Each write takes its row -/

section

variable {s : State} {w : At} {rq : Requester} {n v : Nat} {b : List Byte} {e : Strand}

theorem dictFind_laneCfg (h : n < 24) : dictFind 0x3000 n = some ⟨0x3000, 0x3000, 0x00, 0x17, 4, 8, 1, 1, 0, false, 0x80000000⟩ :=
  dictFind_of_indexRow (lo := 0x3000) (hi := 0x3000) (by decide +kernel) (Nat.le_refl _) (Nat.le_refl _) (Nat.le_refl _)
    (Nat.le_refl _) (Nat.zero_le _) (by dsimp only; omega)

theorem dictFind_bondCfg (h : n < 16) : dictFind 0x3003 n = some ⟨0x3003, 0x3003, 0x00, 0x0F, 3, 4, 1, 1, 0, false, 0⟩ :=
  dictFind_of_indexRow (lo := 0x3003) (hi := 0x3003) (by decide +kernel) (Nat.le_refl _) (Nat.le_refl _) (Nat.le_refl _)
    (Nat.le_refl _) (Nat.zero_le _) (by dsimp only; omega)

theorem dictFind_timePerS : dictFind 0x3004 0x02 = some ⟨0x3004, 0x3004, 0x02, 0x02, 2, 2, 1, 1, 0, false, 0x40⟩ := by
  decide +kernel

theorem dictFind_laneSwapRequest : dictFind 0x3002 0x01 = some ⟨0x3002, 0x3002, 0x01, 0x01, 1, 1, 2, 1, 0, false, 0⟩ := by
  decide +kernel

theorem dictFind_ethPortCfg (h : n < 24) : dictFind 0x3400 n = some ⟨0x3400, 0x3400, 0x00, 0x17, 11, 32, 1, 1, 0, false, 0⟩ :=
  dictFind_of_indexRow (lo := 0x3400) (hi := 0x3400) (by decide +kernel) (Nat.le_refl _) (Nat.le_refl _) (Nat.le_refl _)
    (Nat.le_refl _) (Nat.zero_le _) (by dsimp only; omega)

theorem dictFind_ethFlow (h : n < 256) :
    dictFind (0x3500 + n) 0x01 = some ⟨0x3500, 0x35FF, 0x01, 0x01, 11, 64, 1, 2, 1, false, 0⟩ :=
  dictFind_of_rangeRow (lo := 0x3500) (hi := 0x35FF) (by decide +kernel) (by omega) (by omega)

theorem dictFind_jesdCfg (h : n < 8) : dictFind 0x3600 n = some ⟨0x3600, 0x3600, 0x00, 0x07, 11, 16, 1, 1, 0, false, 0⟩ :=
  dictFind_of_indexRow (lo := 0x3600) (hi := 0x3600) (by decide +kernel) (Nat.le_refl _) (Nat.le_refl _) (Nat.le_refl _)
    (Nat.le_refl _) (Nat.zero_le _) (by dsimp only; omega)

theorem writeLanes_laneTest {d : Strand} {sub : Nat} (hn : n < 26) (hs : sub = 0x0A ∨ sub = 0x0B) (b : List Byte) :
    writeLanes d (0x3100 + n) sub v b = laneTestOp d n sub v := by
  rw [writeLanes]
  iterate 4 rw [if_neg (by omega)]
  rw [if_pos (by omega), if_neg (by omega), Nat.add_sub_cancel_left]

theorem writeLanes_ethPortCfg (d : Strand) (n v : Nat) (b : List Byte) : writeLanes d 0x3400 n v b = ethPortOp d n b := by
  rw [writeLanes]
  iterate 5 rw [if_neg (by decide)]
  rw [if_pos rfl]

theorem writeLanes_ethFlow {d : Strand} (hn : n < 256) (hok : flowCheck d n (flowMask v) = 0x00) (c : Nat) :
    writeLanes (d.answer c) (0x3500 + n) 0x01 v b = pendWrite d (0x3500 + n) 0x01 (flowMask v) := by
  rw [writeLanes]
  iterate 6 rw [if_neg (by omega)]
  rw [if_pos (by omega), Nat.add_sub_cancel_left]
  exact if_pos hok

theorem writeLanes_jesdCfg (d : Strand) (n v : Nat) (b : List Byte) : writeLanes d 0x3600 n v b = jesdCfgOp d n b := by
  rw [writeLanes]
  iterate 7 rw [if_neg (by decide)]
  rw [if_pos rfl]

section

variable (hd : (refsRecheck { s.pkg with out := [] } e).still = true)
  (hz : (refsRecheck { s.pkg with out := [] } e).sleep = 0)
include hd hz

theorem leaves_laneCfg (hn : n < 24) (hv : v < 2 ^ 38) (ht : s.takes w rq 0x3000 n = true)
    (he : laneCfgOp ((s.found w).answer 0xFF) n v = e) :
    Leaves (.laneCfg w rq n v) s w (refsRecheck { s.pkg with out := [] } e) := by
  have hi : exec (.laneCfg w rq n v) s = .next (regWrite s w rq true 0x3000 n v) := by
    rw [← decide_eq_true (show n < 256 by omega)]
    rfl
  exact leaves_laneReg (by decide) (by decide) (dictFind_laneCfg hn) (by decide) (by dsimp only; omega) hi ht
    (fun _ => (if_pos rfl).trans he) hd hz

theorem leaves_bondCfg (hn : n < 16) (hv : v < 2 ^ 25) (ht : s.takes w rq 0x3003 n = true)
    (he : bondCfgOp ((s.found w).answer 0xFF) n v = e) :
    Leaves (.bondCfg w rq n v) s w (refsRecheck { s.pkg with out := [] } e) := by
  have hi : exec (.bondCfg w rq n v) s = .next (regWrite s w rq true 0x3003 n v) := by
    rw [← decide_eq_true (show n < 256 by omega)]
    rfl
  exact leaves_laneReg (by decide) (by decide) (dictFind_bondCfg hn) (by decide) (by dsimp only; omega) hi ht
    (fun _ => he) hd hz

theorem leaves_loopback (hn : n < 26) (hv : v ≤ 3) (ht : s.takes w rq (0x3100 + n) 0x0A = true)
    (he : laneTestOp ((s.found w).answer 0xFF) n 0x0A v = e) :
    Leaves (.loopback w rq n v) s w (refsRecheck { s.pkg with out := [] } e) := by
  have hi : exec (.loopback w rq n v) s = .next (regWrite s w rq true (0x3100 + n) 0x0A v) := by
    rw [← decide_eq_true (show n < 64 by omega)]
    rfl
  exact leaves_laneReg (by omega) (by omega) (dictFind_laneTest hn (.inl rfl)) (by decide) (by dsimp only; omega) hi ht
    (fun b => (writeLanes_laneTest hn (.inl rfl) b).trans he) hd hz

theorem leaves_testPattern (hn : n < 26) (hv : v ≤ 3) (ht : s.takes w rq (0x3100 + n) 0x0B = true)
    (he : laneTestOp ((s.found w).answer 0xFF) n 0x0B v = e) :
    Leaves (.testPattern w rq n v) s w (refsRecheck { s.pkg with out := [] } e) := by
  have hi : exec (.testPattern w rq n v) s = .next (regWrite s w rq true (0x3100 + n) 0x0B v) := by
    rw [← decide_eq_true (show n < 64 by omega)]
    rfl
  exact leaves_laneReg (by omega) (by omega) (dictFind_laneTest hn (.inr rfl)) (by decide) (by dsimp only; omega) hi ht
    (fun b => (writeLanes_laneTest hn (.inr rfl) b).trans he) hd hz

theorem leaves_timePerS (hv : v ≤ 1024) (ht : s.takes w rq 0x3004 0x02 = true)
    (he : timePerSOp ((s.found w).answer 0xFF) v = e) :
    Leaves (.timePerS w rq v) s w (refsRecheck { s.pkg with out := [] } e) :=
  leaves_laneReg (by decide) (by decide) dictFind_timePerS (by decide) (by dsimp only; omega) rfl ht (fun _ => he) hd hz

theorem leaves_laneSwapRequest (hv : v < 24) (ht : s.takes w rq 0x3002 0x01 = true)
    (he : swapRequestOp ((s.found w).answer 0xFF) v = e) :
    Leaves (.laneSwapRequest w rq v) s w (refsRecheck { s.pkg with out := [] } e) :=
  leaves_laneReg (by decide) (by decide) dictFind_laneSwapRequest (by decide) (by dsimp only; omega) rfl ht (fun _ => he)
    hd hz

theorem leaves_ethPortCfg (hn : n < 24) (hb : b.length = 32) (ht : s.takes w rq 0x3400 n = true)
    (he : ethPortOp ((s.found w).answer 0xFF) n b = e) :
    Leaves (.ethPortCfg w rq n b) s w (refsRecheck { s.pkg with out := [] } e) := by
  have hi : exec (.ethPortCfg w rq n b) s = .next (dictWriteCmd s w rq true 0x3400 n b) := by
    rw [← decide_eq_true (show n < 256 by omega)]
    rfl
  exact leaves_laneBytes (by decide) (by decide) (dictFind_ethPortCfg hn) (by decide) hb hi ht
    ((writeLanes_ethPortCfg _ n _ b).trans he) hd hz

theorem leaves_ethFlow (hn : n < 256) (hb : b.length = 64) (ht : s.takes w rq (0x3500 + n) 0x01 = true)
    (he : writeLanes ((s.found w).answer 0xFF) (0x3500 + n) 0x01 (bytesToNat b) b = e) :
    Leaves (.ethFlow w rq n b) s w (refsRecheck { s.pkg with out := [] } e) := by
  have hi : exec (.ethFlow w rq n b) s = .next (dictWriteCmd s w rq true (0x3500 + n) 0x01 b) := by
    rw [← decide_eq_true hn]
    rfl
  exact leaves_laneBytes (by omega) (by omega) (dictFind_ethFlow hn) (by decide) hb hi ht he hd hz

theorem leaves_jesdCfg (hn : n < 8) (hb : b.length = 16) (ht : s.takes w rq 0x3600 n = true)
    (he : jesdCfgOp ((s.found w).answer 0xFF) n b = e) :
    Leaves (.jesdCfg w rq n b) s w (refsRecheck { s.pkg with out := [] } e) := by
  have hi : exec (.jesdCfg w rq n b) s = .next (dictWriteCmd s w rq true 0x3600 n b) := by
    rw [← decide_eq_true (show n < 256 by omega)]
    rfl
  exact leaves_laneBytes (by decide) (by decide) (dictFind_jesdCfg hn) (by decide) hb hi ht
    ((writeLanes_jesdCfg _ n _ b).trans he) hd hz

end

end

/-- Settles O27: each write takes its row of the dictionary, and its operation goes the branch that the hypotheses
choose. -/
theorem laneConfiguration : Obligations.LaneConfiguration := by
  refine ⟨fun s w rq n v => ?_, fun s w rq n b => ?_⟩
  · intro d leaves
    refine ⟨fun hn hv hb ht hf hp hu hold h6 h4 hd hz => ?_, fun hn hv hb ht hbad hd hz => ?_,
      fun hn hv hon ht hok hold he hl hd hz => ?_,
      fun hn hv h0 hu h6 hr => ⟨fun ht hd hz => ?_, fun ht hd hz => ?_⟩,
      fun hv h0 hok ht hd hz => ?_, fun hv hrate hw ht hd hz => ?_⟩
    · exact leaves_laneCfg hd hz hn hv ht ((laneCfgOp_of_new (d := d.answer 0xFF) hn hv hb hf hp hu hold h6 h4).trans
        (refreshOutputs_answer_answer (laneRestarted d n v) 0xFF 0x00))
    · exact leaves_laneCfg hd hz hn hv ht (laneCfgOp_of_refused (d := d.answer 0xFF) hv hb hbad)
    · exact leaves_bondCfg hd hz hn hv ht (bondCfgOp_of_new (d := d.answer 0xFF) hv hok hold he hl)
    · exact leaves_loopback hd hz hn hv ht (laneTestOp_of_on (d := d.answer 0xFF) hn (.inl rfl) hv h0 hu h6 hr)
    · exact leaves_testPattern hd hz hn hv ht (laneTestOp_of_on (d := d.answer 0xFF) hn (.inr rfl) hv h0 hu h6 hr)
    · exact leaves_timePerS hd hz hv ht (timePerSOp_of_ok (d := d.answer 0xFF) hv h0 hok)
    · exact leaves_laneSwapRequest hd hz hv ht (swapRequestOp_of_lane (d := d.answer 0xFF) hv hrate hw)
  · intro d v leaves
    refine ⟨fun hn hb h11 h64 ht hok hon hkey hu hd hz => ?_, fun hn hb ht hok hd hz => ?_,
      fun hn hb h40 ht hok hold he hu hd hz => ?_⟩
    · exact leaves_ethPortCfg hd hz hn hb ht ((ethPortOp_of_new (d := d.answer 0xFF) h11 h64 hok hon hkey hu).trans
        (refreshOutputs_answer_answer ((d.put 0x3400 n v).put 0x3401 n 2) 0xFF 0x00))
    · exact leaves_ethFlow hd hz hn hb ht (writeLanes_ethFlow hn hok _)
    · exact leaves_jesdCfg hd hz hn hb ht (jesdCfgOp_of_new (d := d.answer 0xFF) h40 hok hold he hu)

end Sys2Proof.Machine

/-! PROOFS. Frames that a lane sends (R268, R278): a lane table that is not in canonical form. -/

namespace Sys2Proof.Machine

/-! ### What leaves a lane -/

section

variable {d e : Strand} {n : Nat}

theorem timeBody_lanes (g : Pkg) (d : Strand) (n : Nat) : (timeBody g d n).2.lanes = d.lanes := by
  unfold timeBody
  dsimp only
  split <;> split <;> rfl

theorem timeBody_now (g : Pkg) (d : Strand) (n : Nat) : (timeBody g d n).2.now = d.now := by
  unfold timeBody
  dsimp only
  split <;> split <;> rfl

theorem timeBody_still (g : Pkg) (d : Strand) (n : Nat) : (timeBody g d n).2.still = d.still := by
  unfold timeBody
  dsimp only
  split <;> split <;> rfl

theorem leaveIdle_of_idle (h : (d.lane n).txIdle = true) :
    leaveIdle d n = (d.setLane n { d.lane n with txIdle := false }).emit .laneSig (n + 256) [] := if_pos h

theorem fillTo_out_length (d : Strand) (n t b : Nat) : d.out.length ≤ (fillTo d n t b).out.length := by
  unfold fillTo
  dsimp only
  split
  · exact le_rfl
  · exact (List.length_append (bs := [_])).symm ▸ Nat.le_succ _

/-- A frame that departs is driven out. -/
theorem departAt_out_length (d : Strand) (n : Nat) (x : TxWait) (t : Nat) :
    d.out.length < (departAt d n x t).out.length := by
  have hfill : d.out.length ≤ (if x.type = 4 then fillTo d n t (cwBoundary d n t) else d).out.length := by
    split
    · exact fillTo_out_length d n t _
    · exact le_rfl
  by_cases h : x.type = 4
  all_goals
    simp only [departAt, h, if_true, if_false] at hfill ⊢
    exact Nat.lt_of_le_of_lt hfill (by simp [Strand.emit, Strand.setLane])

/-- A lane that is busy takes a frame into its wait. -/
theorem transmit_of_busy (hw : (d.lane n).wait = []) (hb : d.now < (d.lane n).busy) (x : TxWait) :
    transmit d n x = d.setLane n { d.lane n with wait := [x] } := by
  have hdrain : drainLane n (d.lane n).wait.length d = d := by rw [hw]; rfl
  rw [transmit, hdrain]
  exact (if_neg (by simp [hb])).trans (by rw [hw]; rfl)

/-- A TIME frame that falls due is handed to its lane, which leaves electrical idle for it. -/
theorem timeTxOp_of_up (g : Pkg) (hn : d.laneRec n = true) (hu : d.laneUp n = true)
    (ha : d.agushLane (d.laneNo n) = true) :
    timeTxOp g d n = sendOn (leaveIdle (timeBody g d n).2 n) n 4 (timeBody g d n).1 := if_pos (by simp [hn, hu, ha])

/-- A command leaves a strand in one way only. -/
theorem leaves_unique {i : Instr} {s : State} {w : At} (hd : Leaves i s w d) (he : Leaves i s w e) : d = e := by
  have h : s.leave w.k d = s.leave w.k e := Host.Outcome.next.inj (hd.symm.trans he)
  have hk := congrArg (State.strand · w.k) h
  cases hw : w.k <;> simpa [State.leave, State.setStrand, State.strand, hw] using hk

end

/-! ### The counterexample -/

/-- Strand 0 with lane record 0 up on an Agush lane, and two entries for that record in the lane table, which is not in
canonical form: the first one has its transmitter in electrical idle, and the second one is busy until 1 past 0. -/
def twiceListed : Strand :=
  let d := State.reset.st0.put 0x3100 0x01 2
  { d with lanes := { d.lanes with
      lane := [(0, { ({} : LaneDyn) with txIdle := true }), (0, { ({} : LaneDyn) with busy := 1 })] } }

/-- The part with that strand. -/
def twiceListedState : State := { State.reset with st0 := twiceListed }

/-- Strand 0 at time 0. -/
def twiceListedAt : At := ⟨.s0, 0⟩

theorem twiceListed_runs : twiceListedState.runs .s0 = true := by decide +kernel

theorem twiceListed_ready :
    let d := twiceListedState.found twiceListedAt
    d.laneUp 0 = true ∧ d.agushLane (d.laneNo 0) = true ∧ (d.lane 0).wait = [] ∧ (d.lane 0).busy ≤ d.now := by
  decide +kernel

/-- The strand where lane record 0 has left electrical idle for a TIME frame. -/
def twiceListedAwake : Strand :=
  leaveIdle (timeBody { twiceListedState.pkg with out := [] } (twiceListedState.found twiceListedAt) 0).2 0

theorem twiceListedAwake_eq :
    twiceListedAwake = ((timeBody { twiceListedState.pkg with out := [] } (twiceListedState.found twiceListedAt) 0).2.setLane 0
      {}).emit .laneSig 256 [] := by
  have hlane : (timeBody { twiceListedState.pkg with out := [] } (twiceListedState.found twiceListedAt) 0).2.lane 0 =
      { ({} : LaneDyn) with txIdle := true } := by
    rw [Strand.lane, timeBody_lanes]
    rfl
  rw [twiceListedAwake, leaveIdle_of_idle (by rw [hlane]), hlane]

/-- Only the first entry of the record is gone: the second one now speaks for it. -/
theorem twiceListedAwake_lane : twiceListedAwake.lane 0 = { ({} : LaneDyn) with busy := 1 } := by
  rw [twiceListedAwake_eq, Strand.lane, Strand.emit, Strand.setLane, timeBody_lanes]
  rfl

theorem twiceListedAwake_now : twiceListedAwake.now = 0 := by
  rw [twiceListedAwake_eq]
  exact timeBody_now _ _ 0

theorem twiceListedAwake_still : twiceListedAwake.still = true := by
  rw [twiceListedAwake_eq]
  exact (timeBody_still _ _ 0).trans (ready_still (runs_ready twiceListed_runs) .s0)

/-- The TIME frame of the counterexample waits, and nothing but the training burst is driven out. -/
theorem twiceListed_waits :
    let b := (timeBody { twiceListedState.pkg with out := [] } (twiceListedState.found twiceListedAt) 0).1
    Leaves (.timeFrameTx twiceListedAt 0) twiceListedState twiceListedAt
      (twiceListedAwake.setLane 0 { twiceListedAwake.lane 0 with wait := [⟨2, 4, false, 0, b⟩] }) := by
  obtain ⟨hup, hagush, -⟩ := twiceListed_ready
  have hbusy : twiceListedAwake.now < (twiceListedAwake.lane 0).busy := by
    rw [twiceListedAwake_now, twiceListedAwake_lane]
    exact Nat.one_pos
  refine leaves_of_onLivePkg (f := fun g d => timeTxOp g d 0) twiceListed_runs rfl ?_ twiceListedAwake_still
  exact (timeTxOp_of_up _ rfl hup hagush).trans (transmit_of_busy (by rw [twiceListedAwake_lane]) hbusy _)

/-- Refutes O31: a record that is not busy sends its TIME frame at once, but where the lane table lists it twice
(`twiceListed`), the record that leaves electrical idle is the second entry's from then on, which is busy. -/
theorem not_framesSent : ¬ Obligations.FramesSent := by
  intro h
  obtain ⟨hup, hagush, hwait, hbusy⟩ := twiceListed_ready
  have hsent := ((h.1 twiceListedState twiceListedAt 0 twiceListed_runs (by decide)).1 hup hagush hwait).1 hbusy
  have hout := congrArg (List.length ·.out) (leaves_unique hsent twiceListed_waits)
  exact absurd hout (Nat.ne_of_gt (departAt_out_length twiceListedAwake 0 _ _))

end Sys2Proof.Machine

/-! PROOFS. Writes of the timing entries (R304, R307 to R309, R316). -/

/-! ### References, selection and the answer to an access -/

namespace Sys2Proof.Machine

section

variable {d e x y : Strand} {c : Nat}

/-- A choice between two strands that differ in their answers only. -/
theorem ite_answer {p : Prop} [Decidable p] (hx : d = x.answer c) (hy : e = y.answer c) :
    (if p then d else e) = (if p then x else y).answer c := by
  subst hx hy
  exact (apply_ite (Strand.answer · c) p x y).symm

theorem raiseIf_answer (h : e = d.answer c) (b : Bool) (src inst : Nat) :
    e.raiseIf b src inst = (d.raiseIf b src inst).answer c :=
  ite_answer (congrArg (Strand.raise · src inst) h) h

theorem holdEvent_answer (d : Strand) (c : Nat) (b : List Byte) :
    (d.answer c).holdEvent b = (d.holdEvent b).answer c :=
  ite_answer rfl (ite_answer rfl rfl)

theorem post_answer (h : e = d.answer c) (type arg0 arg1 : Nat) :
    e.post type arg0 arg1 = (d.post type arg0 arg1).answer c := by
  subst h
  exact ite_answer rfl (ite_answer rfl (holdEvent_answer d c _))

theorem postTimeState_answer (h : e = d.answer c) : e.postTimeState = d.postTimeState.answer c := by
  subst h
  exact post_answer rfl _ _ _

/-! #### A new timing state -/

/-- What a strand that takes a new timing state keeps in its timing unit (R310, R318, R321). -/
def enteredTm (g : Pkg) (d : Strand) (n : Nat) : Timing :=
  let far := !(timingMaster g d) && (decide (n = 3) || decide (n = 4)) && decide (4 ≤ d.tm.holdRef) &&
    decide (d.tm.holdRef ≤ 7)
  { d.tm with
    history := historyNow d && decide (n ≠ 4)
    lockedAt := if n = 2 then d.now else d.tm.lockedAt
    todKnown := decide (n = 2) || d.tm.todKnown
    acqAt := if n = 1 then d.now else d.tm.acqAt
    holdAt := if n = 3 then d.now else d.tm.holdAt
    partNow := (!decide (n = 2) && d.tm.partNow) || far }

/-- The strand with a new timing state shown, and the source of HOLDOVER or LOST raised. -/
def timeEntered (g : Pkg) (d : Strand) (n : Nat) : Strand :=
  ({ d.put 0x2000 0x01 n with tm := enteredTm g d n }.raiseIf (decide (n = 3)) 0x83 d.tm.holdRef).raiseIf
    (decide (n = 4)) 0x84 d.tm.holdRef

theorem timeTo_of_new (g : Pkg) {n : Nat} (h : n ≠ d.timeState) :
    timeTo g d n = (showHops g (timeEntered g d n)).postTimeState := by
  rw [timeTo, if_neg h]
  by_cases h2 : n = 2
  · subst h2; rfl
  by_cases h1 : n = 1
  · subst h1; rfl
  by_cases h3 : n = 3
  · subst h3; rfl
  simp only [timeEntered, enteredTm, h2, h1, h3, if_false, decide_false]
  rfl

theorem timeTo_of_same (g : Pkg) {n : Nat} (h : n = d.timeState) : timeTo g d n = showHops g d := if_pos h

variable (g : Pkg)

theorem showHops_answer (h : e = d.answer c) : showHops g e = (showHops g d).answer c := by
  subst h
  rfl

theorem showStatus_answer (h : e = d.answer c) : showStatus g e = (showStatus g d).answer c := by
  subst h
  exact List.foldl_hom (Strand.answer · c) fun _ _ => rfl

theorem setRef_answer (h : e = d.answer c) (n : Nat) : setRef e n = (setRef d n).answer c := by
  subst h
  rfl

theorem setSwitch_answer (h : e = d.answer c) (phase : Nat) (target : Option Nat) :
    setSwitch e phase target = (setSwitch d phase target).answer c := by
  subst h
  rfl

theorem timeEntered_answer (d : Strand) (n c : Nat) :
    timeEntered g (d.answer c) n = (timeEntered g d n).answer c :=
  raiseIf_answer (raiseIf_answer (d := { d.put 0x2000 0x01 n with tm := enteredTm g d n }) rfl _ _ d.tm.holdRef) _ _
    d.tm.holdRef

theorem timeTo_answer (h : e = d.answer c) (n : Nat) : timeTo g e n = (timeTo g d n).answer c := by
  subst h
  by_cases hn : n = d.timeState
  · rw [timeTo_of_same g hn, timeTo_of_same (d := d.answer c) g hn]
    exact showHops_answer g rfl
  · rw [timeTo_of_new g hn, timeTo_of_new (d := d.answer c) g hn]
    exact postTimeState_answer (showHops_answer g (timeEntered_answer g d n c))

/-! #### Selection (R312, R313) -/

theorem holdBegin_answer (h : e = d.answer c) (n : Nat) : holdBegin g e n = (holdBegin g d n).answer c := by
  subst h
  exact timeTo_answer g (d := { d.freeNat.2 with tm := { d.freeNat.2.tm with
    holdAt := d.now, holdU0 := lockNs n, holdF0 := 2 * d.freeNat.1 + floorPpt n, holdRef := n } }) rfl 3

theorem refLost_answer (h : e = d.answer c) : refLost g e = (refLost g d).answer c := by
  subst h
  exact ite_answer (setRef_answer (holdBegin_answer g rfl d.refSel) _)
    (timeTo_answer g (setRef_answer (d := d) rfl _) 0)

theorem switchTo_answer (h : e = d.answer c) (n : Nat) : switchTo e n = (switchTo d n).answer c := by
  subst h
  exact ite_answer rfl rfl

/-- Selection does not look at the answer of the write under way, and leaves it. -/
theorem reselect_answer (h : e = d.answer c) : reselect g e = (reselect g d).answer c := by
  subst h
  have hchoose (cur : Nat) : chooseRef g (d.answer c) cur = chooseRef g d cur := rfl
  have hstate : (d.answer c).timeState = d.timeState := rfl
  have hsel : (d.answer c).refSel = d.refSel := rfl
  refine showStatus_answer g (showHops_answer g (ite_answer rfl ?_))
  rw [hchoose, hchoose, hstate, hsel]
  split
  case h_1 => -- LOCKED
    refine ite_answer rfl ?_
    split
    · exact ite_answer (switchTo_answer rfl _) (switchTo_answer (refLost_answer g rfl) _)
    · exact setSwitch_answer (refLost_answer g rfl) _ _
  case h_2 => -- HOLDOVER
    refine ite_answer rfl ?_
    split <;> rfl
  case h_3 => -- ACQUIRING
    have hleft := timeTo_answer g (setRef_answer (d := d) (c := c) rfl 0x0F) d.tm.acqFrom
    split
    · exact ite_answer rfl (ite_answer rfl (ite_answer rfl hleft))
    · exact hleft
  case h_4 => -- FREE_RUN and LOST
    split
    case h_1 x _ =>
      exact ite_answer (timeTo_answer g (setRef_answer
        (d := { d with tm := { d.tm with acqFrom := d.timeState, narrow := 0 } }) rfl x) 1) rfl
    case h_2 => rfl

end

end Sys2Proof.Machine

namespace Sys2Proof.Machine

/-! ### Writes of the timing entries -/

section

variable {s : State} {w : At} {rq : Requester} {i : Instr} {g : Pkg} {d e : Strand} {r : DictRow}
  {index sub n v p : Nat}

theorem isPackageLoc_timing (h : 0x2000 ≤ index) (h' : index ≤ 0x23FF) (hs : sub < 256) :
    isPackageLoc (locKey index sub) = false := by
  have hkey : locKey index sub / 256 = index := by unfold locKey; omega
  unfold isPackageLoc
  rw [hkey]
  simp
  omega

theorem entryWrite_timing (g : Pkg) (d : Strand) (rq : Requester) (b : List Byte) (h : 0x2000 ≤ index)
    (h' : index ≤ 0x23FF) (hs : sub < 256) :
    entryWrite g d rq index sub b = (g, writeTiming g d index sub (bytesToNat b)) := by
  rw [entryWrite, isPackageLoc_timing h h' hs, if_neg Bool.false_ne_true]
  iterate 4 rw [if_neg (by omega)]
  rw [if_pos h']

/-- A write of a number to a timing entry above level 0 leaves what the entry's rule says. -/
theorem leaves_timingReg (h : 0x2000 ≤ index ∧ index ≤ 0x23FF ∧ sub < 256) (hr : dictFind index sub = some r)
    (hp : r.access ≠ 0 ∧ r.level ≠ 0 ∧ r.size ≠ 0) (hv : v < 256 ^ r.size) (hty : r.type = 0 → v ≤ 1)
    (hi : exec i s = .next (regWrite s w rq true index sub v)) (ht : s.takes w rq index sub = true)
    (he : writeTiming { s.pkg with out := [] } ((s.found w).answer 0xFF) index sub v = e) (hd : e.still = true)
    (hz : e.sleep = 0) : Leaves i s w e := by
  obtain ⟨hlo, hhi, hsub⟩ := h
  obtain ⟨hacc, hlev, hsize⟩ := hp
  refine leaves_of_regWrite ht hr hsize hi hacc hv hty (fun b hb => ?_) hd hz
  rw [noteLevel_of_ne_zero hlev, entryWrite_timing _ _ _ _ hlo hhi hsub, hb, he]

/-- The last answer counts. -/
theorem answer_answer (d : Strand) (c c' : Nat) : (d.answer c).answer c' = d.answer c' := rfl

/-! #### References (R307, R308) -/

/-- Input `n` is refused no longer (R312). -/
def notRefused (d : Strand) (n : Nat) : Strand :=
  { d with tm := { d.tm with refused := d.tm.refused.filter fun k => decide (k ≠ n) } }

/-- An input with neither lane nor port that stays enabled with its source takes its value. -/
theorem refCfgOp_of_enabled (hn : n < 4) (hv : v < 32) (hb : bit v 0 = true) (hs : bits (d.refCfg n) 8 7 = 0)
    (c : Nat) : refCfgOp g (d.answer c) n v = reselect g (notRefused ((d.put 0x2001 n v).answer 0x00) n) := by
  have hv0 : bits v 8 7 = 0 := by unfold bits; omega
  have hval : bits v 0 5 + 0 * 2 ^ 8 = v := by unfold bits; omega
  have hin : inR 4 7 n = false := by simp [inR]; omega
  have hptp : n ≠ 8 := by omega
  have hcfg : bits ((d.answer c).refCfg n) 8 7 = 0 := hs
  simp only [refCfgOp, hv0, hval, hcfg, hb, hin, hptp, Bool.false_and, Bool.and_true, decide_true, decide_false,
    Bool.or_false, Bool.and_false, Bool.false_eq_true, if_false, if_true]
  rfl

theorem qualHoldOp_of_ok (h1 : 100 ≤ v) (h2 : v ≤ 60000) (hp : perSecondOk (d.get 0x3004 0x02) v = true) (c : Nat) :
    qualHoldOp (d.answer c) v = (d.put 0x2005 0x01 v).answer 0x00 :=
  if_pos (by simp [inR, h1, h2, hp])

theorem qualHoldOp_of_outside (h : v < 100 ∨ 60000 < v) (c : Nat) : qualHoldOp (d.answer c) v = d.answer 0x02 :=
  if_neg (by simp [inR]; omega)

/-! #### Steps and the TAI second (R304, R309) -/

/-- One step is permitted, and refused inputs are candidates again. -/
def stepArmed (d : Strand) : Strand := { d with tm := { d.tm with stepArm := true, refused := [] } }

theorem stepArmOp_one (c : Nat) : stepArmOp g (d.answer c) 1 = (reselect g (stepArmed d)).answer 0x00 := by
  have hop : stepArmOp g (d.answer c) 1 = (reselect g (stepArmed (d.answer c))).answer 0x00 := if_neg (by decide)
  rw [hop, reselect_answer g (d := stepArmed d) (e := stepArmed (d.answer c)) (c := c) rfl, answer_answer]

theorem todLoadOp_of_allowed (hp : todPps d = some p) (hq : d.isQual p = true)
    (h : v = nextSecond d ∨ (stepPermit d).isSome = true) (c : Nat) :
    todLoadOp (d.answer c) v = { d with tm := { d.tm with tod := some v } }.answer 0x00 := by
  have hpps : todPps (d.answer c) = some p := hp
  have hqual : (d.answer c).isQual p = true := hq
  have hlate : ¬(v ≠ nextSecond d ∧ (stepPermit d).isNone = true) := by
    rintro ⟨hne, hnone⟩
    rcases h with h | h
    · exact hne h
    · simp [Option.isNone_iff_eq_none.1 hnone] at h
  simp only [todLoadOp, hpps, hqual]
  exact if_neg hlate

theorem todLoadOp_of_no_pps (h : todPps d = none) (c : Nat) : todLoadOp (d.answer c) v = d.answer 0x02 := by
  have hpps : todPps (d.answer c) = none := h
  simp only [todLoadOp, hpps]
  rfl

/-! #### The software loop (R316) -/

theorem freqAdjOp_of_hard (hv : (toSigned 64 v).natAbs ≤ 56294995342) (h : d.get 0x2006 0x01 ≠ 1) (c : Nat) :
    freqAdjOp (d.answer c) v = (d.put 0x2006 0x02 v).answer 0x00 := by
  have hmode : ((d.put 0x2006 0x02 v).answer 0x00).get 0x2006 0x01 ≠ 1 :=
    (d.get_put_other v (by decide)).trans_ne h
  exact (if_neg (Nat.not_lt.2 hv)).trans (if_neg hmode)

theorem phaseAdjOp_of_soft (h : d.get 0x2006 0x01 = 1) (c : Nat) : phaseAdjOp (d.answer c) v =
    (slewBy d (d.tm.slewLeft - slewMoved d d.now + 2 * toSigned 64 v)).answer 0x00 := if_pos h

theorem phaseAdjOp_of_hard (h : d.get 0x2006 0x01 ≠ 1) (c : Nat) : phaseAdjOp (d.answer c) v = d.answer 0x00 := if_neg h

theorem loopModeOp_of_same (hv : v ≤ 1) (h : v = d.get 0x2006 0x01) (c : Nat) :
    loopModeOp g (d.answer c) v = d.answer 0x00 :=
  (if_neg (Nat.not_lt.2 hv)).trans (if_pos h)

theorem softStateOp_of_hard (hv : ¬(v = 1 ∨ 4 < v)) (h : d.get 0x2006 0x01 ≠ 1) (c : Nat) :
    softStateOp g (d.answer c) v = (d.put 0x2006 0x04 v).answer 0x00 := by
  have hmode : ((d.put 0x2006 0x04 v).answer 0x00).get 0x2006 0x01 ≠ 1 :=
    (d.get_put_other v (by decide)).trans_ne h
  exact (if_neg hv).trans (if_neg hmode)

theorem softStateOp_of_soft (hv : ¬(v = 1 ∨ 4 < v)) (h : d.get 0x2006 0x01 = 1) (c : Nat) :
    softStateOp g (d.answer c) v = timeTo g ((d.put 0x2006 0x04 v).answer 0x00) v := by
  have hmode : ((d.put 0x2006 0x04 v).answer 0x00).get 0x2006 0x01 = 1 :=
    (d.get_put_other v (by decide)).trans h
  exact (if_neg hv).trans (if_pos hmode)

/-- The strand at the write of SOFT: the mode taken, and the reference in force kept for a holdover after it. -/
def softMode (d : Strand) (keep : Nat) : Strand :=
  { d.put 0x2006 0x01 1 with tm := { d.tm with holdRef := if keep = 0x0F then d.tm.holdRef else keep } }

/-- The same with no reference and no switch, in the state that SOFT_STATE names. -/
def softBegun (g : Pkg) (d : Strand) (keep : Nat) : Strand :=
  timeTo g (setRef (setSwitch (softMode d keep) 0 none) 0x0F) ((softMode d keep).get 0x2006 0x04)

theorem softBegun_answer (keep c : Nat) : softBegun g (d.answer c) keep = (softBegun g d keep).answer c :=
  timeTo_answer g (setRef_answer (setSwitch_answer (d := softMode d keep) rfl _ _) _) _

/-- The owner of the loop and REF_STATUS follow a new mode. -/
def modeShown (g : Pkg) (d : Strand) : Strand := showStatus g (setRef d d.refSel)

theorem modeShown_answer (c : Nat) : modeShown g (d.answer c) = (modeShown g d).answer c :=
  showStatus_answer g (setRef_answer (d := d) rfl d.refSel)

theorem loopModeOp_of_soft (h : d.get 0x2006 0x01 = 0) (c : Nat) :
    loopModeOp g (d.answer c) 1 = (modeShown g (softBegun g d d.refSel)).answer 0x00 := by
  have hmode : ¬1 = (d.answer c).get 0x2006 0x01 := by
    rw [Strand.answer_get, h]
    decide
  have hsel : ((d.answer c).put 0x2006 0x01 1).refSel = d.refSel := (d.answer c).get_put_other 1 (by decide)
  have hop : loopModeOp g (d.answer c) 1 =
      (modeShown g (softBegun g (d.answer c) ((d.answer c).put 0x2006 0x01 1).refSel)).answer 0x00 := by
    rw [loopModeOp, if_neg (by decide), if_neg hmode]
    exact congrArg (fun f => (modeShown g f).answer 0x00) (if_pos rfl)
  rw [hop, hsel, softBegun_answer, modeShown_answer, answer_answer]

end

/-! ### The commands that write a timing entry -/

section

variable {s : State} {w : At} {rq : Requester} {e : Strand} {n v : Nat} (hd : e.still = true) (hz : e.sleep = 0)
include hd hz

theorem leaves_refCfg (hn : n < 4) (hv : v < 2 ^ 32) (ht : s.takes w rq 0x2001 n = true)
    (he : refCfgOp { s.pkg with out := [] } ((s.found w).answer 0xFF) n v = e) : Leaves (.refCfg w rq n v) s w e := by
  have hr : dictFind 0x2001 n = some ⟨0x2001, 0x2001, 0x00, 0x08, 3, 4, 1, 1, 0, false, 0x0⟩ :=
    dictFind_of_indexRow (lo := 0x2001) (hi := 0x2001) (by decide +kernel) (Nat.le_refl _) (Nat.le_refl _)
      (Nat.le_refl _) (Nat.le_refl _) (Nat.zero_le _) (by dsimp only; omega)
  have hi : exec (.refCfg w rq n v) s = .next (regWrite s w rq true 0x2001 n v) := by
    rw [← decide_eq_true (show n < 256 by omega)]
    rfl
  exact leaves_timingReg (by omega) hr (by decide) hv (by simp) hi ht he hd hz

theorem leaves_qualHoldoffMs (hv : v < 2 ^ 32) (ht : s.takes w rq 0x2005 0x01 = true)
    (he : qualHoldOp ((s.found w).answer 0xFF) v = e) : Leaves (.qualHoldoffMs w rq v) s w e := by
  have hr : dictFind 0x2005 0x01 = some ⟨0x2005, 0x2005, 0x01, 0x01, 3, 4, 1, 1, 0, false, 0x7d0⟩ := by decide +kernel
  exact leaves_timingReg (by decide) hr (by decide) hv (by simp) rfl ht he hd hz

theorem leaves_todLoad (hv : v < 2 ^ 64) (ht : s.takes w rq 0x2005 0x0A = true)
    (he : todLoadOp ((s.found w).answer 0xFF) v = e) : Leaves (.todLoad w rq v) s w e := by
  have hr : dictFind 0x2005 0x0A = some ⟨0x2005, 0x2005, 0x0a, 0x0a, 4, 8, 2, 1, 0, false, 0x0⟩ := by decide +kernel
  exact leaves_timingReg (by decide) hr (by decide) hv (by simp) rfl ht he hd hz

theorem leaves_timeStepArm (hv : v ≤ 1) (ht : s.takes w rq 0x2005 0x0B = true)
    (he : stepArmOp { s.pkg with out := [] } ((s.found w).answer 0xFF) v = e) : Leaves (.timeStepArm w rq v) s w e := by
  have hr : dictFind 0x2005 0x0B = some ⟨0x2005, 0x2005, 0x0b, 0x0b, 0, 1, 2, 1, 0, false, 0x0⟩ := by decide +kernel
  exact leaves_timingReg (by decide) hr (by decide) (by dsimp only; omega) (fun _ => hv) rfl ht he hd hz

theorem leaves_loopMode (hv : v ≤ 1) (ht : s.takes w rq 0x2006 0x01 = true)
    (he : loopModeOp { s.pkg with out := [] } ((s.found w).answer 0xFF) v = e) : Leaves (.loopMode w rq v) s w e := by
  have hr : dictFind 0x2006 0x01 = some ⟨0x2006, 0x2006, 0x01, 0x01, 1, 1, 1, 1, 0, false, 0x0⟩ := by decide +kernel
  exact leaves_timingReg (by decide) hr (by decide) (by dsimp only; omega) (by simp) rfl ht he hd hz

theorem leaves_freqAdj (hv : v < 2 ^ 64) (ht : s.takes w rq 0x2006 0x02 = true)
    (he : freqAdjOp ((s.found w).answer 0xFF) v = e) : Leaves (.freqAdj w rq v) s w e := by
  have hr : dictFind 0x2006 0x02 = some ⟨0x2006, 0x2006, 0x02, 0x02, 8, 8, 1, 1, 0, false, 0x0⟩ := by decide +kernel
  exact leaves_timingReg (by decide) hr (by decide) hv (by simp) rfl ht he hd hz

theorem leaves_phaseAdjPs (hv : v < 2 ^ 64) (ht : s.takes w rq 0x2006 0x03 = true)
    (he : phaseAdjOp ((s.found w).answer 0xFF) v = e) : Leaves (.phaseAdjPs w rq v) s w e := by
  have hr : dictFind 0x2006 0x03 = some ⟨0x2006, 0x2006, 0x03, 0x03, 8, 8, 2, 1, 0, false, 0x0⟩ := by decide +kernel
  exact leaves_timingReg (by decide) hr (by decide) hv (by simp) rfl ht he hd hz

theorem leaves_softState (hv : v ≤ 4) (ht : s.takes w rq 0x2006 0x04 = true)
    (he : softStateOp { s.pkg with out := [] } ((s.found w).answer 0xFF) v = e) : Leaves (.softState w rq v) s w e := by
  have hr : dictFind 0x2006 0x04 = some ⟨0x2006, 0x2006, 0x04, 0x04, 1, 1, 1, 1, 0, false, 0x0⟩ := by decide +kernel
  exact leaves_timingReg (by decide) hr (by decide) (by dsimp only; omega) (by simp) rfl ht he hd hz

end

/-- Settles O35: each write takes its row of the dictionary, and its operation goes the branch that the hypotheses
choose; selection, the new timing state and the status entries pass over the answer of the write under way. -/
theorem timingWrites : Obligations.TimingWrites := by
  intro s w rq n v d g leaves
  refine ⟨fun hn hv hb hs ht hd hz => ?_, fun h1 h2 hp ht hd hz => ?_, fun h hv ht hd hz => ?_, fun ht hd hz => ?_,
    fun p hv ht hp hq h hd hz => ?_, fun hv ht hp hd hz => ?_, fun hv hx ht h hd hz => ?_,
    fun hv ht h hd hz => ?_, fun hv ht h hd hz => ?_, fun ht hv h hd hz => ?_, fun ht h _ hd hz => ?_,
    fun hv ht h hd hz => ?_, fun hv ht h hd hz => ?_⟩
  · exact leaves_refCfg hd hz hn (by omega) ht (refCfgOp_of_enabled (d := d) hn hv hb hs _)
  · exact leaves_qualHoldoffMs hd hz (by omega) ht (qualHoldOp_of_ok (d := d) h1 h2 hp _)
  · exact leaves_qualHoldoffMs hd hz hv ht (qualHoldOp_of_outside (d := d) h _)
  · exact leaves_timeStepArm hd hz (Nat.le_refl 1) ht (stepArmOp_one (d := d) _)
  · exact leaves_todLoad hd hz hv ht (todLoadOp_of_allowed (d := d) hp hq h _)
  · exact leaves_todLoad hd hz hv ht (todLoadOp_of_no_pps (d := d) hp _)
  · exact leaves_freqAdj hd hz hv ht (freqAdjOp_of_hard (d := d) hx h _)
  · exact leaves_phaseAdjPs hd hz hv ht (phaseAdjOp_of_soft (d := d) h _)
  · exact leaves_phaseAdjPs hd hz hv ht (phaseAdjOp_of_hard (d := d) h _)
  · exact leaves_loopMode hd hz hv ht (loopModeOp_of_same (d := d) hv h _)
  · exact leaves_loopMode hd hz (Nat.le_refl 1) ht (loopModeOp_of_soft (d := d) h _)
  · exact leaves_softState hd hz (by omega) ht (softStateOp_of_hard (d := d) (by omega) h _)
  · exact leaves_softState hd hz (by omega) ht (softStateOp_of_soft (d := d) (by omega) h _)

end Sys2Proof.Machine

/-! PROOFS. Timing states, the PTP servo and the time outputs (R310, R311, R313, R315, R317, R318, R323). -/

namespace Sys2Proof.Machine

/-! ### Timing states (R310, R311, R313, R315, R318) -/

section

variable {g : Pkg} {d : Strand} {x : Nat} {err : Int}

/-- ACQUIRING ends in LOCKED: the TAI second is known, both errors have been in range for 4 s, and a wide acquisition
has narrowed fifteen times (R311, R315). -/
def MayLock (g : Pkg) (d : Strand) : Prop :=
  d.timeState = 1 ∧ todKnown d = true ∧ inRange4 d = true ∧ (wideAcq g d = false ∨ 15 ≤ d.tm.narrow)

theorem lockOp_of_mayLock (h : MayLock g d) : lockOp g d = timeTo g d 2 := if_pos h

theorem lockOp_of_not_mayLock (h : ¬MayLock g d) : lockOp g d = d := if_neg h

theorem not_mayLock (h : d.timeState ≠ 1 ∨ todKnown d = false ∨ inRange4 d = false ∨
    (wideAcq g d = true ∧ d.tm.narrow < 15)) : ¬MayLock g d := by
  rintro ⟨hstate, htod, hrange, hwide⟩
  rcases h with h | h | h | ⟨hw, hn⟩
  · exact h hstate
  · simp [h] at htod
  · simp [h] at hrange
  · rcases hwide with hwide | hwide
    · simp [hw] at hwide
    · omega

theorem narrowOp_of_due (hs : d.timeState = 1) (ht : g.straps.tm = true) (hn : d.tm.narrow < 15)
    (hdue : d.tm.acqAt + secTime (2 * (d.tm.narrow + 1)) ≤ d.now) :
    narrowOp g d = { d with tm := { d.tm with narrow := d.tm.narrow + 1 } } := if_pos ⟨hs, ht, hn, hdue⟩

theorem holdLimitOp_of_beyond (hs : d.timeState = 3) (hm : d.get 0x2006 0x01 ≠ 1) (hp : d.get 0x2000 0x05 ≠ 2)
    (h : d.get 0x2005 0x05 < holdModel d d.now) : holdLimitOp g d = reselect g (timeTo g d 4) :=
  if_pos ⟨hs, hm, hp, h⟩

theorem holdLimitOp_of_within (h : holdModel d d.now ≤ d.get 0x2005 0x05) : holdLimitOp g d = d :=
  if_neg fun ⟨_, _, _, hb⟩ => Nat.not_lt.2 h hb

theorem switchDoneOp_of_slewed (hx : d.tm.target = some x) (hp : d.get 0x2000 0x05 = 2)
    (h : slewRest d ≤ halfPs (lockNs x)) :
    switchDoneOp g d = reselect g ((timeTo g (setSwitch (slewBy d 0) 0 none) 2).raise 0x81 x) := by
  rw [switchDoneOp, hx]
  exact if_pos ⟨hp, h⟩

theorem switchDoneOp_of_rest (hx : d.tm.target = some x) (h : halfPs (lockNs x) < slewRest d) :
    switchDoneOp g d = d := by
  rw [switchDoneOp, hx]
  exact if_neg fun ⟨_, hle⟩ => absurd h (not_lt.2 hle)

/-- The reference that a holdover during the switch would begin after: the one in force, where it is LOCKED (R313). -/
def holdNoted (d : Strand) : Strand :=
  { d with tm := { d.tm with holdRef := if d.timeState = 2 then d.refSel else d.tm.holdRef } }

theorem slewStartOp_of_small (hx : d.tm.target = some x) (hp : d.get 0x2000 0x05 = 1) (hq : d.isQual x = true)
    (h : (err.natAbs : Int) ≤ halfPs (d.get 0x2005 0x08)) : slewStartOp g d err =
      let e := slewBy (holdNoted d) err
      showHops g (setRef (setSwitch (e.putInt 0x2000 0x08 64 (divNearest err 2)) 2 (some x)) x) := by
  rw [slewStartOp, hx]
  exact (if_neg (by simp [hp, hq])).trans (if_neg (not_lt.2 h))

theorem todMissingOp_of_missing (hs : d.timeState = 1) (h : todKnown d = false) :
    todMissingOp d = d.raise 0x87 d.refSel := if_pos (by simp [hs, h])

theorem todMissingOp_of_known (h : d.timeState ≠ 1 ∨ todKnown d = true) : todMissingOp d = d :=
  if_neg (by rcases h with h | h <;> simp [h])

end

/-! ### PTP and the time outputs (R317, R323) -/

section

variable {g : Pkg} {d : Strand} {m : PtpMsg}

/-- A message does not serve the servo: it came late, keeps no TAI timescale, or its clock class is too high (R317). -/
def ptpBad (d : Strand) (m : PtpMsg) : Bool :=
  m.timedOut || !m.ptpTimescale || decide (d.get 0x2007 0x03 < m.clockClass)

theorem ptpOp_of_heard (hs : d.sageUp = true) (hp : refPresent d 8 = true)
    (hm : m.domain = bits (d.get 0x2007 0x01) 0 7) : ptpOp g d m = if ptpBad d m then refBreakOp g (refCapture d 8) 8
      else phaseSeen (refPresentOp g (refCapture d 8) 8) 8 (2 * m.offsetPs - d.getInt 0x2007 0x02 32) := by
  have hbad : ptpBad (refCapture d 8) m = ptpBad d m :=
    congrArg (fun k => m.timedOut || !m.ptpTimescale || decide (k < m.clockClass)) (d.get_put_other _ (by decide))
  have hasym : (refCapture d 8).getInt 0x2007 0x02 32 = d.getInt 0x2007 0x02 32 :=
    congrArg (toSigned 32) (d.get_put_other _ (by decide))
  rw [ptpOp, if_neg (by simp [hs, hp, hm]), ← hbad, ← hasym]
  rfl

theorem ptpOp_of_other_domain (h : m.domain ≠ bits (d.get 0x2007 0x01) 0 7) : ptpOp g d m = d :=
  if_pos (.inr (.inr h))

/-- The strand with a delay request of the servo counted and sent on port `p`. -/
def delayAsked (d : Strand) (p : Nat) : Strand :=
  ({ d with tm := { d.tm with ptpReq := d.tm.ptpReq + 1 } }.bump 0x3402 p 1).emit .ether p []

theorem ptpDelayReqOp_of_port (hs : d.sageUp = true) (hp : refPresent d 8 = true)
    (hl : d.getBit 0x3401 (bits (d.refCfg 8) 8 7) 0 = true) :
    ptpDelayReqOp d = delayAsked d (bits (d.refCfg 8) 8 7) := if_pos (by simp [hs, hp, hl])

/-- The end of pulses changes what the strand drives out and when the pulses end, and nothing else. -/
theorem pinsFall_eq (d : Strand) : ∃ out pps epoch,
    pinsFall d = { d with out := out, tm := { d.tm with ppsFin := pps, epochFin := epoch } } := by
  unfold pinsFall
  dsimp only
  split_ifs <;> exact ⟨_, _, _, rfl⟩

theorem pinsFall_get (d : Strand) (i j : Nat) : (pinsFall d).get i j = d.get i j := by
  obtain ⟨out, pps, epoch, hf⟩ := pinsFall_eq d
  rw [hf]
  rfl

theorem pinsFall_now (d : Strand) : (pinsFall d).now = d.now := by
  obtain ⟨out, pps, epoch, hf⟩ := pinsFall_eq d
  rw [hf]

theorem pinsFall_still (d : Strand) : (pinsFall d).still = d.still := by
  obtain ⟨out, pps, epoch, hf⟩ := pinsFall_eq d
  rw [hf]
  rfl

theorem pinsFall_pinHeld (d : Strand) : (pinsFall d).tm.pinHeld = d.tm.pinHeld := by
  obtain ⟨out, pps, epoch, hf⟩ := pinsFall_eq d
  rw [hf]

theorem pinsFall_of_no_pulse (hp : d.tm.ppsFin = 0) (he : d.tm.epochFin = 0) : pinsFall d = d := by
  simp [pinsFall, hp, he]

/-- The strand with PPS_OUT asserted for its width. -/
def ppsPulse (d : Strand) : Strand :=
  { timePin (pinsFall d) 4 true with tm := { (pinsFall d).tm with ppsFin := d.now + usTime (d.get 0x2008 0x02) } }

theorem ppsPulse_still (h : d.still = true) : (ppsPulse d).still = true := (pinsFall_still d).trans h

theorem ppsOutOp_of_driven (hh : d.tm.pinHeld = false) (h0 : d.getBit 0x2008 0x01 0 = true)
    (h1 : d.getBit 0x2008 0x01 1 = true) : ppsOutOp d = ppsPulse d := by
  have hon : (drivesPins (pinsFall d) && (pinsFall d).getBit 0x2008 0x01 1) = true := by
    unfold Strand.getBit at h0 h1
    simp [drivesPins, Strand.getBit, pinsFall_get, pinsFall_pinHeld, hh, h0, h1]
  rw [ppsOutOp, if_pos hon, ppsPulse, pinsFall_now, pinsFall_get]

theorem ppsOutOp_of_no_drive (h0 : d.getBit 0x2008 0x01 0 = false) : ppsOutOp d = pinsFall d := by
  unfold Strand.getBit at h0
  exact if_neg (by simp [drivesPins, Strand.getBit, pinsFall_get, h0])

end

/-- Settles O36: each command runs its one operation on a strand whose clocks run, in the branch that the hypotheses
choose. -/
theorem timingStates : Obligations.TimingStates := by
  refine ⟨fun s w hrun => ?_, fun s w m hrun => ?_⟩
  · intro d g
    have hstill : d.still = true := ready_still (runs_ready hrun) w.k
    refine ⟨fun hs htod hr hw => ?_, fun h => ?_, fun hs ht hn hdue => ?_, fun hs hm hp h => ?_, fun _ h => ?_,
      fun x hx hp h => ?_, fun x hx h => ?_, fun x err hx hp hq h => ?_, fun hs h => ?_, fun h => ?_⟩
    · exact becomes_of_onLivePkg hrun (lockOp_of_mayLock ⟨hs, htod, hr, hw⟩) rfl
    · exact leaves_of_onLivePkg hrun rfl (lockOp_of_not_mayLock (not_mayLock h)) hstill
    · exact leaves_of_onLivePkg hrun rfl (narrowOp_of_due hs ht hn hdue) hstill
    · exact becomes_of_onLivePkg hrun (holdLimitOp_of_beyond hs hm hp h) rfl
    · exact leaves_of_onLivePkg hrun rfl (holdLimitOp_of_within h) hstill
    · exact becomes_of_onLivePkg hrun (switchDoneOp_of_slewed hx hp h) rfl
    · exact leaves_of_onLivePkg hrun rfl (switchDoneOp_of_rest hx h) hstill
    · exact becomes_of_onLivePkg (f := fun g d => slewStartOp g d err) hrun (slewStartOp_of_small hx hp hq h) rfl
    · exact becomes_of_onLive hrun (todMissingOp_of_missing hs h) rfl
    · exact leaves_of_live_eq rfl hrun (todMissingOp_of_known h) hstill
  · intro d g f e bad
    have hstill : d.still = true := ready_still (runs_ready hrun) w.k
    refine ⟨fun hs hp hm => ⟨fun hb => ?_, fun hb => ?_⟩, fun h => ?_, fun hs hp hl => ?_, fun hh h0 h1 => ?_,
      fun h0 => ?_, fun hp he => pinsFall_of_no_pulse hp he⟩
    · exact becomes_of_onLivePkg (f := fun g d => ptpOp g d m) hrun ((ptpOp_of_heard hs hp hm).trans (if_pos hb)) rfl
    · exact becomes_of_onLivePkg (f := fun g d => ptpOp g d m) hrun
        ((ptpOp_of_heard hs hp hm).trans (if_neg (Bool.eq_false_iff.1 hb))) rfl
    · exact leaves_of_onLivePkg (f := fun g d => ptpOp g d m) hrun rfl (ptpOp_of_other_domain h) hstill
    · exact leaves_of_live_eq (f := ptpDelayReqOp) rfl hrun (ptpDelayReqOp_of_port hs hp hl) hstill
    · exact leaves_of_live_eq (f := ppsOutOp) rfl hrun (ppsOutOp_of_driven hh h0 h1) (ppsPulse_still hstill)
    · exact leaves_of_live_eq (f := ppsOutOp) rfl hrun (ppsOutOp_of_no_drive h0) ((pinsFall_still d).trans hstill)

end Sys2Proof.Machine

/-! PROOFS. The host window and that of PF4 (R327, R330). -/

namespace Sys2Proof.Machine

section

variable {s : State} {w : At} {i : Instr} {g : Pkg} {d : Strand} {x : Window} {off v : Nat}

/-! ### A command after which the shared domains are looked at -/

/-- A part stays awake where the strand and the package that a command leaves do. -/
theorem awake_setStrand (h : s.awake = true) (h40 : g.domain 0x40 ≠ 0) (h41 : g.domain 0x41 ≠ 0) (k : StrandId)
    (hz : d.sleep = 0) : ({ s with pkg := g }.setStrand k d).awake = true := by
  refine (awake_iff _).2 ⟨fun l => ?_, by simpa using h40, by simpa using h41⟩
  by_cases hl : l = k
  · subst hl; simpa using hz
  · rw [State.strand_setStrand_other _ d hl]
    exact ((awake_iff s).1 h).1 l

theorem leavesPart_of_shareDomains {f : Pkg → Strand → Pkg × Strand} (hr : s.ready = true) (ha : s.awake = true)
    (hf : f { s.pkg with out := [] } (s.found w) = (g, d)) (hn : g.newId = none) (h40 : g.domain 0x40 ≠ 0)
    (h41 : g.domain 0x41 ≠ 0) (hd : d.still = true) (hz : d.sleep = 0)
    (he : exec i s = .next (shareDomains (onPart s w f))) : LeavesPart i s w g d := by
  rw [LeavesPart, he, onPart_of_ready hr w f hf hn hd, shareDomains_of_awake (awake_setStrand ha h40 h41 w.k hz)]

theorem leaves_of_shareDomains {f : Pkg → Strand → Pkg × Strand} (hr : s.ready = true) (ha : s.awake = true)
    (hf : f { s.pkg with out := [] } (s.found w) = ({ s.pkg with out := [] }, d)) (hd : d.still = true)
    (hz : d.sleep = 0) (he : exec i s = .next (shareDomains (onPart s w f))) : Leaves i s w d := by
  obtain ⟨-, h40, h41⟩ := (awake_iff s).1 ha
  obtain ⟨-, hn, -⟩ := (ready_iff s).1 hr
  exact leavesPart_of_shareDomains hr ha hf hn h40 h41 hd hz he

/-! ### The window's registers -/

/-- The strand with another window. -/
def Strand.withWin (d : Strand) (x : Window) : Strand := { d with host := { d.host with win := x } }

@[simp] theorem withWin_still (d : Strand) (x : Window) : (d.withWin x).still = d.still := rfl

@[simp] theorem withWin_sleep (d : Strand) (x : Window) : (d.withWin x).sleep = d.sleep := rfl

theorem winWrite_of_busy (h : x.busy = true) (off v : Nat) : winWrite x off v = { x with overrun := true } := if_pos h

theorem winWrite_addr (h : x.busy = false) (v : Nat) : winWrite x 0 v = { x with addr := v % 2 ^ 25 } := by
  simp [winWrite, h]

theorem winWrite_len (h : x.busy = false) (v : Nat) : winWrite x 4 v = { x with len := v % 2 ^ 9 } := by
  simp [winWrite, h]

theorem winWrite_data (h : x.busy = false) (n v : Nat) :
    winWrite x (0x100 + 4 * n) v = { x with data := writeMem x.data (4 * n) (natToBytes 4 v) } := by
  rw [winWrite, if_neg (by simp [h]), if_neg (by omega), if_neg (by omega), Nat.add_sub_cancel_left]

theorem winOffset_iff : winOffset off = true ↔ off % 4 = 0 ∧ (off = 0 ∨ off = 4 ∨ 0x100 ≤ off ∧ off ≤ 0x1FF) := by
  simp [winOffset, or_assoc]

theorem roOffset_iff : roOffset off = true ↔
    off % 4 = 0 ∧ (off = 0xC ∨ 0x1100 ≤ off ∧ off ≤ 0x110C ∨ 0x2000 ≤ off ∧ off ≤ 0x2FFF) := by
  simp [roOffset, or_assoc]

theorem winOffset_data {n : Nat} (h : n < 64) : winOffset (0x100 + 4 * n) = true := winOffset_iff.2 (by omega)

/-- A host request reaches the registers of a strand that is not in reset. -/
theorem onMatrix_of_not_inReset (hg : hostOn g = true) (hd : d.inReset = false) (addr : Nat) (f : Strand → Strand) :
    onMatrix g d addr f = f d := by
  simp [onMatrix, hg, hd]

/-- At an offset that is neither WIN_GO nor a doorbell, BAR0 holds a window register, a read-only one or none. -/
theorem bar0Write_of_winOffset (hg : hostOn g = true) (hd : d.inReset = false) (h : winOffset off = true) (v : Nat) :
    bar0Write g d off v = (g, d.withWin (winWrite d.host.win off v)) := by
  have ho := winOffset_iff.1 h
  rw [bar0Write, if_neg (by omega), if_neg (by omega), if_neg (by omega), onMatrix_of_not_inReset hg hd, if_pos h]
  rfl

theorem bar0Write_of_roOffset (hg : hostOn g = true) (hd : d.inReset = false) (h : roOffset off = true) (v : Nat) :
    bar0Write g d off v = (g, d) := by
  have ho := roOffset_iff.1 h
  have hw : ¬ winOffset off = true := by rw [winOffset_iff]; omega
  rw [bar0Write, if_neg (by omega), if_neg (by omega), if_neg (by omega), onMatrix_of_not_inReset hg hd, if_neg hw,
    if_neg (by omega), if_pos h]

theorem bar0Write4_of_winOffset (hg : hostOn g = true) (h : winOffset off = true) (d : Strand) (v : Nat) :
    bar0Write4 g d off v = ({ g with win4 := winWrite g.win4 off v }, d) := by
  have ho := winOffset_iff.1 h
  rw [bar0Write4, if_neg (by omega), if_neg (by simp [hg]), if_pos h]

/-! ### WIN_GO -/

theorem winGoOp_of_busy (hg : hostOn g = true) (hd : d.inReset = false) (hb : d.host.win.busy = true) (hv : v % 2 = 1) :
    winGoOp g d v = (g, d.withWin { d.host.win with overrun := true }) := by
  simp [winGoOp, hg, hd, hv, hb, Strand.withWin]

/-- A free window of a strand that the host reaches starts its access and holds the answer until the end. -/
theorem winGoOp_of_free {h : Pkg} {e : Strand} (hg : hostOn g = true) (hd : d.inReset = false)
    (hb : d.host.win.busy = false) (hv : v % 2 = 1) (he : winAccess g d .host d.host.win = (h, e)) :
    winGoOp g d v = (h, e.withWin (winBusy d.host.win e.resp)) := by
  simp [winGoOp, hg, hd, hv, hb, he, Strand.withWin]

theorem winGo4Op_of_busy (hg : hostOn g = true) (hb : g.win4.busy = true) (hv : v % 2 = 1) (d : Strand) :
    winGo4Op g d v = ({ g with win4 := { g.win4 with overrun := true } }, d) := by
  simp [winGo4Op, hg, hv, hb]

theorem winGo4Op_of_free {h : Pkg} {e : Strand} (hg : hostOn g = true) (hb : g.win4.busy = false) (hv : v % 2 = 1)
    (he : winAccess g d .pf4 g.win4 = (h, e)) :
    winGo4Op g d v = ({ h with win4 := winBusy g.win4 e.resp }, e) := by
  simp [winGo4Op, hg, hv, hb, he]

/-! ### The end of an access -/

/-- An access that has its answer runs no longer. -/
theorem winWaits_of_answered (h : x.pendRes ≠ 0xFF) (g : Pkg) (d : Strand) : winWaits g d x = false := by
  simp [winWaits, h]

theorem winDone_of_answered (h : x.pendRes ≠ 0xFF) : winDone x =
    { x with busy := false, done := true, result := x.pendRes, pendRes := 0, pendDat := []
             data := if x.pendRes = 0 then writeMem x.data 0 x.pendDat else x.data } := by
  rw [winDone, if_neg h]

theorem winDoneOp_of_answered (hb : d.host.win.busy = true) (h : d.host.win.pendRes ≠ 0xFF) (g : Pkg) :
    winDoneOp g d = (d.withWin (winDone d.host.win)).vector 2 := if_pos ⟨hb, winWaits_of_answered h g d⟩

theorem winDoneOp_of_free (hb : d.host.win.busy = false) (g : Pkg) : winDoneOp g d = d := by
  simp [winDoneOp, hb]

theorem winDone4Op_of_answered (hb : g.win4.busy = true) (h : g.win4.pendRes ≠ 0xFF) (d : Strand) :
    winDone4Op g d = { g with win4 := winDone g.win4 }.vector4 1 := if_pos ⟨hb, winWaits_of_answered h g d⟩

/-! ### The commands -/

section

variable (hr : s.ready = true) (ha : s.awake = true) (hg : hostOn { s.pkg with out := [] } = true)

include hr ha

/-- A command of a strand that changes its window only. -/
theorem leaves_withWin {f : Pkg → Strand → Pkg × Strand}
    (hf : f { s.pkg with out := [] } (s.found w) = ({ s.pkg with out := [] }, (s.found w).withWin x))
    (he : exec i s = .next (shareDomains (onPart s w f))) : Leaves i s w ((s.found w).withWin x) :=
  leaves_of_shareDomains hr ha hf ((withWin_still _ _).trans (ready_still hr w.k))
    ((withWin_sleep _ _).trans (((awake_iff s).1 ha).1 w.k)) he

/-- A command on the window of PF4 that leaves the strand as it finds it. -/
theorem leavesPart_win4 {f : Pkg → Strand → Pkg × Strand}
    (hf : f { s.pkg with out := [] } (s.found w) = ({ s.pkg with out := [], win4 := x }, s.found w))
    (he : exec i s = .next (shareDomains (onPart s w f))) :
    LeavesPart i s w { s.pkg with out := [], win4 := x } (s.found w) := by
  obtain ⟨hz, h40, h41⟩ := (awake_iff s).1 ha
  obtain ⟨-, hn, -⟩ := (ready_iff s).1 hr
  exact leavesPart_of_shareDomains hr ha hf hn h40 h41 (ready_still hr w.k) (hz w.k) he

include hg

/-- A write of a window register leaves the window as its rule says, and all else. -/
theorem leaves_winRegWrite (hd : (s.found w).inReset = false) (ho : winOffset off = true)
    (hx : winWrite (s.found w).host.win off v = x) :
    Leaves (.winRegWrite w false off v) s w ((s.found w).withWin x) := by
  subst hx
  exact leaves_withWin (f := fun g d => bar0Write g d off v) hr ha (bar0Write_of_winOffset hg hd ho v) rfl

theorem leaves_winRegWrite_readOnly (hd : (s.found w).inReset = false) (ho : roOffset off = true) :
    Leaves (.winRegWrite w false off v) s w (s.found w) :=
  leaves_of_shareDomains (f := fun g d => bar0Write g d off v) hr ha (bar0Write_of_roOffset hg hd ho v)
    (ready_still hr w.k) (((awake_iff s).1 ha).1 w.k) rfl

theorem leaves_winGo_of_busy (hd : (s.found w).inReset = false) (hb : (s.found w).host.win.busy = true)
    (hv : v % 2 = 1) :
    Leaves (.winGo w false v) s w ((s.found w).withWin { (s.found w).host.win with overrun := true }) :=
  leaves_withWin (f := fun g d => winGoOp g d v) hr ha (winGoOp_of_busy hg hd hb hv) rfl

/-- The access of WIN_GO that leaves the package alone leaves the strand it makes, with the answer in the window. -/
theorem leaves_winGo_of_free {e : Strand} (hd : (s.found w).inReset = false) (hb : (s.found w).host.win.busy = false)
    (hv : v % 2 = 1)
    (he : winAccess { s.pkg with out := [] } (s.found w) .host (s.found w).host.win = ({ s.pkg with out := [] }, e))
    (hs : e.still = true) (hz : e.sleep = 0) :
    Leaves (.winGo w false v) s w (e.withWin (winBusy (s.found w).host.win e.resp)) :=
  leaves_of_shareDomains (f := fun g d => winGoOp g d v) hr ha (winGoOp_of_free hg hd hb hv he)
    ((withWin_still e _).trans hs) ((withWin_sleep e _).trans hz) rfl

theorem leavesPart_winRegWrite4 (ho : winOffset off = true) (hx : winWrite s.pkg.win4 off v = x) :
    LeavesPart (.winRegWrite w true off v) s (atZero w) { s.pkg with out := [], win4 := x } (s.found (atZero w)) := by
  subst hx
  exact leavesPart_win4 (f := fun g d => bar0Write4 g d off v) hr ha (bar0Write4_of_winOffset hg ho _ v) rfl

theorem leavesPart_winGo4_of_busy (hb : s.pkg.win4.busy = true) (hv : v % 2 = 1) :
    LeavesPart (.winGo w true v) s (atZero w) { s.pkg with out := [], win4 := { s.pkg.win4 with overrun := true } }
      (s.found (atZero w)) :=
  leavesPart_win4 (f := fun g d => winGo4Op g d v) hr ha (winGo4Op_of_busy hg hb hv _) rfl

/-- The access of PF4's WIN_GO leaves the package and the strand 0 it makes, with the answer in the window. -/
theorem leavesPart_winGo4_of_free (hb : s.pkg.win4.busy = false) (hv : v % 2 = 1)
    (he : winAccess { s.pkg with out := [] } (s.found (atZero w)) .pf4 s.pkg.win4 = (g, d)) (hn : g.newId = none)
    (h40 : g.domain 0x40 ≠ 0) (h41 : g.domain 0x41 ≠ 0) (hd : d.still = true) (hz : d.sleep = 0) :
    LeavesPart (.winGo w true v) s (atZero w) { g with win4 := winBusy s.pkg.win4 d.resp } d :=
  leavesPart_of_shareDomains (f := fun g d => winGo4Op g d v) hr ha (winGo4Op_of_free hg hb hv he) hn h40 h41 hd hz rfl

end

/-- The access completes with what the dictionary answered, and vector 2 is raised (R330). -/
theorem leaves_windowAccessDone (hr : s.ready = true) (hb : (s.found w).host.win.busy = true)
    (hp : (s.found w).host.win.pendRes ≠ 0xFF) :
    Leaves (.windowAccessDone w false) s w (((s.found w).withWin (winDone (s.found w).host.win)).vector 2) :=
  leaves_of_becomes hr (ready_still hr w.k)
    (becomes_of_onStrandPkg (f := winDoneOp) hr (winDoneOp_of_answered hb hp _) rfl)

theorem leaves_windowAccessDone_of_free (hr : s.ready = true) (hb : (s.found w).host.win.busy = false) :
    Leaves (.windowAccessDone w false) s w (s.found w) :=
  leaves_of_becomes hr (ready_still hr w.k) (becomes_of_onStrandPkg (f := winDoneOp) hr (winDoneOp_of_free hb _) rfl)

/-- The same for PF4, with its vector 1. -/
theorem leavesPart_windowAccessDone4 (hr : s.ready = true) (hb : s.pkg.win4.busy = true)
    (hp : s.pkg.win4.pendRes ≠ 0xFF) :
    LeavesPart (.windowAccessDone w true) s (atZero w) ({ s.pkg with out := [], win4 := winDone s.pkg.win4 }.vector4 1)
      (s.found (atZero w)) := by
  have hg := winDone4Op_of_answered (g := { s.pkg with out := [] }) hb hp (s.found (atZero w))
  exact leavesPart_of_becomesPart hr (ready_still hr .s0) ((ready_iff s).1 hr).2.1
    (becomesPart_of_onPart (f := fun g d => (winDone4Op g d, d)) hr (Prod.ext hg rfl) rfl)

end

/-- Settles O38: each write of BAR0 comes to the register that its offset names, WIN_GO performs the access in a free
window only, and an access that has its answer ends with it; strand and package wait for nothing afterwards. -/
theorem hostWindow : Obligations.HostWindow := by
  intro s w v hr ha hg d x g z sets sets4
  refine ⟨fun hd hb => ?_, fun hd hb => ?_, fun hd hb n hn => ?_, fun hd hb off ho => ?_, fun hd off ho => ?_,
    fun hd hb hv => ?_, fun hb => ?_, fun hb hv => ?_, fun hd hb hv hg' hs hz => ?_,
    fun hb hv hn h40 h41 hs hz => ?_, fun hb hp => ?_, fun hb => ?_, fun hb hp => ?_⟩
  · exact leaves_winRegWrite hr ha hg hd (by decide) (winWrite_addr hb v)
  · exact leaves_winRegWrite hr ha hg hd (by decide) (winWrite_len hb v)
  · exact leaves_winRegWrite hr ha hg hd (winOffset_data hn) (winWrite_data hb n v)
  · exact leaves_winRegWrite hr ha hg hd ho (winWrite_of_busy hb off v)
  · exact leaves_winRegWrite_readOnly hr ha hg hd ho
  · exact leaves_winGo_of_busy hr ha hg hd hb hv
  · exact leavesPart_winRegWrite4 hr ha hg (by decide) (winWrite_addr hb v)
  · exact leavesPart_winGo4_of_busy hr ha hg hb hv
  · exact leaves_winGo_of_free hr ha hg hd hb hv (Prod.ext hg' rfl) hs hz
  · exact leavesPart_winGo4_of_free hr ha hg hb hv rfl hn (by omega) h41 hs hz
  · have h := leaves_windowAccessDone hr hb hp
    rwa [winDone_of_answered hp] at h
  · exact leaves_windowAccessDone_of_free hr hb
  · exact leavesPart_windowAccessDone4 hr hb hp

end Sys2Proof.Machine

/-! PROOFS. The queue of commands. -/

namespace Sys2Proof.Machine

/-- A step runs the command at the front with the queue's rest. -/
theorem step_cons (c : Instr) (r : List Instr) (s : State) :
    step { s with pending := c :: r } = exec c { s with pending := r } := rfl

theorem step_of_idle {s : State} (h : s.pending = []) : step s = .next s := by
  unfold step
  split
  · rfl
  · next hcons => exact absurd (h.symm.trans hcons) (by simp)

/-- Settles O2: both sides of the match on the queue. -/
theorem stepRunsFront : Obligations.StepRunsFront :=
  ⟨fun c s => step_cons c s.pending s, fun _ => step_of_idle⟩

end Sys2Proof.Machine

/-! PROOFS. A programmed LEVEL0_KEY and the burns of it (R370, R380). -/

/-! ### What keeps a key -/

namespace Sys2Proof.Machine

/-- A LEVEL0_KEY that is programmed has no burn of a key under way. -/
def Pkg.keySafe (g : Pkg) : Bool := g.key.isNone || g.burnKey.isNone

/-- From a package in which a programmed key has no burn under way, `h` is another such package, with the same key if
one is programmed. -/
def KeepsKey (g h : Pkg) : Prop := g.keySafe = true → h.keySafe = true ∧ ∀ v, g.key = some v → h.key = some v

section

variable {g h p : Pkg} {d : Strand} {s : State} {n : Nat}

theorem KeepsKey.refl (g : Pkg) : KeepsKey g g := fun hg => ⟨hg, fun _ hv => hv⟩

theorem KeepsKey.trans (h1 : KeepsKey g h) (h2 : KeepsKey h p) : KeepsKey g p := fun hg =>
  let ⟨hh, hk⟩ := h1 hg
  let ⟨hp, hk'⟩ := h2 hh
  ⟨hp, fun v hv => hk' v (hk v hv)⟩

/-- What the collectors, an enumeration and a device reset keep of the OTP (R391): the key and the patch slots stay, and
a burn of the key goes on or ends. -/
structure OtpKept (g h : Pkg) : Prop where
  key : h.key = g.key
  patches : h.patches = g.patches
  burn : h.burnKey = g.burnKey ∨ h.burnKey = none

theorem OtpKept.refl (g : Pkg) : OtpKept g g := ⟨rfl, rfl, .inl rfl⟩

theorem OtpKept.trans (h1 : OtpKept g h) (h2 : OtpKept h p) : OtpKept g p := by
  refine ⟨h2.key.trans h1.key, h2.patches.trans h1.patches, ?_⟩
  rcases h2.burn with hb | hb
  · exact h1.burn.imp hb.trans hb.trans
  · exact .inr hb

theorem keepsKey_of_key_eq (hk : h.key = g.key) (hb : h.burnKey = g.burnKey ∨ h.burnKey = none) : KeepsKey g h := by
  refine fun hg => ⟨?_, fun v hv => hk.trans hv⟩
  rcases hb with hb | hb
  · simpa [Pkg.keySafe, hk, hb] using hg
  · simp [Pkg.keySafe, hb]

theorem OtpKept.keepsKey (h1 : OtpKept g h) : KeepsKey g h := keepsKey_of_key_eq h1.key h1.burn

/-- A change of other parts of the package keeps the key. -/
theorem keepsKey_of_eq (hk : h.key = g.key) (hb : h.burnKey = g.burnKey) : KeepsKey g h :=
  keepsKey_of_key_eq hk (.inl hb)

/-- What keeps the key at each item of a list keeps it over the list. -/
theorem keepsKey_foldl {σ α : Type} {pkg : σ → Pkg} {f : σ → α → σ} (hf : ∀ x a, KeepsKey (pkg x) (pkg (f x a)))
    (l : List α) (x : σ) : KeepsKey (pkg x) (pkg (l.foldl f x)) := by
  induction l generalizing x with
  | nil => exact .refl _
  | cons a l ih => exact (hf x a).trans (ih (f x a))

/-- What is kept at each item of a list is kept over the list. -/
theorem otpKept_foldl {σ α : Type} {pkg : σ → Pkg} {f : σ → α → σ} (hf : ∀ x a, OtpKept (pkg x) (pkg (f x a)))
    (l : List α) (x : σ) : OtpKept (pkg x) (pkg (l.foldl f x)) := by
  induction l generalizing x with
  | nil => exact .refl _
  | cons a l ih => exact (hf x a).trans (ih (f x a))

/-! ### What follows a command -/

theorem otpKept_deliver (g : Pkg) (d : Strand) (a : Ask) (code : Nat) (data : List Byte) :
    OtpKept g (deliver g d a code data).1 := by
  unfold deliver
  split_ifs <;> exact ⟨rfl, rfl, .inl rfl⟩

theorem otpKept_deliverAll (g : Pkg) (d : Strand) (l : List Ask) (code : Ask → Nat) :
    OtpKept g (deliverAll g d l code).1 :=
  otpKept_foldl (pkg := Prod.fst) (fun _ _ => otpKept_deliver _ _ _ _ _) l (g, d)

theorem otpKept_collectAt (s : State) (k : StrandId) : OtpKept s.pkg (collectAt s k).pkg := by
  rw [collectAt, State.setStrand_pkg]
  exact otpKept_deliverAll _ _ _ _

/-- A device reset keeps the OTP and ends a burn of the key. -/
theorem otpKept_coldStart (s : State) (straps : Straps) (keep : Bool) : OtpKept s.pkg (coldStart s straps keep).pkg :=
  ⟨rfl, rfl, .inr rfl⟩

theorem otpKept_settlePkg (s : State) : OtpKept s.pkg (settlePkg s).pkg := by
  unfold settlePkg
  dsimp only
  split_ifs
  · exact ⟨rfl, rfl, .inr rfl⟩
  · exact ⟨rfl, rfl, .inr rfl⟩
  · exact ⟨rfl, rfl, .inl rfl⟩
  · exact .refl _

theorem otpKept_collectAll (s : State) : OtpKept s.pkg (allStrands.foldl collectAt s).pkg :=
  otpKept_foldl otpKept_collectAt _ s

theorem otpKept_takeNewId (s : State) : OtpKept s.pkg (takeNewId s).pkg := by
  unfold takeNewId
  split
  · exact .refl _
  · dsimp only
    split_ifs
    · exact ⟨rfl, rfl, .inl rfl⟩
    · refine .trans ?_ (otpKept_collectAll _)
      exact ⟨rfl, rfl, .inl rfl⟩

theorem otpKept_settle (s : State) (k : StrandId) : OtpKept s.pkg (settle s k).pkg :=
  ((otpKept_collectAt s k).trans (otpKept_takeNewId _)).trans (otpKept_settlePkg _)

theorem otpKept_settleAll (s : State) : OtpKept s.pkg (settleAll s).pkg :=
  (otpKept_collectAll s).trans (otpKept_settlePkg _)

/-- A command on a strand and the package keeps the key where its operation does. -/
theorem keepsKey_onPart {w : At} {f : Pkg → Strand → Pkg × Strand} (hf : ∀ g d, KeepsKey g (f g d).1) (s : State) :
    KeepsKey s.pkg (onPart s w f).pkg := by
  unfold onPart
  split_ifs
  · exact .refl _
  · refine KeepsKey.trans ?_ (otpKept_settle _ _).keepsKey
    rw [State.setStrand_pkg]
    refine .trans ?_ (hf _ _)
    exact keepsKey_of_eq rfl rfl

/-- A command on a strand that only reads the package keeps the key. -/
theorem keepsKey_onStrandPkg (s : State) (w : At) (f : Pkg → Strand → Strand) :
    KeepsKey s.pkg (onStrandPkg s w f).pkg := keepsKey_onPart (fun g _ => .refl g) s

theorem keepsKey_onStrand (s : State) (w : At) (f : Strand → Strand) : KeepsKey s.pkg (onStrand s w f).pkg :=
  keepsKey_onPart (fun g _ => .refl g) s

/-- A command on all strands does, where the package that it finds does. -/
theorem keepsKey_onAll {t : State} (h : KeepsKey s.pkg t.pkg) (f : Strand → Strand) : KeepsKey s.pkg (onAll t f).pkg := by
  refine .trans ?_ (otpKept_settleAll _).keepsKey
  exact h

theorem keepsKey_shareDomain (s : State) (n : Nat) : KeepsKey s.pkg (shareDomain s n).pkg := by
  unfold shareDomain
  dsimp only
  split_ifs <;> exact keepsKey_of_eq rfl rfl

theorem keepsKey_shareDomains {t : State} (h : KeepsKey s.pkg t.pkg) : KeepsKey s.pkg (shareDomains t).pkg :=
  (h.trans (keepsKey_shareDomain _ _)).trans (keepsKey_shareDomain _ _)

/-! ### Accesses to the dictionary -/

/-- The one entry that burns a key refuses where a key is programmed or a burn is under way. -/
theorem keepsKey_writePackage (g : Pkg) (d : Strand) (index sub v : Nat) (b : List Byte) :
    KeepsKey g (writePackage g d index sub v b).1 := by
  by_cases hkey : index = 0x1211
  · subst hkey
    rw [writePackage, if_neg (by decide), if_neg (by decide), if_pos rfl]
    split
    case isTrue => exact .refl g
    case isFalse hused =>
      simp only [not_or, Bool.not_eq_true, Option.isSome_eq_false_iff, Option.isNone_iff_eq_none] at hused
      split
      · exact .refl g
      · exact fun _ => ⟨by simp [Pkg.keySafe, hused.1], fun v hv => hv⟩
  · unfold writePackage
    split_ifs <;> exact keepsKey_of_eq rfl rfl

theorem keepsKey_enumBegin (g : Pkg) (d : Strand) : KeepsKey g (enumBegin g d).1 := keepsKey_of_eq rfl rfl

theorem keepsKey_enumStartWrite (g : Pkg) (d : Strand) (v : Nat) : KeepsKey g (enumStartWrite g d v).1 := by
  unfold enumStartWrite
  split_ifs
  exacts [.refl g, keepsKey_enumBegin g d, .refl g]

theorem keepsKey_entryWrite (g : Pkg) (d : Strand) (rq : Requester) (index sub : Nat) (b : List Byte) :
    KeepsKey g (entryWrite g d rq index sub b).1 := by
  by_cases hpkg : isPackageLoc (locKey index sub) = true
  · rw [entryWrite, if_pos hpkg]
    exact keepsKey_writePackage _ _ _ _ _ _
  · rw [entryWrite, if_neg hpkg]
    by_cases henum : index = 0x1140
    · rw [if_pos henum]
      exact keepsKey_enumStartWrite _ _ _
    · rw [if_neg henum]
      exact .refl g

theorem keepsKey_writeGranted (g : Pkg) (d : Strand) (rq : Requester) (r : DictRow) (index sub : Nat) (b : List Byte) :
    KeepsKey g (writeGranted g d rq r index sub b).1 := by
  unfold writeGranted
  dsimp only
  split_ifs
  exacts [.refl g, .refl g, .refl g, keepsKey_entryWrite _ _ _ _ _ _]

theorem keepsKey_perform (g : Pkg) (d : Strand) (a : Ask) (r : DictRow) : KeepsKey g (perform g d a r).1 := by
  unfold perform
  dsimp only
  split_ifs
  exacts [.refl g, .refl g, keepsKey_writeGranted _ _ _ _ _ _ _, keepsKey_writeGranted _ _ _ _ _ _ _]

theorem keepsKey_accessOp (g : Pkg) (d : Strand) (a : Ask) : KeepsKey g (accessOp g d a).1 := by
  unfold accessOp
  split
  · exact .refl g
  · split
    · exact .refl g
    · exact keepsKey_perform _ _ _ _

theorem keepsKey_dictWriteCmd (s : State) (w : At) (rq : Requester) (ok : Bool) (index sub : Nat) (b : List Byte) :
    KeepsKey s.pkg (dictWriteCmd s w rq ok index sub b).pkg := by
  refine keepsKey_shareDomains (keepsKey_onPart (fun g d => ?_) s)
  cases ok
  · exact .refl g
  · exact keepsKey_accessOp _ _ _

end

end Sys2Proof.Machine

/-! ### The commands that reach the package -/

namespace Sys2Proof.Machine

section

variable {s : State} {w : At}

/-- An access and the delivery of its answer. -/
theorem keepsKey_answered {g h : Pkg} (x : Pkg × Strand) (a : Ask) (hx : KeepsKey g x.1)
    (hh : (if x.2.resp.code = 0xFF then x else deliver x.1 x.2 a x.2.resp.code x.2.resp.data).1 = h) : KeepsKey g h := by
  subst hh
  split
  · exact hx
  · exact hx.trans (otpKept_deliver _ _ _ _ _).keepsKey

theorem keepsKey_drainAccess (l : List Ask) (g : Pkg) (d : Strand) : KeepsKey g (drainAccess g d l).1 := by
  induction l generalizing g d with
  | nil => exact .refl g
  | cons a l ih =>
    unfold drainAccess
    split
    · refine .trans (keepsKey_answered _ a ?_ rfl) (ih _ _)
      split
      · exact keepsKey_perform _ _ _ _
      · exact .refl g
    · exact .refl g

theorem keepsKey_loadApplyAll (g : Pkg) (d : Strand) : KeepsKey g (loadApplyAll g d).1 :=
  (otpKept_deliverAll _ _ _ _).keepsKey.trans (keepsKey_drainAccess _ _ _)

/-! #### The host port -/

theorem keepsKey_winAccess (g : Pkg) (d : Strand) (rq : Requester) (x : Window) :
    KeepsKey g (winAccess g d rq x).1 := by
  unfold winAccess
  dsimp only
  split
  · exact keepsKey_accessOp _ _ _
  · exact .refl g

theorem keepsKey_winGoOp (g : Pkg) (d : Strand) (v : Nat) : KeepsKey g (winGoOp g d v).1 := by
  unfold winGoOp
  split_ifs
  case neg => exact keepsKey_winAccess _ _ _ _
  all_goals exact .refl g

theorem keepsKey_winGo4Op (g : Pkg) (d : Strand) (v : Nat) : KeepsKey g (winGo4Op g d v).1 := by
  unfold winGo4Op
  split_ifs
  · exact .refl g
  · exact keepsKey_of_eq rfl rfl
  · exact (keepsKey_winAccess g d .pf4 g.win4).trans (keepsKey_of_eq rfl rfl)

theorem keepsKey_winDone4Op (g : Pkg) (d : Strand) : KeepsKey g (winDone4Op g d) := by
  unfold winDone4Op
  split <;> exact keepsKey_of_eq rfl rfl

theorem keepsKey_bar0Write (g : Pkg) (d : Strand) (off v : Nat) : KeepsKey g (bar0Write g d off v).1 := by
  unfold bar0Write
  split
  · exact keepsKey_winGoOp _ _ _
  · exact .refl g

theorem keepsKey_bar0Write4 (g : Pkg) (d : Strand) (off v : Nat) : KeepsKey g (bar0Write4 g d off v).1 := by
  unfold bar0Write4
  split_ifs
  · exact keepsKey_winGo4Op _ _ _
  all_goals exact keepsKey_of_eq rfl rfl

theorem keepsKey_cmdWriteOp (g : Pkg) (d : Strand) (x : HostRead) : KeepsKey g (cmdWriteOp g d x).1 := by
  unfold cmdWriteOp
  split
  · exact .refl g
  · split_ifs
    · exact .refl g
    · exact .refl g
    · exact .refl g
    · split
      · exact .refl g
      · exact .refl g
      · exact keepsKey_writeGranted _ _ _ _ _ _ _

theorem keepsKey_linkUpOp (s : State) (speed width : Nat) : KeepsKey s.pkg (linkUpOp s speed width).pkg := by
  unfold linkUpOp
  split
  · exact .refl _
  · refine keepsKey_onAll ?_ _
    exact keepsKey_of_eq rfl rfl

theorem keepsKey_linkDownOp (s : State) : KeepsKey s.pkg (linkDownOp s).pkg := by
  unfold linkDownOp
  split
  · exact .refl _
  · refine keepsKey_onAll ?_ _
    exact keepsKey_of_eq rfl rfl

theorem keepsKey_perstOp (s : State) : KeepsKey s.pkg (perstOp s).pkg := by
  unfold perstOp
  split
  · exact keepsKey_of_eq rfl rfl
  · refine keepsKey_onAll ?_ _
    exact keepsKey_of_eq rfl rfl

/-! #### The Lanyard and the debug port -/

theorem keepsKey_requestNew (g : Pkg) (d : Strand) (port : Nat) (f : LydFrame) :
    KeepsKey g (requestNew g d port f).1 := by
  unfold requestNew
  split
  · exact .refl g
  · exact keepsKey_answered _ _ (keepsKey_accessOp _ _ _) rfl

theorem keepsKey_requestOp (g : Pkg) (d : Strand) (port : Nat) (f : LydFrame) : KeepsKey g (requestOp g d port f).1 := by
  unfold requestOp
  split
  · split
    · exact keepsKey_requestNew _ _ _ _
    · dsimp only
      split_ifs
      exacts [.refl g, keepsKey_requestNew _ _ _ _, .refl g]
  · exact .refl g

theorem keepsKey_bcastOp (g : Pkg) (d : Strand) (port : Nat) (f : LydFrame) : KeepsKey g (bcastOp g d port f).1 := by
  unfold bcastOp
  dsimp only
  split_ifs
  · exact .refl g
  · exact keepsKey_accessOp _ _ _
  · exact keepsKey_accessOp _ _ _
  · exact .refl g

theorem keepsKey_headAbove (g : Pkg) (d : Strand) (f : LydFrame) : KeepsKey g (headAbove g d f).1 := by
  unfold headAbove
  split <;> exact keepsKey_of_eq rfl rfl

theorem keepsKey_enumOp (g : Pkg) (d : Strand) (f : LydFrame) : KeepsKey g (enumOp g d f).1 := by
  unfold enumOp
  dsimp only
  split_ifs
  exacts [.refl g, keepsKey_headAbove g d f, keepsKey_of_eq rfl rfl, keepsKey_of_eq rfl rfl, keepsKey_of_eq rfl rfl]

theorem keepsKey_enumReportOp (g : Pkg) (d : Strand) (f : LydFrame) : KeepsKey g (enumReportOp g d f).1 := by
  unfold enumReportOp
  dsimp only
  split_ifs <;> exact keepsKey_of_eq rfl rfl

theorem keepsKey_beaconOp (g : Pkg) (d : Strand) (port : Nat) (f : LydFrame) : KeepsKey g (beaconOp g d port f).1 := by
  unfold beaconOp
  split_ifs
  · exact .refl g
  · exact keepsKey_headAbove _ _ _
  · exact .refl g
  · exact .refl g

theorem keepsKey_enumStartOp (g : Pkg) (d : Strand) : KeepsKey g (enumStartOp g d).1 := by
  unfold enumStartOp
  split <;> exact keepsKey_of_eq rfl rfl

theorem keepsKey_unassignedReportOp (g : Pkg) (d : Strand) : KeepsKey g (unassignedReportOp g d).1 := by
  unfold unassignedReportOp
  split <;> exact keepsKey_of_eq rfl rfl

theorem keepsKey_beaconTxOp (g : Pkg) (d : Strand) : KeepsKey g (beaconTxOp g d).1 := by
  unfold beaconTxOp
  split <;> exact keepsKey_of_eq rfl rfl

theorem keepsKey_takeFrame (g : Pkg) (d : Strand) (port : Nat) (f : LydFrame) : KeepsKey g (takeFrame g d port f).1 := by
  unfold takeFrame
  split
  · exact keepsKey_requestOp _ _ _ _
  · exact keepsKey_requestOp _ _ _ _
  · exact keepsKey_requestOp _ _ _ _
  · exact keepsKey_bcastOp _ _ _ _
  · exact keepsKey_enumOp _ _ _
  · exact keepsKey_enumReportOp _ _ _
  · exact keepsKey_beaconOp _ _ _ _
  · exact .refl g

theorem keepsKey_frameArriveOp (g : Pkg) (d : Strand) (port : Nat) (aborted : Bool) (b : List Byte) :
    KeepsKey g (frameArriveOp g d port aborted b).1 := by
  unfold frameArriveOp
  dsimp only
  split_ifs
  · exact .refl g
  · exact .refl g
  · split
    · exact .refl g
    · exact keepsKey_takeFrame _ _ _ _

theorem keepsKey_lydDownOp (g : Pkg) (d : Strand) (port : Nat) : KeepsKey g (lydDownOp g d port).1 := by
  unfold lydDownOp
  split_ifs <;> exact keepsKey_of_eq rfl rfl

theorem keepsKey_lydUpOp (g : Pkg) (d : Strand) (port : Nat) : KeepsKey g (lydUpOp g d port) := by
  unfold lydUpOp
  split_ifs <;> exact keepsKey_of_eq rfl rfl

theorem keepsKey_dbgFrameOp (g : Pkg) (d : Strand) (f : LydFrame) : KeepsKey g (dbgFrameOp g d f).1 := by
  unfold dbgFrameOp
  split
  · exact keepsKey_of_eq rfl rfl
  · refine KeepsKey.trans (h := { g with jtagIr := 0x3A, dbgReg := [] }) (keepsKey_of_eq rfl rfl) ?_
    dsimp only
    split
    · exact .refl _
    · exact keepsKey_answered _ _ (keepsKey_accessOp _ _ _) rfl

/-! #### The end of a burn -/

/-- A key is programmed by the end of its burn, before which none was. -/
theorem keepsKey_burnEnd (g : Pkg) (ok : Bool) : KeepsKey g (burnEnd g ok).2 := by
  unfold burnEnd
  split
  case h_1 v _ hburn =>
    intro hsafe
    have hnone : g.key = none := by simpa [Pkg.keySafe, hburn] using hsafe
    exact ⟨by simp [Pkg.keySafe], by simp [hnone]⟩
  case h_2 => exact keepsKey_of_eq rfl rfl
  case h_3 => exact .refl g

theorem keepsKey_burnTellAt (index sub code : Nat) (s : State) (k : StrandId) :
    KeepsKey s.pkg (burnTellAt index sub code s k).pkg := by
  rw [burnTellAt, State.setStrand_pkg]
  exact (otpKept_deliverAll _ _ _ _).keepsKey

theorem keepsKey_burnTellAll (s : State) (index sub code : Nat) : KeepsKey s.pkg (burnTellAll s index sub code).pkg := by
  refine .trans ?_ (keepsKey_foldl (keepsKey_burnTellAt index sub code) _ _)
  exact keepsKey_of_eq rfl rfl

theorem keepsKey_burnDoneOp (s : State) (w : At) (ok : Bool) : KeepsKey s.pkg (burnDoneOp s w ok).pkg := by
  unfold burnDoneOp
  dsimp only
  split
  · exact keepsKey_onPart (fun g _ => .refl g) s
  · split
    · exact .refl _
    · exact KeepsKey.trans (keepsKey_onPart (fun g _ => keepsKey_burnEnd g ok) s) (keepsKey_burnTellAll _ _ _ _)

/-! #### Power, clocks and pins -/

theorem otpKept_raiseAll {t : State} (h : OtpKept s.pkg t.pkg) (src : Nat) : OtpKept s.pkg (raiseAll t src).pkg := by
  refine .trans ?_ (otpKept_settleAll _)
  exact h

theorem otpKept_feedOutOp (s : State) (f : Feed) : OtpKept s.pkg (feedOutOp s f).pkg := by
  unfold feedOutOp
  dsimp only
  split_ifs
  · exact .refl _
  · refine otpKept_raiseAll ?_ _
    exact ⟨rfl, rfl, .inl rfl⟩
  · exact ⟨rfl, rfl, .inl rfl⟩

theorem otpKept_feedsLowOp (s : State) : OtpKept s.pkg (feedsLowOp s).pkg := by
  unfold feedsLowOp
  dsimp only
  split_ifs
  · exact .refl _
  · refine otpKept_raiseAll ?_ _
    exact ⟨rfl, rfl, .inl rfl⟩
  · exact ⟨rfl, rfl, .inl rfl⟩

theorem keepsKey_feedInOp (s : State) (f : Feed) : KeepsKey s.pkg (feedInOp s f).pkg := by
  unfold feedInOp
  dsimp only
  split_ifs <;> exact keepsKey_of_key_eq rfl (by simp [coldStart, pkgCold, Pkg.put, State.reset])

theorem otpKept_regulatorOffOp (s : State) : OtpKept s.pkg (regulatorOffOp s).pkg := by
  refine ((otpKept_feedsLowOp s).trans (otpKept_coldStart _ s.pkg.straps false)).trans ?_
  exact ⟨rfl, rfl, .inl rfl⟩

theorem keepsKey_pwrEnFallOp (s : State) (ns : Nat) : KeepsKey s.pkg (pwrEnFallOp s ns).pkg := by
  unfold pwrEnFallOp
  split
  · exact .refl _
  · exact keepsKey_of_key_eq rfl (.inr rfl)

theorem keepsKey_pwrEnRiseOp (s : State) (ok : Bool) : KeepsKey s.pkg (pwrEnRiseOp s ok).pkg := by
  unfold pwrEnRiseOp
  split <;> exact keepsKey_of_eq rfl rfl

theorem keepsKey_porReleaseOp (s : State) (straps : Straps) : KeepsKey s.pkg (porReleaseOp s straps).pkg := by
  unfold porReleaseOp
  dsimp only
  split
  · exact keepsKey_of_key_eq rfl (.inr rfl)
  · exact keepsKey_of_eq rfl rfl

theorem keepsKey_deviceResetOp (s : State) (straps : Straps) : KeepsKey s.pkg (deviceResetOp s straps).pkg := by
  unfold deviceResetOp
  split
  · exact .refl _
  · exact (otpKept_coldStart _ _ _).keepsKey

theorem keepsKey_testEnOp (s : State) (high : Bool) : KeepsKey s.pkg (testEnOp s high).pkg := by
  unfold testEnOp
  dsimp only
  split_ifs
  · exact .refl _
  · exact keepsKey_of_key_eq rfl (.inr rfl)
  · exact keepsKey_of_eq rfl rfl
  · exact keepsKey_of_key_eq rfl (.inr rfl)

theorem keepsKey_xinOp (s : State) (v : Nat) : KeepsKey s.pkg (xinOp s v).pkg := by
  unfold xinOp
  dsimp only
  split
  · exact .refl _
  · have hxin : KeepsKey s.pkg { (if s.pkg.monitored then s.pkg.put 0x2601 0x01 v else s.pkg) with
        xinOk := s.pkg.xinOk && decide (v ≠ 1), out := [] } := by
      split <;> exact keepsKey_of_eq rfl rfl
    split
    · refine .trans ?_ (otpKept_settleAll _).keepsKey
      exact hxin
    · exact hxin

theorem keepsKey_aoclkOp (g : Pkg) (src : Nat) (ppm : Int) : KeepsKey g (aoclkOp g src ppm) := by
  unfold aoclkOp
  split <;> exact keepsKey_of_eq rfl rfl

theorem keepsKey_sharedFail (s : State) (w : At) (n : Nat) : KeepsKey s.pkg (sharedFail s w n).pkg := by
  have hlose : KeepsKey s.pkg (loseShared s n).pkg := by
    unfold loseShared
    split_ifs
    exacts [keepsKey_linkDownOp s, .refl _, .refl _]
  exact hlose.trans (keepsKey_onPart (fun g d => keepsKey_of_eq rfl rfl) _)

theorem keepsKey_domainWakeCmd (s : State) (w : At) (n : Nat) : KeepsKey s.pkg (domainWakeCmd s w n).pkg := by
  unfold domainWakeCmd
  split_ifs
  · exact .refl _
  · exact keepsKey_shareDomain s n
  · exact keepsKey_onStrandPkg s w _

theorem keepsKey_domainGoodCmd (s : State) (w : At) (n us : Nat) : KeepsKey s.pkg (domainGoodCmd s w n us).pkg := by
  unfold domainGoodCmd
  split
  · refine keepsKey_onPart (fun g _ => ?_) s
    dsimp only
    split <;> exact keepsKey_of_eq rfl rfl
  · exact keepsKey_onStrand s w _

theorem keepsKey_domainLateCmd (s : State) (w : At) (n : Nat) : KeepsKey s.pkg (domainLateCmd s w n).pkg := by
  unfold domainLateCmd
  split_ifs
  · exact .refl _
  · exact keepsKey_sharedFail s w n
  · exact keepsKey_onStrandPkg s w _

theorem keepsKey_domainLossCmd (s : State) (w : At) (n : Nat) : KeepsKey s.pkg (domainLossCmd s w n).pkg := by
  unfold domainLossCmd
  split_ifs
  · exact .refl _
  · exact keepsKey_sharedFail s w n
  · exact keepsKey_onStrandPkg s w _

theorem keepsKey_phaseFailCmd (s : State) (w : At) (r dom : Nat) (c : Currents) :
    KeepsKey s.pkg (phaseFailCmd s w r dom c).pkg := by
  unfold phaseFailCmd
  split
  · exact keepsKey_onStrand s w _
  · refine keepsKey_onPart (fun g d => ?_) s
    unfold pkgPhaseFail
    dsimp only
    split_ifs <;> exact keepsKey_of_eq rfl rfl

theorem keepsKey_jtagOp (s : State) {f : Pkg → Pkg} (hf : KeepsKey s.pkg (f s.pkg)) :
    KeepsKey s.pkg (jtagOp s f).pkg := by
  unfold jtagOp
  split
  · exact hf
  · exact .refl _

/-! #### Boundaries and signals -/

theorem keepsKey_boundaryCmd (s : State) (w : At) : KeepsKey s.pkg (boundaryCmd s w).pkg := by
  have hlive : KeepsKey s.pkg (onLivePkg s w boundaryOp).pkg := keepsKey_onStrandPkg s w _
  unfold boundaryCmd
  dsimp only
  split <;> exact hlive

theorem keepsKey_faultSignalCmd (s : State) (w : At) (src inst : Nat) :
    KeepsKey s.pkg (faultSignalCmd s w src inst).pkg := by
  unfold faultSignalCmd
  split_ifs
  · exact .refl _
  · exact keepsKey_onAll (.refl _) _
  · exact keepsKey_onStrand s w _

theorem keepsKey_nodeBypass (s : State) (w : At) (port : Nat) (aborted : Bool) (b : List Byte) :
    KeepsKey s.pkg (nodeBypass s w port aborted b).pkg := by
  rw [nodeBypass, State.setStrand_pkg]
  exact keepsKey_of_eq rfl rfl

end

end Sys2Proof.Machine

/-! ### Every step -/

namespace Sys2Proof.Machine

/-- A WIN_GO or another write of BAR0, of a strand or of PF4, keeps the key where both do. -/
theorem keepsKey_ofPf4 {s t u : State} (pf4 : Bool) (ht : KeepsKey s.pkg t.pkg) (hu : KeepsKey s.pkg u.pkg) :
    KeepsKey s.pkg (if pf4 then t else u).pkg := by
  cases pf4
  · exact hu
  · exact ht

/-- Every command answers a next state and keeps the key: most of them only read the package, and only the write of
LEVEL0_KEY and the end of a burn touch the key. -/
theorem exec_keepsKey (i : Instr) (s : State) : ∃ t, exec i s = .next t ∧ KeepsKey s.pkg t.pkg := by
  cases i with
  | runStart | kernelStep | cellScrubRead | write | select | flags | setBase | setN0 | copyBank | runGate
  | mirror | owners | marginRead | debugCaptureTake | beatInstanceStart | blockArrival | windowClose | ingestSlot
  | hotWriteApply | cutoverEnd | hotPatchApply | splicePrepareDone | spliceTileCopy | spliceRetire
  | softRepairSwitch | outputTurn | packetTxDone | queueStall | detectorEvent | actionAssert | trigOutPulseEnd
  | raiseExpire | trigInEdge | trigInPulseEnd | trigInDeliver | trigInStuck | inputUnmaskApply | hitchTrim
  | losClear | eiExit | swapOldPairStop | ethFrameRx | ethLinkUp | jesdLemcEdge | jesdLinkDown | jesdCrc
  | ppsOutPulse | dmaIntHold | dmaDisable | creditStall | smDecodeMiss | smTimeout | ctrlMiscompare | ctrlAudit
  | ctrlCheckFail | ctrlSelftest | ctrlReintegCopyDone | simplexAudit | jesdLinkUp | timeTodMissing
  | ptpDelayReqTx | storeScrub | nop | planLoadDma | dictDescribe | sessionIdleTimeout | lockoutExpire
  | ladderStepDone | ladderCleanExpire | errNMinExpire | ctrlUnitTestDone | strandReset | thermDomainShutdown
  | cellSelftestDone =>
    exact ⟨_, rfl, keepsKey_onStrand s _ _⟩
  | slotTransfer | planCheckDone | snapBlockQueue | unitHorizonAdvance | spareSelftest | losDetect | cdrLockLoss
  | laneTrainDone | codewordRx | laneBerCheck | agushFrameRx | idle | sum | trig | time | timeFrameTx
  | idleFrameForce | bondSeqTimeout | bondDegraded | eiEnter | laneSwapStart | swapSwitch | swapTimeout
  | ethLaneSwap | ethLinkDown | refQualify | refBreak | freqMeasureEnd | ref10Edge | ppsEdge | lockAchieved
  | switchSlewStart | switchComplete | holdoverLimit | loopNarrow | ptpRx | dmaPacketTransfer | trainingBurstRx
  | lanePrbsTestDone | cmdqDb | cmdFetch | dictRead | commandComplete | evqDb | dmaCqDb | bar4Read | sageWatchdog
  | noHeadTimeout | railFault | strandUp | thermSample | thermRestart | queueRead | challenge =>
    exact ⟨_, rfl, keepsKey_onStrandPkg s _ _⟩
  | healthClear | dbgCapture | accCntClear | streamDelay | ingCntClear | delaySwap | weightSwap | cbCntClear
  | planCheck | planCommit | planCancel | spliceRequest | snapCapture | bsqCntClear | tinUnmask | trigCntClear
  | laneCfg | bondCfg | timePerS | loopback | testPattern | laneCntClear | laneSwapRequest | refCfg
  | qualHoldoffMs | todLoad | timeStepArm | loopMode | freqAdj | phaseAdjPs | softState | cmdqEnable | evqEnable
  | dmaCfg | lydEnumStart | localDeviceId | protEntry | level0Release | faultGroupAck | faultCfg | faultReact
  | faultWireRetest | faultFirstClear | faultCntClear | errNRelease | ctrlReintegStart | safeEnter
  | strandResetReq | deviceResetReq | retestCellDomain | retestLaneGroup | domainReq | strandPower | delayLoad
  | weightLoad | weightHot | planLoad | planHotPatch | ethPortCfg | ethFlow | jesdCfg | registerWrite | sagePatch
  | protTable | response | level0Key =>
    exact ⟨_, rfl, keepsKey_dictWriteCmd s _ _ _ _ _ _⟩
  | epochBoundary => exact ⟨_, rfl, keepsKey_boundaryCmd s _⟩
  | faultSignal => exact ⟨_, rfl, keepsKey_faultSignalCmd s _ _ _⟩
  | loadApply w =>
    refine ⟨_, rfl, keepsKey_shareDomains (keepsKey_onPart (fun g d => ?_) s)⟩
    cases d.live
    · exact .refl g
    · exact keepsKey_loadApplyAll g d
  | flr w pf4 =>
    refine ⟨_, rfl, keepsKey_onPart (fun g d => ?_) s⟩
    cases pf4 <;> exact keepsKey_of_eq rfl rfl
  | winGo w pf4 v =>
    exact ⟨_, rfl, keepsKey_shareDomains (keepsKey_ofPf4 pf4 (keepsKey_onPart (fun g d => keepsKey_winGo4Op g d v) s)
      (keepsKey_onPart (fun g d => keepsKey_winGoOp g d v) s))⟩
  | winRegWrite w pf4 off v =>
    exact ⟨_, rfl, keepsKey_shareDomains (keepsKey_ofPf4 pf4
      (keepsKey_onPart (fun g d => keepsKey_bar0Write4 g d off v) s)
      (keepsKey_onPart (fun g d => keepsKey_bar0Write g d off v) s))⟩
  | windowAccessDone w pf4 =>
    exact ⟨_, rfl, keepsKey_ofPf4 pf4 (keepsKey_onPart (fun g d => keepsKey_winDone4Op g d) s)
      (keepsKey_onStrandPkg s w winDoneOp)⟩
  | dictWrite w host =>
    exact ⟨_, rfl, keepsKey_shareDomains (keepsKey_onPart (fun g d => keepsKey_cmdWriteOp g d host) s)⟩
  | hpLinkUp speed width => exact ⟨_, rfl, keepsKey_linkUpOp s speed width⟩
  | hpLinkDown => exact ⟨_, rfl, keepsKey_linkDownOp s⟩
  | pePerstN => exact ⟨_, rfl, keepsKey_perstOp s⟩
  | pePerstNRelease => exact ⟨_, rfl, keepsKey_of_eq rfl rfl⟩
  | lydFrameForward w port aborted b =>
    refine ⟨_, rfl, ?_⟩
    split
    · exact keepsKey_nodeBypass s w port aborted b
    · exact keepsKey_shareDomains (keepsKey_onPart (fun g d => keepsKey_frameArriveOp g d port aborted b) s)
  | read w port f => exact ⟨_, rfl, keepsKey_onPart (fun g d => keepsKey_requestOp g d port _) s⟩
  | describe w port f => exact ⟨_, rfl, keepsKey_onPart (fun g d => keepsKey_requestOp g d port _) s⟩
  | lanyardWrite w port f =>
    exact ⟨_, rfl, keepsKey_shareDomains (keepsKey_onPart (fun g d => keepsKey_requestOp g d port _) s)⟩
  | bcastWrite w port f =>
    exact ⟨_, rfl, keepsKey_shareDomains (keepsKey_onPart (fun g d => keepsKey_bcastOp g d port _) s)⟩
  | dbgFrame w f => exact ⟨_, rfl, keepsKey_shareDomains (keepsKey_onPart (fun g d => keepsKey_dbgFrameOp g d f) s)⟩
  | enum w f => exact ⟨_, rfl, keepsKey_onPart (fun g d => keepsKey_enumOp g d _) s⟩
  | enumReport w f => exact ⟨_, rfl, keepsKey_onPart (fun g d => keepsKey_enumReportOp g d _) s⟩
  | beacon w port f => exact ⟨_, rfl, keepsKey_onPart (fun g d => keepsKey_beaconOp g d port _) s⟩
  | enumStart w => exact ⟨_, rfl, keepsKey_onPart keepsKey_enumStartOp s⟩
  | unassignedReportTx w => exact ⟨_, rfl, keepsKey_onPart keepsKey_unassignedReportOp s⟩
  | beaconTx w => exact ⟨_, rfl, keepsKey_onPart keepsKey_beaconTxOp s⟩
  | lydLinkDown w port => exact ⟨_, rfl, keepsKey_onPart (fun g d => keepsKey_lydDownOp g d port) s⟩
  | lydLinkUp w port => exact ⟨_, rfl, keepsKey_onPart (fun g d => keepsKey_lydUpOp g d port) s⟩
  | otpBurnDone w ok => exact ⟨_, rfl, keepsKey_burnDoneOp s w ok⟩
  | deviceReset straps => exact ⟨_, rfl, keepsKey_deviceResetOp s straps⟩
  | pwrPhaseFail w r dom c => exact ⟨_, rfl, keepsKey_phaseFailCmd s w r dom c⟩
  | domainWake w n => exact ⟨_, rfl, keepsKey_domainWakeCmd s w n⟩
  | domainPowerGood w n us => exact ⟨_, rfl, keepsKey_domainGoodCmd s w n us⟩
  | domainWakeTimeout w n => exact ⟨_, rfl, keepsKey_domainLateCmd s w n⟩
  | domainPowerLoss w n => exact ⟨_, rfl, keepsKey_domainLossCmd s w n⟩
  | xinStatusChange v => exact ⟨_, rfl, keepsKey_xinOp s v⟩
  | aoclkCal w src ppm => exact ⟨_, rfl, keepsKey_onPart (fun g _ => keepsKey_aoclkOp g src ppm) s⟩
  | feedOutOfRange f => exact ⟨_, rfl, (otpKept_feedOutOp s f).keepsKey⟩
  | feedInRange f => exact ⟨_, rfl, keepsKey_feedInOp s f⟩
  | pwrFeedsLow => exact ⟨_, rfl, (otpKept_feedsLowOp s).keepsKey⟩
  | regulatorShutdown => exact ⟨_, rfl, (otpKept_regulatorOffOp s).keepsKey⟩
  | porNRelease straps => exact ⟨_, rfl, keepsKey_porReleaseOp s straps⟩
  | pwrEnFall ns => exact ⟨_, rfl, keepsKey_pwrEnFallOp s ns⟩
  | pwrEnRise ok => exact ⟨_, rfl, keepsKey_pwrEnRiseOp s ok⟩
  | testEn high => exact ⟨_, rfl, keepsKey_testEnOp s high⟩
  | extest | idcode | samplePreload | bypass => exact ⟨_, rfl, keepsKey_jtagOp s (keepsKey_of_eq rfl rfl)⟩

/-- Settles O4: on an empty queue nothing changes, and each command keeps the key. -/
theorem keyIsKept : Obligations.KeyIsKept := by
  intro s t hsafe hstep
  unfold step at hstep
  split at hstep
  · obtain rfl := Host.Outcome.next.inj hstep
    exact KeepsKey.refl s.pkg hsafe
  · next c r _ =>
    obtain ⟨u, hu, hkeeps⟩ := exec_keepsKey c { s with pending := r }
    obtain rfl : u = t := Host.Outcome.next.inj (hu.symm.trans hstep)
    exact hkeeps hsafe

end Sys2Proof.Machine

/-! PROOFS. Dictionary accesses: the checks in their order (R371). -/

namespace Sys2Proof.Machine

section

variable {s : State} {w : At} {i : Instr} {g : Pkg} {d e : Strand} {rq : Requester} {r : DictRow} {a : Ask}
  {index sub c : Nat} {b : List Byte} {write : Bool}

/-! ### The checks at an access's arrival -/

/-- The target of an access answers: the package monitor answers PF4, and its strand any other requester (check 1). -/
def Answers (d : Strand) (rq : Requester) (index sub : Nat) (write : Bool) : Prop :=
  rq = .pf4 ∨ reachable d index sub write = true

theorem arrive_unavailable (h : ¬Answers d rq index sub write) : arrive d rq index sub write = .error 0x09 := by
  simp only [Answers, not_or, Bool.not_eq_true] at h
  exact if_pos (by simp [h])

theorem arrive_of_answers (h : Answers d rq index sub write) : arrive d rq index sub write =
    (findEntry rq index sub).elim (.error 0x03)
      fun r => if d.granted rq index sub r.level write then .ok r else .error 0x04 := by
  refine (if_neg ?_).trans (by cases findEntry rq index sub <;> rfl)
  rcases h with h | h <;> simp [h]

theorem arrive_no_entry (h : Answers d rq index sub write) (hf : findEntry rq index sub = none) :
    arrive d rq index sub write = .error 0x03 := by
  rw [arrive_of_answers h, hf, Option.elim_none]

theorem arrive_refused (h : Answers d rq index sub write) (hf : findEntry rq index sub = some r)
    (hg : d.granted rq index sub r.level write = false) : arrive d rq index sub write = .error 0x04 := by
  simp [arrive_of_answers h, hf, hg]

theorem arrive_granted (h : Answers d rq index sub write) (hf : findEntry rq index sub = some r)
    (hg : d.granted rq index sub r.level write = true) : arrive d rq index sub write = .ok r := by
  simp [arrive_of_answers h, hf, hg]

/-! ### An access after its arrival -/

/-- An access whose arrival fails is answered with the code of the check. -/
theorem accessOp_of_error (h : arriveAs d a.rq a.f.type a.f.index a.f.subindex = .error c) (g : Pkg) :
    accessOp g d a = (g, d.answer c) := by
  rw [accessOp, h]

/-- An access behind one that still runs waits in the queue. -/
theorem accessOp_of_wait (h : arriveAs d a.rq a.f.type a.f.index a.f.subindex = .ok r)
    (hw : mustWait d a.f.index a.f.subindex = true) (g : Pkg) :
    accessOp g d a = (g, { d with mgmt := { d.mgmt with queue := d.mgmt.queue ++ [a] } }.answer 0xFF) := by
  rw [accessOp, h]
  exact if_pos hw

theorem accessOp_of_turn (h : arriveAs d a.rq a.f.type a.f.index a.f.subindex = .ok r)
    (hw : mustWait d a.f.index a.f.subindex = false) (g : Pkg) : accessOp g d a = perform g d a r := by
  rw [accessOp, h]
  exact if_neg (by simp [hw])

/-! ### The checks of a write in its turn -/

theorem writeGranted_readOnly (h : r.access = 0) :
    writeGranted g d rq r index sub b = (g, (noteLevel d rq r).answer 0x01) :=
  if_pos h

theorem writeGranted_badLength (h : r.access ≠ 0) (hl : lengthOk r b.length = false) :
    writeGranted g d rq r index sub b = (g, (noteLevel d rq r).answer 0x05) :=
  (if_neg h).trans (if_pos (by simp [hl]))

theorem writeGranted_badValue (h : r.access ≠ 0) (hl : lengthOk r b.length = true) (ht : typeOk r b = false) :
    writeGranted g d rq r index sub b = (g, (noteLevel d rq r).answer 0x02) :=
  (if_neg h).trans ((if_neg (by simp [hl])).trans (if_pos (by simp [ht])))

theorem writeGranted_passed (h : r.access ≠ 0) (hl : lengthOk r b.length = true) (ht : typeOk r b = true) :
    writeGranted g d rq r index sub b = entryWrite g ((noteLevel d rq r).answer 0xFF) rq index sub b :=
  (if_neg h).trans ((if_neg (by simp [hl])).trans (if_neg (by simp [ht])))

/-- Only a session's idle time is touched. -/
theorem noteLevel_still (d : Strand) (rq : Requester) (r : DictRow) : (noteLevel d rq r).still = d.still := by
  unfold noteLevel
  split <;> rfl

theorem noteLevel_sleep (d : Strand) (rq : Requester) (r : DictRow) : (noteLevel d rq r).sleep = d.sleep := by
  unfold noteLevel
  split <;> rfl

/-! ### The write of a location by a requester -/

theorem dictWriteOp_of_error (h : arrive d rq index sub true = .error c) (g : Pkg) (port : Nat) :
    dictWriteOp g d port rq index sub b = (g, d.answer c) :=
  accessOp_of_error (a := askFor port rq 2 index sub b.length b) h g

theorem dictWriteOp_of_wait (h : arrive d rq index sub true = .ok r) (hw : mustWait d index sub = true) (g : Pkg)
    (port : Nat) : dictWriteOp g d port rq index sub b = (g, { d with mgmt := { d.mgmt with
      queue := d.mgmt.queue ++ [askFor port rq 2 index sub b.length b] } }.answer 0xFF) :=
  accessOp_of_wait (a := askFor port rq 2 index sub b.length b) h hw g

/-- A write that comes in no frame joins no list of answers that are due, even where it completes later. -/
theorem dictWriteOp_of_turn (h : arrive d rq index sub true = .ok r) (hw : mustWait d index sub = false) (g : Pkg) :
    dictWriteOp g d 4 rq index sub b = writeGranted g d rq r index sub b := by
  refine (accessOp_of_turn (a := askFor 4 rq 2 index sub b.length b) h hw g).trans ?_
  simp [perform, askFor]

theorem leavesPart_registerWrite (hr : s.ready = true) (ha : s.awake = true)
    (hd : dictWriteOp { s.pkg with out := [] } (s.found w) 4 rq index sub b = (g, e)) (hn : g.newId = none)
    (h40 : g.domain 0x40 ≠ 0) (h41 : g.domain 0x41 ≠ 0) (he : e.still = true) (hz : e.sleep = 0) :
    LeavesPart (.registerWrite w rq index sub b) s w g e :=
  leavesPart_of_shareDomains (f := fun g d => if true then dictWriteOp g d 4 rq index sub b else (g, d.answer 0x03)) hr
    ha hd hn h40 h41 he hz rfl

/-- A write that leaves the package alone and gives the collector nothing. -/
theorem leaves_registerWrite (hr : s.ready = true) (ha : s.awake = true)
    (hd : dictWriteOp { s.pkg with out := [] } (s.found w) 4 rq index sub b = ({ s.pkg with out := [] }, e))
    (he : e.still = true) (hz : e.sleep = 0) : Leaves (.registerWrite w rq index sub b) s w e :=
  leaves_of_shareDomains (f := fun g d => if true then dictWriteOp g d 4 rq index sub b else (g, d.answer 0x03)) hr ha hd
    he hz rfl

end

/-- Settles O42: the first check that fails decides the answer, and a write that passes them all is its entry's. -/
theorem dictionaryChecks : Obligations.DictionaryChecks := by
  intro s w rq index sub b hr ha d g i up
  have hstill : d.still = true := ready_still hr w.k
  have hsleep : d.sleep = 0 := ((awake_iff s).1 ha).1 w.k
  refine ⟨fun h => ?_, fun h hf => ?_, fun r h hf => ⟨fun hg => ?_, fun hg hw => ?_, fun hg hw => ?_⟩⟩
  · exact leaves_registerWrite hr ha (dictWriteOp_of_error (arrive_unavailable h) _ _) hstill hsleep
  · exact leaves_registerWrite hr ha (dictWriteOp_of_error (arrive_no_entry h hf) _ _) hstill hsleep
  · exact leaves_registerWrite hr ha (dictWriteOp_of_error (arrive_refused h hf hg) _ _) hstill hsleep
  · exact leaves_registerWrite hr ha (dictWriteOp_of_wait (arrive_granted h hf hg) hw _ _) hstill hsleep
  · intro e
    have hturn := dictWriteOp_of_turn (b := b) (arrive_granted h hf hg) hw g
    have hstill' : e.still = true := (noteLevel_still d rq r).trans hstill
    have hsleep' : e.sleep = 0 := (noteLevel_sleep d rq r).trans hsleep
    refine ⟨fun hacc => ?_, fun hacc hl => ?_, fun hacc hl ht => ?_, fun hacc hl ht => ?_⟩
    · exact leaves_registerWrite hr ha (hturn.trans (writeGranted_readOnly hacc)) hstill' hsleep'
    · exact leaves_registerWrite hr ha (hturn.trans (writeGranted_badLength hacc hl)) hstill' hsleep'
    · exact leaves_registerWrite hr ha (hturn.trans (writeGranted_badValue hacc hl ht)) hstill' hsleep'
    · intro x hn h40 h41 hs hz
      exact leavesPart_registerWrite hr ha (hturn.trans (writeGranted_passed hacc hl ht)) hn h40 h41 hs hz

end Sys2Proof.Machine

/-! PROOFS. Protection and the level-0 sessions (R374 to R379). -/

/-! ### A write that the dictionary takes -/

namespace Sys2Proof.Machine

section

variable {s : State} {w : At} {i : Instr} {g : Pkg} {d e : Strand} {rq : Requester} {r : DictRow}
  {index sub v c : Nat} {b : List Byte}

/-- A write that the dictionary takes and whose bytes suit its entry has the entry's effect. -/
theorem dictWriteOp_of_takes (ht : s.takes w rq index sub = true) (hr : dictFind index sub = some r)
    (ha : r.access ≠ 0) (hl : lengthOk r b.length = true) (hty : typeOk r b = true) (g : Pkg) :
    dictWriteOp g (s.found w) 4 rq index sub b =
      entryWrite g ((noteLevel (s.found w) rq r).answer 0xFF) rq index sub b := by
  obtain ⟨-, -, hup, hout, hfree, hgrant, hpf⟩ := (writable_iff _ _ _ _ _ _).1 (takes_writable hr ht)
  have hanswers : Answers (s.found w) rq index sub true := .inr (by simp [reachable, hup, hout])
  have hfind : findEntry rq index sub = some r := by simp [findEntry, hpf, hr]
  rw [dictWriteOp_of_turn (arrive_granted hanswers hfind hgrant) (by simp [mustWait, hfree]),
    writeGranted_passed ha hl hty]

/-- What follows such a write: the collector takes what it raised, and the shared domains are looked at. -/
theorem exec_of_takes (ht : s.takes w rq index sub = true) (hr : dictFind index sub = some r)
    (hi : exec i s = .next (dictWriteCmd s w rq true index sub b)) (ha : r.access ≠ 0)
    (hl : lengthOk r b.length = true) (hty : typeOk r b = true)
    (he : entryWrite { s.pkg with out := [] } ((noteLevel (s.found w) rq r).answer 0xFF) rq index sub b =
      ({ s.pkg with out := [] }, e)) : exec i s = .next (shareDomains (settle (s.leave w.k e) w.k)) := by
  refine hi.trans (congrArg (fun t => Host.Outcome.next (shareDomains t)) ?_)
  exact onPart_eq (ready_hold (takes_ready ht).1) w _ ((dictWriteOp_of_takes ht hr ha hl hty _).trans he)

/-- The same for an entry of fixed size, written with a number. -/
theorem exec_of_regWrite (ht : s.takes w rq index sub = true) (hr : dictFind index sub = some r) (hs : r.size ≠ 0)
    (hi : exec i s = .next (regWrite s w rq true index sub v)) (ha : r.access ≠ 0) (hv : v < 256 ^ r.size)
    (hty : r.type = 0 → v ≤ 1)
    (he : ∀ b, bytesToNat b = v → entryWrite { s.pkg with out := [] } ((noteLevel (s.found w) rq r).answer 0xFF) rq index
      sub b = ({ s.pkg with out := [] }, e)) : exec i s = .next (shareDomains (settle (s.leave w.k e) w.k)) := by
  have hb : bytesToNat (natToBytes r.size v) = v := bytesToNat_natToBytes _ _ hv
  refine exec_of_takes (b := natToBytes r.size v) ht hr ?_ ha (by simp [lengthOk, hs]) ?_ (he _ hb)
  · simpa [regWrite, hr] using hi
  · by_cases h0 : r.type = 0
    · simp [typeOk, hb, hty h0]
    · simp [typeOk, h0]

/-- A location outside the package's indexes is its strand's own. -/
theorem isPackageLoc_of_index (hs : sub < 256) (h1 : index ≠ 0x1211) (h2 : index < 0x1080 ∨ 0x10FF < index)
    (h3 : index < 0x2600 ∨ 0x27FF < index) : isPackageLoc (locKey index sub) = false := by
  have hkey : locKey index sub / 256 = index := by unfold locKey; omega
  unfold isPackageLoc
  rw [hkey]
  simp
  omega

theorem entryWrite_prot (g : Pkg) (d : Strand) (rq : Requester) (b : List Byte) (hs : sub < 256) (h : 0x1200 ≤ index)
    (h' : index ≤ 0x1210) : entryWrite g d rq index sub b = (g, writeProt g d rq index sub (bytesToNat b) b) := by
  rw [entryWrite, isPackageLoc_of_index hs (by omega) (by omega) (by omega), if_neg Bool.false_ne_true,
    if_neg (by omega), if_neg (by omega), if_pos (by omega)]

end

end Sys2Proof.Machine

/-! ### The protection table (R374 to R376) -/

namespace Sys2Proof.Machine

section

variable {s : State} {w : At} {d e : Strand} {rq : Requester} {index sub lv n v c : Nat} {isWrite : Bool} {b : List Byte}

/-- The first entry that names the class and the index decides. -/
theorem protLookup_of_first (hn : n < 32) (hd : protDecides (d.protEntryOf n) rq index = true)
    (hb : ∀ m, m < n → protDecides (d.protEntryOf m) rq index = false) :
    d.protLookup rq index = some (d.protEntryOf n) := by
  have hfirst : ((List.range 32).find? fun m => protDecides (d.protEntryOf m) rq index) = some n :=
    List.find?_range_eq_some.2 ⟨hd, List.mem_range.2 hn, fun m hm => by simp [hb m hm]⟩
  unfold Strand.protLookup
  rw [List.find?_map]
  exact congrArg (Option.map d.protEntryOf) hfirst

theorem protLookup_of_none (h : ∀ n, n < 32 → protDecides (d.protEntryOf n) rq index = false) :
    d.protLookup rq index = none := by
  refine List.find?_eq_none.2 fun e he => ?_
  obtain ⟨n, hn, rfl⟩ := List.mem_map.1 he
  simp [h n (List.mem_range.1 hn)]

/-- Beside the open locations, and those that a session opens, the table decides. -/
theorem granted_of_table (ho : openLoc index sub = false)
    (hs : index < 0x1200 ∨ 0x12FF < index ∨ d.hasSession rq = false) : d.granted rq index sub lv isWrite =
    (d.protLookup rq index).any fun e => decide (effLevel e (d.hasSession rq) ≤ lv) && (!isWrite || !(bit e 10)) := by
  have hsession : ¬(decide (0x1200 ≤ index) && decide (index ≤ 0x12FF) && d.hasSession rq) = true := by
    simp only [Bool.and_eq_true, decide_eq_true_eq]
    rintro ⟨⟨h1, h2⟩, h3⟩
    rcases hs with h | h | h
    · omega
    · omega
    · simp [h] at h3
  rw [Strand.granted, if_neg (by simp [ho]), if_neg hsession]
  cases d.protLookup rq index <;> rfl

theorem granted_by_entry {x : Nat} (ho : openLoc index sub = false)
    (hs : index < 0x1200 ∨ 0x12FF < index ∨ d.hasSession rq = false) (hx : d.protLookup rq index = some x) :
    d.granted rq index sub lv isWrite = true ↔
      effLevel x (d.hasSession rq) ≤ lv ∧ (isWrite = true → bit x 10 = false) := by
  rw [granted_of_table ho hs, hx]
  cases isWrite <;> simp

theorem granted_by_none (ho : openLoc index sub = false)
    (hs : index < 0x1200 ∨ 0x12FF < index ∨ d.hasSession rq = false) (hx : d.protLookup rq index = none) :
    d.granted rq index sub lv isWrite = false := by
  rw [granted_of_table ho hs, hx, Option.any_none]

/-! #### Changes of the table (R375) -/

theorem raiseOnce_answer (h : e = d.answer c) (src inst : Nat) :
    e.raiseOnce src inst = (d.raiseOnce src inst).answer c := by
  subst h
  exact ite_answer rfl rfl

theorem raiseAnyOnce_answer (h : e = d.answer c) (src : Nat) : e.raiseAnyOnce src = (d.raiseAnyOnce src).answer c := by
  subst h
  exact raiseOnce_answer (d := d.freeNat.2) rfl src _

/-- PROT_TABLE shows the entries, and PROT_GEN counts the change. -/
def protShown (d : Strand) : Strand :=
  (d.put 0x1201 0x01 (bytesToNat (((List.range 32).map fun n => natToBytes 8 (d.protEntryOf n)).flatten))).bump 0x1201
    0x02 1

theorem protChanged_eq (d : Strand) : d.protChanged = (protShown d).raiseAnyOnce 0xAB := rfl

theorem protChanged_answer (h : e = d.answer c) : e.protChanged = d.protChanged.answer c := by
  subst h
  rw [protChanged_eq, protChanged_eq]
  exact raiseAnyOnce_answer (d := protShown d) rfl 0xAB

theorem protEntryWrite_bad (h : protBad v = true) (c : Nat) : protEntryWrite (d.answer c) n v = d.answer 0x02 := if_pos h

theorem protEntryWrite_good (h : protBad v = false) (c : Nat) :
    protEntryWrite (d.answer c) n v = ((d.put 0x1200 n (protMask v)).protChanged).answer 0x00 := by
  have hput : (d.answer c).put 0x1200 n (protMask v) = (d.put 0x1200 n (protMask v)).answer c := rfl
  rw [protEntryWrite, if_neg (by simp [h]), protChanged_answer hput, answer_answer]

/-- One of the 32 entries that the bytes spell is bad. -/
def protTableBad (b : List Byte) : Bool := (List.range 32).any fun n => protBad (fieldAt b (8 * n) 8)

/-- The strand with the 32 entries that the bytes spell. -/
def protTablePut (d : Strand) (b : List Byte) : Strand :=
  (List.range 32).foldl (fun (e : Strand) n => e.put 0x1200 n (protMask (fieldAt b (8 * n) 8))) d

theorem protTablePut_answer (d : Strand) (b : List Byte) (c : Nat) :
    protTablePut (d.answer c) b = (protTablePut d b).answer c := List.foldl_hom (Strand.answer · c) (fun _ _ => rfl)

theorem protTableWrite_bad (h : protTableBad b = true) (c : Nat) : protTableWrite (d.answer c) b = d.answer 0x02 :=
  if_pos (by rwa [List.any_map])

theorem protTableWrite_good (h : protTableBad b = false) (c : Nat) :
    protTableWrite (d.answer c) b = ((protTablePut d b).protChanged).answer 0x00 := by
  have hbad : ¬((List.range 32).map fun n => fieldAt b (8 * n) 8).any protBad = true := by
    rw [List.any_map]
    exact fun hbad => Bool.false_ne_true (h.symm.trans hbad)
  refine (if_neg hbad).trans ?_
  change ((protTablePut (d.answer c) b).protChanged).answer 0x00 = _
  rw [protChanged_answer (protTablePut_answer d b c), answer_answer]

theorem dictFind_protEntry (h : n < 32) :
    dictFind 0x1200 n = some ⟨0x1200, 0x1200, 0x00, 0x1f, 4, 8, 1, 0, 0, false, 0x0⟩ :=
  dictFind_of_indexRow (lo := 0x1200) (hi := 0x1200) (by decide +kernel) (Nat.le_refl _) (Nat.le_refl _) (Nat.le_refl _)
    (Nat.le_refl _) (Nat.zero_le _) (by dsimp only; omega)

theorem dictFind_protTable :
    dictFind 0x1201 0x01 = some ⟨0x1201, 0x1201, 0x01, 0x01, 11, 256, 1, 0, 0, false, 0x0⟩ := by decide +kernel

theorem exec_protEntry (h : n < 32) : exec (.protEntry w rq n v) s = .next (regWrite s w rq true 0x1200 n v) := by
  rw [← decide_eq_true (show n < 256 by omega)]
  rfl

theorem entryWrite_protEntry {g : Pkg} {b : List Byte} (hn : n < 32) (hb : bytesToNat b = v)
    (he : protEntryWrite (d.answer 0xFF) n v = e) : entryWrite g (d.answer 0xFF) rq 0x1200 n b = (g, e) := by
  rw [entryWrite_prot _ _ _ _ (by omega) (by decide) (by decide), hb, ← he]
  rfl

theorem entryWrite_protTable {g : Pkg} {b : List Byte} (he : protTableWrite (d.answer 0xFF) b = e) :
    entryWrite g (d.answer 0xFF) rq 0x1201 0x01 b = (g, e) := by
  rw [entryWrite_prot _ _ _ _ (by decide) (by decide) (by decide), ← he]
  rfl

end

/-- Settles O43: the table's first entry for the access decides what is granted, and the entries written decide whether
the table changes. -/
theorem protection : Obligations.Protection := by
  refine ⟨fun d rq index sub lv isWrite ho hs => ⟨?_, fun h => granted_by_none ho hs (protLookup_of_none h)⟩,
    fun s w rq => ⟨fun n v hn hv ht => ?_, fun b hb ht => ?_⟩⟩
  · rintro n - hn rfl hd hb
    exact granted_by_entry ho hs (protLookup_of_first hn hd hb)
  all_goals
    obtain ⟨hr, -, hsleep⟩ := takes_ready ht
    have hstill : ((s.found w).touchSession rq).still = true := ready_still hr w.k
  · have hrow := dictFind_protEntry hn
    refine ⟨fun hbad => ?_, fun hgood => ?_⟩
    · refine leaves_of_regWrite ht hrow (by decide) (exec_protEntry hn) (by decide) (by simpa using hv) (by simp)
        (fun b hb => ?_) hstill hsleep
      exact entryWrite_protEntry hn hb (protEntryWrite_bad hbad _)
    · refine exec_of_regWrite ht hrow (by decide) (exec_protEntry hn) (by decide) (by simpa using hv) (by simp)
        (fun b hb => ?_)
      exact entryWrite_protEntry hn hb (protEntryWrite_good hgood _)
  · have hlen : lengthOk ⟨0x1201, 0x1201, 0x01, 0x01, 11, 256, 1, 0, 0, false, 0x0⟩ b.length = true := by
      simp [lengthOk, hb]
    exact ⟨fun hbad => leaves_of_takes ht dictFind_protTable rfl (by decide) hlen rfl
        (entryWrite_protTable (protTableWrite_bad hbad _)) hstill hsleep,
      fun hgood => exec_of_takes ht dictFind_protTable rfl (by decide) hlen rfl
        (entryWrite_protTable (protTableWrite_good hgood _))⟩

end Sys2Proof.Machine

/-! PROOFS. Level-0 sessions, nonces and lockouts (R378, R379). -/

namespace Sys2Proof.Machine

section

variable {s : State} {w : At} {g : Pkg} {d e : Strand} {rq : Requester} {b : List Byte} {sub t : Nat}

/-! ### Access to the open locations -/

theorem granted_of_open (h : openLoc index sub = true) (d : Strand) (rq : Requester) (lv : Nat) (isWrite : Bool) :
    d.granted rq index sub lv isWrite = true := if_pos h

/-- The open locations take a write of any requester but PF4, where the dictionary answers at once. -/
theorem takes_of_open {r : DictRow} (ho : openLoc index sub = true) (hr : dictFind index sub = some r)
    (hready : s.ready = true) (ha : s.awake = true) (hfree : (s.found w).dictFree = true) (hpf : rq ≠ .pf4) :
    s.takes w rq index sub = true := by
  simp [State.takes, hr, State.writable, hready, ha, hfree, Strand.mayWrite, granted_of_open ho, hpf]

/-! ### CHALLENGE -/

theorem leaves_challenge (hready : s.ready = true) (hfree : (s.found w).dictFree = true) (hpf : rq ≠ .pf4)
    (he : challengeRead { s.pkg with out := [] } (s.found w) rq = e) (hs : e.still = true) :
    Leaves (.challenge w rq) s w e := by
  have hr : dictFind 0x1210 0x01 = some ⟨0x1210, 0x1210, 0x01, 0x01, 11, 16, 0, 3, 0, false, 0x0⟩ := by decide +kernel
  refine leaves_of_becomes hready hs (becomes_of_dictRead hready hfree hpf hr (granted_of_open rfl _ _ _ _) rfl ?_)
  exact he

theorem challengeRead_of_no_key (h : g.key = none) : challengeRead g d rq = d.answer 0x01 := if_pos (by simp [h])

theorem not_isNone_of_isSome {α : Type} {o : Option α} (h : o.isSome = true) : ¬o.isNone = true := by
  rw [Option.isNone_iff_eq_none]
  exact Option.isSome_iff_ne_none.1 h

theorem challengeRead_of_lockout (h : g.key.isSome = true) (hl : d.lockedOut = true) :
    challengeRead g d rq = d.answer 0x04 := (if_neg (not_isNone_of_isSome h)).trans (if_pos hl)

/-- The nonces of the other requesters. -/
def otherNonces (d : Strand) (rq : Requester) : List NonceSt := d.mgmt.nonces.filter fun x => decide (x.rq ≠ rq)

/-- The nonce that the strand draws next. -/
def nextNonce (d : Strand) : Nat := Config.nonce (4 * d.freeCtr + d.id.num) % 2 ^ 128

theorem challengeRead_of_free (h : g.key.isSome = true) (hl : d.lockedOut = false) : challengeRead g d rq =
    { d with freeCtr := d.freeCtr + 1, mgmt := { d.mgmt with
      nonces := ⟨rq, nextNonce d, d.sage⟩ :: otherNonces d rq } }.answerData (natToBytes 16 (nextNonce d)) :=
  (if_neg (not_isNone_of_isSome h)).trans (if_neg (Bool.eq_false_iff.1 hl))

/-! ### RESPONSE -/

theorem leaves_response (hlen : b.length = 16) (ht : s.takes w rq 0x1210 0x02 = true)
    (he : responseWrite { s.pkg with out := [] } ((s.found w).answer 0xFF) rq b = e) (hd : e.still = true)
    (hz : e.sleep = 0) : Leaves (.response w rq b) s w e := by
  have hr : dictFind 0x1210 0x02 = some ⟨0x1210, 0x1210, 0x02, 0x02, 11, 16, 2, 3, 0, false, 0x0⟩ := by decide +kernel
  refine leaves_of_takes ht hr rfl (by decide) (by simp [lengthOk, hlen]) (by simp [typeOk]) ?_ hd hz
  rw [noteLevel_of_ne_zero (by decide), entryWrite_prot _ _ _ _ (by decide) (by decide) (by decide), ← he]
  rfl

theorem responseWrite_of_lockout (h : d.lockedOut = true) : responseWrite g d rq b = d.answer 0x04 := if_pos h

/-- The nonce of a requester. -/
def nonceOf (d : Strand) (rq : Requester) : Option NonceSt := d.mgmt.nonces.find? fun x => decide (x.rq = rq)

/-- The strand with the requester's nonce used. -/
def nonceUsed (d : Strand) (rq : Requester) : Strand := { d with mgmt := { d.mgmt with nonces := otherNonces d rq } }

/-- The response fits the requester's nonce, in its time. -/
def ResponseMatches (g : Pkg) (d : Strand) (rq : Requester) (b : List Byte) : Prop :=
  ∃ key x, g.key = some key ∧ nonceOf d rq = some x ∧ d.sage ≤ x.at_ + secTime 10 ∧
    expectedResponse key d rq x.nonce = b

/-- The strand with a session opened. -/
def sessionOpened (d : Strand) (rq : Requester) : Strand :=
  { d with mgmt := { d.mgmt with
      nonces := otherNonces d rq
      sessions := ⟨rq, d.sage⟩ :: d.mgmt.sessions.filter fun y => decide (y.rq ≠ rq)
      fails := 0 } }.put 0x1210 0x07 10

theorem responseWrite_of_matches (hl : d.lockedOut = false) (h : ResponseMatches g d rq b) :
    responseWrite g d rq b = (sessionOpened d rq).answer 0x00 := by
  obtain ⟨key, x, hkey, hmine, htime, hb⟩ := h
  unfold nonceOf at hmine
  rw [responseWrite, if_neg (Bool.eq_false_iff.1 hl)]
  have hok : (decide (d.sage ≤ x.at_ + secTime 10) && decide (expectedResponse key d rq x.nonce = b)) = true := by
    simp [htime, hb]
  simp only [hkey, hmine]
  exact if_pos hok

theorem responseWrite_of_other (hl : d.lockedOut = false) (h : ¬ResponseMatches g d rq b) :
    responseWrite g d rq b = responseFail (nonceUsed d rq) := by
  rw [responseWrite, if_neg (Bool.eq_false_iff.1 hl)]
  cases hkey : g.key with
  | none => rfl
  | some key =>
    cases hmine : nonceOf d rq with
    | none =>
      unfold nonceOf at hmine
      simp only [hmine]
      rfl
    | some x =>
      have hfail : ¬(decide (d.sage ≤ x.at_ + secTime 10) && decide (expectedResponse key d rq x.nonce = b)) = true := by
        rw [Bool.and_eq_true, decide_eq_true_eq, decide_eq_true_eq]
        exact fun hc => h ⟨key, x, hkey, hmine, hc⟩
      unfold nonceOf at hmine
      simp only [hmine]
      exact if_neg hfail

/-! #### A response that does not match -/

/-- A source that was raised in this epoch is not raised again. -/
theorem raiseAnyOnce_of_done {src : Nat} (h : d.flt.onceDone.contains src = true) : d.raiseAnyOnce src = d.freeNat.2 :=
  if_pos h

/-- The strand with a failed response counted and refused. -/
def failAnswered (d : Strand) : Strand := ((d.bump 0x1210 0x06 1).raiseAnyOnce 0xAC).answer 0x02

/-- The strand with the lockout that a third failure starts; the next one lasts twice as long. -/
def lockoutStarted (d : Strand) : Strand :=
  { d with mgmt := { d.mgmt with fails := 0, lockUntil := some (d.sage + secTime (d.get 0x1210 0x07)) } }.put 0x1210
    0x07 (min (2 * d.get 0x1210 0x07) 2560)

theorem responseFail_of_few (h : (failAnswered d).mgmt.fails + 1 < 3) : responseFail d =
    { failAnswered d with mgmt := { (failAnswered d).mgmt with fails := (failAnswered d).mgmt.fails + 1 } } := if_pos h

theorem responseFail_of_third (h : ¬(failAnswered d).mgmt.fails + 1 < 3) :
    responseFail d = (lockoutStarted (failAnswered d)).raiseAnyOnce 0xAD := if_neg h

theorem failAnswered_answer (d : Strand) (c : Nat) : failAnswered (d.answer c) = failAnswered d := by
  have hbump : (d.answer c).bump 0x1210 0x06 1 = (d.bump 0x1210 0x06 1).answer c := rfl
  rw [failAnswered, raiseAnyOnce_answer hbump, answer_answer]
  rfl

theorem responseFail_answer (d : Strand) (c : Nat) : responseFail (d.answer c) = responseFail d := by
  by_cases h : (failAnswered d).mgmt.fails + 1 < 3
  · rw [responseFail_of_few h, responseFail_of_few (by rwa [failAnswered_answer]), failAnswered_answer]
  · rw [responseFail_of_third h, responseFail_of_third (by rwa [failAnswered_answer]), failAnswered_answer]

/-- The strand with a failed response counted and refused, where AUTH_FAIL was raised before in the epoch. -/
def failCounted (d : Strand) : Strand := (d.bump 0x1210 0x06 1).freeNat.2.answer 0x02

theorem failAnswered_of_done (h : d.flt.onceDone.contains 0xAC = true) : failAnswered d = failCounted d :=
  congrArg (Strand.answer · 0x02) (raiseAnyOnce_of_done h)

theorem failCounted_get (d : Strand) : (failCounted d).get 0x1210 0x07 = d.get 0x1210 0x07 :=
  d.get_put_other _ (by decide)

theorem failCounted_sleep (d : Strand) : (failCounted d).sleep = d.sleep := d.get_put_other _ (by decide)

theorem lockoutStarted_sleep (d : Strand) : (lockoutStarted d).sleep = d.sleep := d.get_put_other _ (by decide)

/-- What a failed response leaves where both of its sources were raised before in the epoch. -/
theorem responseFail_of_done (h1 : d.flt.onceDone.contains 0xAC = true) (h2 : d.flt.onceDone.contains 0xAD = true) :
    responseFail d = if d.mgmt.fails + 1 < 3 then
        { failCounted d with mgmt := { (failCounted d).mgmt with fails := (failCounted d).mgmt.fails + 1 } }
      else (lockoutStarted (failCounted d)).freeNat.2 := by
  have hfails : (failAnswered d).mgmt.fails = d.mgmt.fails := by
    rw [failAnswered_of_done h1]
    rfl
  by_cases h : d.mgmt.fails + 1 < 3
  · rw [if_pos h, responseFail_of_few (hfails ▸ h), failAnswered_of_done h1]
  · rw [if_neg h, responseFail_of_third (hfails ▸ h), failAnswered_of_done h1]
    exact raiseAnyOnce_of_done h2

/-- The lockout after a failure of `d`. -/
def lockAfter (d : Strand) : Option Nat :=
  if d.mgmt.fails + 1 < 3 then d.mgmt.lockUntil else some (d.sage + secTime (d.get 0x1210 0x07))

theorem responseFail_lockUntil (h1 : d.flt.onceDone.contains 0xAC = true) (h2 : d.flt.onceDone.contains 0xAD = true) :
    (responseFail d).mgmt.lockUntil = lockAfter d := by
  rw [responseFail_of_done h1 h2, lockAfter, ← failCounted_get d]
  split <;> rfl

/-- Beside its count and the lockout a failed response changes no session, gives the collector nothing and leaves the
strand awake. -/
theorem responseFail_keeps (h1 : d.flt.onceDone.contains 0xAC = true) (h2 : d.flt.onceDone.contains 0xAD = true) :
    (responseFail d).still = d.still ∧ (responseFail d).sleep = d.sleep ∧ (responseFail d).resp.code = 0x02 ∧
      (responseFail d).mgmt.sessions = d.mgmt.sessions := by
  rw [responseFail_of_done h1 h2]
  split
  · exact ⟨rfl, failCounted_sleep d, rfl, rfl⟩
  · exact ⟨rfl, (lockoutStarted_sleep _).trans (failCounted_sleep d), rfl, rfl⟩

theorem responseWrite_answer_of_other (hl : d.lockedOut = false) (h : ¬ResponseMatches g d rq b) (c : Nat) :
    responseWrite g (d.answer c) rq b = responseFail (nonceUsed d rq) := by
  have hother : responseWrite g (d.answer c) rq b = responseFail (nonceUsed (d.answer c) rq) :=
    responseWrite_of_other hl h
  have hused : nonceUsed (d.answer c) rq = (nonceUsed d rq).answer c := rfl
  rw [hother, hused, responseFail_answer]

/-! ### Ends of sessions and lockouts -/

theorem leaves_level0Release {v : Nat} (ht : s.takes w rq 0x1210 0x03 = true) (hv : v ≤ 1)
    (he : level0ReleaseOp ((s.found w).answer 0xFF) rq v = e) (hd : e.still = true) (hz : e.sleep = 0) :
    Leaves (.level0Release w rq v) s w e := by
  have hr : dictFind 0x1210 0x03 = some ⟨0x1210, 0x1210, 0x03, 0x03, 0, 1, 2, 3, 0, false, 0x0⟩ := by decide +kernel
  refine leaves_of_regWrite ht hr (by decide) rfl (by decide) (by simp; omega) (fun _ => hv) (fun b hb => ?_) hd hz
  rw [noteLevel_of_ne_zero (by decide), entryWrite_prot _ _ _ _ (by decide) (by decide) (by decide), hb, ← he]
  rfl

theorem sessionIdleOp_of_idle {x : Session} (h : (d.mgmt.sessions.find? fun y => decide (y.rq = rq)) = some x)
    (ht : x.last + secTime (d.get 0x1210 0x05) ≤ d.sage) : sessionIdleOp d rq = d.endSession rq := by
  rw [sessionIdleOp, h]
  exact if_pos ht

theorem sessionIdleOp_of_used {x : Session} (h : (d.mgmt.sessions.find? fun y => decide (y.rq = rq)) = some x)
    (ht : d.sage < x.last + secTime (d.get 0x1210 0x05)) : sessionIdleOp d rq = d := by
  rw [sessionIdleOp, h]
  exact if_neg (Nat.not_le.2 ht)

theorem lockoutExpireOp_of_end (h : d.mgmt.lockUntil = some t) (ht : t ≤ d.sage) :
    lockoutExpireOp d = { d with mgmt := { d.mgmt with lockUntil := none } } := by
  rw [lockoutExpireOp, h]
  exact if_pos ht

theorem lockoutExpireOp_before (h : d.mgmt.lockUntil = some t) (ht : d.sage < t) : lockoutExpireOp d = d := by
  rw [lockoutExpireOp, h]
  exact if_neg (Nat.not_le.2 ht)

end

/-- Settles O47: the four locations are open to every requester but PF4; the lockout, the key and the requester's nonce
choose the branch. -/
theorem sessions : Obligations.Sessions := by
  intro s w rq hready d others mine n open_
  have hstill : d.still = true := ready_still hready w.k
  have hsleep (ha : s.awake = true) : d.sleep = 0 := ((awake_iff s).1 ha).1 w.k
  have hresponse (ho : open_) (ha : s.awake = true) : s.takes w rq 0x1210 0x02 = true :=
    takes_of_open rfl (r := ⟨0x1210, 0x1210, 0x02, 0x02, 11, 16, 2, 3, 0, false, 0x0⟩) (by decide +kernel) hready ha
      ho.1 ho.2
  have hrelease (ho : open_) (ha : s.awake = true) : s.takes w rq 0x1210 0x03 = true :=
    takes_of_open rfl (r := ⟨0x1210, 0x1210, 0x03, 0x03, 0, 1, 2, 3, 0, false, 0x0⟩) (by decide +kernel) hready ha
      ho.1 ho.2
  refine ⟨fun ho hkey => ?_, fun ho hkey hl => ?_, fun ho hkey hl => ?_, fun b hb ho ha hl => ?_,
    fun b key x hb ho ha hl hkey hmine ht hx => ?_, fun b hb ho ha hl hno h1 h2 => ?_, fun ho ha => ⟨?_, ?_⟩,
    fun x hx => ⟨fun ht => ?_, fun ht => ?_⟩, fun t hl => ⟨fun ht => ?_, fun ht => ?_⟩⟩
  · exact leaves_challenge hready ho.1 ho.2 (challengeRead_of_no_key hkey) hstill
  · exact leaves_challenge hready ho.1 ho.2 (challengeRead_of_lockout hkey hl) hstill
  · exact leaves_challenge hready ho.1 ho.2 (challengeRead_of_free hkey hl) hstill
  · exact leaves_response hb (hresponse ho ha) (responseWrite_of_lockout hl) hstill (hsleep ha)
  · exact leaves_response hb (hresponse ho ha) (responseWrite_of_matches hl ⟨key, x, hkey, hmine, ht, hx⟩) hstill
      ((Strand.get_put_other _ _ (by decide)).trans (hsleep ha))
  · intro e
    obtain ⟨hs, hz, hcode, hsessions⟩ := responseFail_keeps (d := nonceUsed d rq) h1 h2
    refine ⟨?_, hcode, ?_, responseFail_lockUntil (d := nonceUsed d rq) h1 h2⟩
    · refine leaves_response hb (hresponse ho ha) (responseWrite_answer_of_other hl ?_ 0xFF) (hs.trans hstill)
        (hz.trans (hsleep ha))
      rintro ⟨key, x, hkey, hmine, ht, hx⟩
      rcases hno key x hkey hmine with h | h
      · exact absurd ht (Nat.not_le.2 h)
      · exact h hx
    · exact congrArg (fun l => l.any fun y => decide (y.rq = rq)) hsessions
  · exact leaves_level0Release (hrelease ho ha) (by decide) rfl hstill (hsleep ha)
  · exact leaves_level0Release (hrelease ho ha) (by decide) rfl hstill (hsleep ha)
  · exact leaves_of_becomes hready hstill (becomes_of_onStrand hready (sessionIdleOp_of_idle hx ht) rfl)
  · exact leaves_of_becomes hready hstill (becomes_of_onStrand hready (sessionIdleOp_of_used hx ht) rfl)
  · exact leaves_of_becomes hready hstill (becomes_of_onStrand hready (lockoutExpireOp_of_end hl ht) rfl)
  · exact leaves_of_becomes hready hstill (becomes_of_onStrand hready (lockoutExpireOp_before hl ht) rfl)

end Sys2Proof.Machine

/-! PROOFS. Requests on the Lanyard and frames of the debug port (R357 to R359, R438). -/

/-! ### The answer to a request -/

namespace Sys2Proof.Machine

section

variable {g : Pkg} {d : Strand} {a : Ask} {r : DictRow} {x : Pkg × Strand} {c : Nat} {data : List Byte}

theorem lydSend_still (g : Pkg) (d : Strand) (port : Nat) (b : List Byte) : (lydSend g d port b).still = d.still := by
  unfold lydSend
  split <;> rfl

theorem lydSend_sleep (g : Pkg) (d : Strand) (port : Nat) (b : List Byte) : (lydSend g d port b).sleep = d.sleep := by
  unfold lydSend
  split <;> rfl

/-- The response of a request leaves by the port of its arrival, and the requester's entry keeps it. -/
theorem deliver_on_lanyard (hp : a.port ≤ 1) (ht : a.f.type ≠ 4) (g : Pkg) (d : Strand) (c : Nat) (data : List Byte) :
    deliver g d a c data =
      (g, lydSend g
        { d with mgmt := { d.mgmt with
          table := tableKeep d.mgmt.table a.rq a.f.seq (lydBytes (responseTo g d a.f c data)) } }
        a.port (lydBytes (responseTo g d a.f c data))) := (if_pos hp).trans (if_neg ht)

theorem deliver_still (hp : a.port ≤ 1) (ht : a.f.type ≠ 4) : (deliver g d a c data).2.still = d.still := by
  rw [deliver_on_lanyard hp ht]
  exact lydSend_still _ _ _ _

theorem deliver_sleep (hp : a.port ≤ 1) (ht : a.f.type ≠ 4) : (deliver g d a c data).2.sleep = d.sleep := by
  rw [deliver_on_lanyard hp ht]
  exact lydSend_sleep _ _ _ _

theorem deliver_pkg (hp : a.port ≤ 1) (ht : a.f.type ≠ 4) : deliver g d a c data = (g, (deliver g d a c data).2) := by
  rw [deliver_on_lanyard hp ht]

/-- The response to the debug port is left in the debug register. -/
theorem deliver_to_debug (hp : a.port = 2) (g : Pkg) (d : Strand) (c : Nat) (data : List Byte) :
    deliver g d a c data = ({ g with dbgReg := lydBytes (responseTo g d a.f c data) }, d) :=
  (if_neg (by omega)).trans (if_pos hp)

theorem perform_read (ht : a.f.type = 1) (g : Pkg) (d : Strand) (r : DictRow) :
    perform g d a r = (g, readGranted g d a.rq r a.f.index a.f.subindex a.f.len) := if_pos ht

theorem perform_describe (ht : a.f.type = 3) (g : Pkg) (d : Strand) (r : DictRow) :
    perform g d a r = (g, d.answerData (describeBytes d r a.f.index a.f.subindex)) :=
  (if_neg (by omega)).trans (if_pos ht)

/-- A write that is answered at once. -/
theorem perform_write (ht : a.f.type = 2) (hx : writeGranted g d a.rq r a.f.index a.f.subindex a.f.payload = x)
    (hc : x.2.resp.code ≠ 0xFF) : perform g d a r = x := by
  subst hx
  exact (if_neg (by omega)).trans ((if_neg (by omega)).trans (if_neg fun h => hc h.1))

end

end Sys2Proof.Machine

/-! ### The requester table (R359) -/

namespace Sys2Proof.Machine

section

variable {g : Pkg} {d : Strand} {f : LydFrame} {rq : Requester} {x : Pkg × Strand} {e : ReqEntry} {port seq : Nat}

theorem endSessions_of_evicted (l : List ReqEntry) (d : Strand) :
    ∃ ss, l.foldl (fun (d : Strand) e => d.endSession e.rq) d = { d with mgmt := { d.mgmt with sessions := ss } } := by
  induction l generalizing d with
  | nil => exact ⟨d.mgmt.sessions, rfl⟩
  | cons a l ih =>
    obtain ⟨ss, hss⟩ := ih (d.endSession a.rq)
    exact ⟨ss, hss⟩

/-- A new request changes the table and may end the session of a requester that is evicted. -/
theorem tableTake_eq (d : Strand) (rq : Requester) (seq : Nat) :
    ∃ t ss, tableTake d rq seq = { d with mgmt := { d.mgmt with table := t, sessions := ss } } := by
  obtain ⟨ss, hss⟩ := endSessions_of_evicted _ _
  exact ⟨_, ss, hss⟩

theorem tableTake_still (d : Strand) (rq : Requester) (seq : Nat) : (tableTake d rq seq).still = d.still := by
  obtain ⟨t, ss, h⟩ := tableTake_eq d rq seq
  rw [h]
  rfl

theorem tableTake_sleep (d : Strand) (rq : Requester) (seq : Nat) : (tableTake d rq seq).sleep = d.sleep := by
  obtain ⟨t, ss, h⟩ := tableTake_eq d rq seq
  rw [h]
  rfl

theorem tableTake_mustWait (d : Strand) (rq : Requester) (seq index sub : Nat) :
    mustWait (tableTake d rq seq) index sub = mustWait d index sub := by
  obtain ⟨t, ss, h⟩ := tableTake_eq d rq seq
  rw [h]
  rfl

/-- A request is new: its requester has no entry, or it is ahead of the one that the entry shows. -/
def RequestNew (d : Strand) (f : LydFrame) : Prop := ∀ e ∈ d.mgmt.table, e.rq = frameRequester f →
  serialSub 16 f.seq e.seq ≠ 0 ∧ serialSub 16 f.seq e.seq ≤ 32767

theorem requestOp_of_other_node (h : takesIn g d f = false) : requestOp g d port f = (g, d) := if_neg (by simp [h])

theorem requestOp_of_new (h : takesIn g d f = true) (hn : RequestNew d f) :
    requestOp g d port f = requestNew g d port f := by
  rw [requestOp, if_pos h]
  split
  next => rfl
  next e he =>
    obtain ⟨h0, hle⟩ := hn e (List.mem_of_find?_eq_some he) (by simpa using List.find?_some he)
    rw [if_neg h0, if_pos hle]

/-- The entry of a frame's requester. -/
def entryOf (d : Strand) (f : LydFrame) : Option ReqEntry :=
  d.mgmt.table.find? fun e => decide (e.rq = frameRequester f)

theorem serialSub_self (seq : Nat) : serialSub 16 seq seq = 0 := by
  unfold serialSub
  omega

theorem requestOp_of_again (h : takesIn g d f = true) (he : entryOf d f = some e) (hs : f.seq = e.seq) :
    requestOp g d port f = (g, requestAgain g d port e) := by
  unfold entryOf at he
  rw [requestOp, if_pos h, he]
  exact if_pos (hs ▸ serialSub_self e.seq)

theorem requestOp_of_stale (h : takesIn g d f = true) (he : entryOf d f = some e)
    (hs : 32767 < serialSub 16 f.seq e.seq) : requestOp g d port f = (g, requestStale d port) := by
  unfold entryOf at he
  rw [requestOp, if_pos h, he]
  exact (if_neg (by omega)).trans (if_neg (by omega))

/-- The strand with an entry as the most recent. -/
def entryFirst (d : Strand) (e : ReqEntry) : Strand :=
  { d with mgmt := { d.mgmt with table := e :: d.mgmt.table.erase e } }

theorem requestAgain_of_response (h : e.resp ≠ []) :
    requestAgain g d port e = (lydSend g (entryFirst d e) port e.resp).bump 0x1141 0x06 1 := if_neg (by simpa using h)

theorem requestAgain_of_none (h : e.resp = []) : requestAgain g d port e = entryFirst d e := if_pos (by simp [h])

theorem requestStale_of_done (h : d.flt.onceDone.contains 0xA6 = true) (port : Nat) :
    requestStale d port = d.bump 0x1141 0x05 1 := if_pos h

theorem requestNew_of_full (h : lydFull d f = true) : requestNew g d port f = (g, d.bump 0x1141 0x07 1) := if_pos h

/-- The request of a frame that a port brings. -/
def frameAsk (port : Nat) (f : LydFrame) : Ask := { port := port, rq := frameRequester f, f := f }

/-- A new request that is answered at once. -/
theorem requestNew_of_answer (h : lydFull d f = false)
    (hx : accessOp g (tableTake d (frameRequester f) f.seq) (frameAsk port f) = x) (hc : x.2.resp.code ≠ 0xFF) :
    requestNew g d port f = deliver x.1 x.2 (frameAsk port f) x.2.resp.code x.2.resp.data := by
  subst hx
  exact (if_neg (by simp [h])).trans (if_neg hc)

end

end Sys2Proof.Machine

/-! ### The commands -/

namespace Sys2Proof.Machine

section

variable {s : State} {w : At} {i : Instr} {g : Pkg} {d e : Strand} {f : LydFrame} {r : DictRow} {port c : Nat}
  {x : Pkg × Strand}

/-- A command in which a port brings a request. -/
def Brings (i : Instr) (w : At) (port : Nat) (f : LydFrame) : Prop :=
  i = .read w port f ∧ f.type = 1 ∨ i = .lanyardWrite w port f ∧ f.type = 2 ∨ i = .describe w port f ∧ f.type = 3

theorem frame_with_type {type : Nat} (h : f.type = type) : { f with type := type } = f := by
  subst h
  rfl

/-- What a request leaves, where it leaves the part without anything for the collector. -/
theorem leavesPart_of_request (hi : Brings i w port f) (hready : s.ready = true) (ha : s.awake = true)
    (hop : requestOp { s.pkg with out := [] } (s.found w) port f = (g, e)) (hn : g.newId = none) (hs : e.still = true)
    (hw : f.type = 2 → g.domain 0x40 ≠ 0 ∧ g.domain 0x41 ≠ 0 ∧ e.sleep = 0) : LeavesPart i s w g e := by
  rcases hi with ⟨rfl, ht⟩ | ⟨rfl, ht⟩ | ⟨rfl, ht⟩
  · refine leavesPart_of_becomesPart hready hs hn (becomesPart_of_onPart hready ?_ rfl)
    rwa [frame_with_type ht]
  · obtain ⟨h40, h41, hz⟩ := hw ht
    refine leavesPart_of_shareDomains hready ha ?_ hn h40 h41 hs hz rfl
    rwa [frame_with_type ht]
  · refine leavesPart_of_becomesPart hready hs hn (becomesPart_of_onPart hready ?_ rfl)
    rwa [frame_with_type ht]

/-- The same for one that leaves the package alone. -/
theorem leaves_of_request (hi : Brings i w port f) (hready : s.ready = true) (ha : s.awake = true)
    (hop : requestOp { s.pkg with out := [] } (s.found w) port f = ({ s.pkg with out := [] }, e)) (hs : e.still = true)
    (hz : f.type = 2 → e.sleep = 0) : Leaves i s w e := by
  obtain ⟨-, h40, h41⟩ := (awake_iff s).1 ha
  exact leavesPart_of_request hi hready ha hop ((ready_iff s).1 hready).2.1 hs fun ht => ⟨h40, h41, hz ht⟩

/-- What a stale request leaves to the collector where it writes nothing. -/
theorem becomes_of_request (hi : Brings i w port f) (ht : f.type ≠ 2) (hready : s.ready = true)
    (hop : requestOp { s.pkg with out := [] } (s.found w) port f = ({ s.pkg with out := [] }, e)) : Becomes i s w e := by
  rcases hi with ⟨rfl, h⟩ | ⟨rfl, h⟩ | ⟨rfl, h⟩
  · refine becomesPart_of_onPart hready ?_ rfl
    rwa [frame_with_type h]
  · exact absurd h ht
  · refine becomesPart_of_onPart hready ?_ rfl
    rwa [frame_with_type h]

theorem Brings.type_ne (hi : Brings i w port f) : f.type ≠ 4 := by
  rcases hi with ⟨-, h⟩ | ⟨-, h⟩ | ⟨-, h⟩ <;> omega

/-- The strand as the access of a new request finds it. -/
def requestTaken (d : Strand) (f : LydFrame) : Strand := tableTake d (frameRequester f) f.seq

theorem answerData_accepted {data : List Byte} : (d.answerData data).resp.code ≠ 0xFF :=
  (by decide : (0x00 : Nat) ≠ 0xFF)

/-- A new request that the node can take in. -/
structure Admitted (g : Pkg) (d : Strand) (f : LydFrame) : Prop where
  taken : takesIn g d f = true
  new : RequestNew d f
  room : lydFull d f = false

theorem requestOp_of_answer (h : Admitted g d f) (hx : accessOp g (requestTaken d f) (frameAsk port f) = x)
    (hc : x.2.resp.code ≠ 0xFF) :
    requestOp g d port f = deliver x.1 x.2 (frameAsk port f) x.2.resp.code x.2.resp.data :=
  (requestOp_of_new h.taken h.new).trans (requestNew_of_answer h.room hx hc)

/-- A new request that is answered at once, and leaves the package alone. -/
theorem leaves_of_answer (hi : Brings i w port f) (hp : port ≤ 1) (hready : s.ready = true) (ha : s.awake = true)
    (h : Admitted { s.pkg with out := [] } (s.found w) f)
    (hx : accessOp { s.pkg with out := [] } (requestTaken (s.found w) f) (frameAsk port f) =
      ({ s.pkg with out := [] }, e))
    (hc : e.resp.code ≠ 0xFF) (hs : e.still = true) (hz : f.type = 2 → e.sleep = 0) :
    Leaves i s w (deliver { s.pkg with out := [] } e (frameAsk port f) e.resp.code e.resp.data).2 := by
  have hop := requestOp_of_answer h hx hc
  exact leaves_of_request hi hready ha (hop.trans (deliver_pkg hp hi.type_ne)) ((deliver_still hp hi.type_ne).trans hs)
    fun ht => (deliver_sleep hp hi.type_ne).trans (hz ht)

theorem leavesPart_of_answer (hi : Brings i w port f) (hp : port ≤ 1) (hready : s.ready = true) (ha : s.awake = true)
    (h : Admitted { s.pkg with out := [] } (s.found w) f)
    (hx : accessOp { s.pkg with out := [] } (requestTaken (s.found w) f) (frameAsk port f) = x)
    (hc : x.2.resp.code ≠ 0xFF) (hn : x.1.newId = none) (h40 : x.1.domain 0x40 ≠ 0) (h41 : x.1.domain 0x41 ≠ 0)
    (hs : x.2.still = true) (hz : x.2.sleep = 0) :
    LeavesPart i s w x.1 (deliver x.1 x.2 (frameAsk port f) x.2.resp.code x.2.resp.data).2 := by
  have hop := requestOp_of_answer h hx hc
  exact leavesPart_of_request hi hready ha (hop.trans (deliver_pkg hp hi.type_ne)) hn
    ((deliver_still hp hi.type_ne).trans hs) fun _ => ⟨h40, h41, (deliver_sleep hp hi.type_ne).trans hz⟩

theorem requestTaken_turn (h : mustWait d f.index f.subindex = false)
    (hr : arriveAs (requestTaken d f) (frameRequester f) f.type f.index f.subindex = .ok r) (g : Pkg) (port : Nat) :
    accessOp g (requestTaken d f) (frameAsk port f) = perform g (requestTaken d f) (frameAsk port f) r :=
  accessOp_of_turn (a := frameAsk port f) hr ((tableTake_mustWait _ _ _ _ _).trans h) g

/-- The answer to a DESCRIBE does not depend on the requester table. -/
theorem perform_describe_taken (ht : f.type = 3) (g : Pkg) (d : Strand) (port : Nat) (r : DictRow) :
    perform g (requestTaken d f) (frameAsk port f) r =
      (g, (requestTaken d f).answerData (describeBytes d r f.index f.subindex)) := by
  have hid : describeBytes (requestTaken d f) r f.index f.subindex = describeBytes d r f.index f.subindex := by
    obtain ⟨t, ss, h⟩ := tableTake_eq d (frameRequester f) f.seq
    rw [requestTaken, h]
    rfl
  rw [perform_describe ht, ← hid]
  rfl

/-! #### The debug port (R438) -/

/-- The request of a frame of the debug port. -/
def debugAsk (f : LydFrame) : Ask := { port := 2, rq := .dbg, f := f }

/-- The package after a frame has been shifted in: the frame instruction stands, and the register is as `b`. -/
def debugTaken (g : Pkg) (b : List Byte) : Pkg := { g with jtagIr := 0x3A, dbgReg := b }

/-- A frame of the debug port reaches a strand: the port has power, and the strand's sage runs. -/
structure DebugReaches (g : Pkg) (d : Strand) (f : LydFrame) : Prop where
  power : g.domain 0x43 = 2
  strand : f.dstStrand = d.id.num
  sage : d.sageUp = true

theorem dbgFrameOp_of_other (h : g.domain 0x43 ≠ 2 ∨ f.dstStrand ≠ d.id.num ∨ d.sageUp = false) :
    dbgFrameOp g d f = ({ g with jtagIr := 0x3A }, d) := if_pos h

theorem dbgFrameOp_of_reaches (h : DebugReaches g d f) : dbgFrameOp g d f =
    if f.resp ∨ (f.type ≠ 1 ∧ f.type ≠ 2 ∧ f.type ≠ 3) then (debugTaken g [], d)
    else
      let x := accessOp (debugTaken g []) d (debugAsk f)
      if x.2.resp.code = 0xFF then x else deliver x.1 x.2 (debugAsk f) x.2.resp.code x.2.resp.data :=
  if_neg (by simp [h.power, h.strand, h.sage])

theorem dbgFrameOp_of_no_request (h : DebugReaches g d f) (hf : f.resp = true ∨ f.type = 0 ∨ 4 ≤ f.type) :
    dbgFrameOp g d f = (debugTaken g [], d) :=
  (dbgFrameOp_of_reaches h).trans (if_pos (hf.imp_right fun ht => by omega))

theorem dbgFrameOp_of_answer (h : DebugReaches g d f) (hresp : f.resp = false)
    (ht : f.type = 1 ∨ f.type = 2 ∨ f.type = 3) (hx : accessOp (debugTaken g []) d (debugAsk f) = x)
    (hc : x.2.resp.code ≠ 0xFF) : dbgFrameOp g d f =
      ({ x.1 with dbgReg := lydBytes (responseTo x.1 x.2 f x.2.resp.code x.2.resp.data) }, x.2) := by
  subst hx
  have hreq : ¬(f.resp = true ∨ (f.type ≠ 1 ∧ f.type ≠ 2 ∧ f.type ≠ 3)) := by
    rw [hresp]
    simp only [Bool.false_eq_true, false_or]
    omega
  exact (dbgFrameOp_of_reaches h).trans ((if_neg hreq).trans ((if_neg hc).trans (deliver_to_debug rfl _ _ _ _)))

theorem leavesPart_dbgFrame (hready : s.ready = true) (ha : s.awake = true)
    (hop : dbgFrameOp { s.pkg with out := [] } (s.found w) f = (g, e)) (hn : g.newId = none) (h40 : g.domain 0x40 ≠ 0)
    (h41 : g.domain 0x41 ≠ 0) (hs : e.still = true) (hz : e.sleep = 0) : LeavesPart (.dbgFrame w f) s w g e :=
  leavesPart_of_shareDomains hready ha hop hn h40 h41 hs hz rfl

end

/-- Settles O44: the requester's entry decides what a request of the Lanyard is, and its access or the stored response
what it is answered. -/
theorem lanyardRequests : Obligations.LanyardRequests := by
  refine ⟨fun s w port type f i hready ha htype hi => ?_, fun s w f hready ha => ?_⟩
  · subst htype
    intro d g rq a isNew hp
    replace hi : Brings i w port f := hi
    have hstill : d.still = true := ready_still hready w.k
    have hsleep : d.sleep = 0 := ((awake_iff s).1 ha).1 w.k
    have hbump (t : Nat) (ht : t < 256) (e : Strand) : (e.bump 0x1141 t 1).sleep = e.sleep :=
      e.get_put_other _ (locKey_ne (by decide) ht (.inl (by decide)))
    have htaken : (requestTaken d f).still = true := (tableTake_still _ _ _).trans hstill
    have htaken' : (requestTaken d f).sleep = 0 := (tableTake_sleep _ _ _).trans hsleep
    refine ⟨fun h => ?_, fun h hnew hfull => ?_, fun c h hnew hfull hc herr => ?_,
      fun r h hnew hfull hw hr => ⟨fun ht => ?_, fun ht => ?_, fun ht => ?_⟩, fun e h he => ?_⟩
    · exact leaves_of_request hi hready ha (requestOp_of_other_node h) hstill fun _ => hsleep
    · exact leaves_of_request hi hready ha ((requestOp_of_new h hnew).trans (requestNew_of_full hfull)) hstill
        fun _ => (hbump 7 (by decide) d).trans hsleep
    · exact leaves_of_answer hi hp hready ha ⟨h, hnew, hfull⟩ (accessOp_of_error (a := frameAsk port f) herr g) hc htaken
        fun _ => htaken'
    · refine leaves_of_answer hi hp hready ha ⟨h, hnew, hfull⟩
        ((requestTaken_turn hw hr g port).trans (perform_describe_taken ht g d port r)) answerData_accepted htaken
        fun h2 => ?_
      omega
    · intro e hc hs
      refine leaves_of_answer hi hp hready ha ⟨h, hnew, hfull⟩
        ((requestTaken_turn hw hr g port).trans (perform_read ht _ _ _)) hc hs fun h2 => ?_
      omega
    · intro x hc hn h40 h41 hs hz
      exact leavesPart_of_answer hi hp hready ha ⟨h, hnew, hfull⟩
        ((requestTaken_turn hw hr g port).trans (perform_write ht rfl hc)) hc hn h40 h41 hs hz
    · intro again
      refine ⟨fun hs hlt hresp => ?_, fun hs hlt hresp => ?_, fun hs hdone => ?_, fun hs ht => ?_⟩
      · refine leaves_of_request hi hready ha ((requestOp_of_again h he hs).trans
          (congrArg (Prod.mk g) (requestAgain_of_response hresp))) ((lydSend_still _ _ _ _).trans hstill) fun _ => ?_
        exact (hbump 6 (by decide) _).trans ((lydSend_sleep _ _ _ _).trans hsleep)
      · exact leaves_of_request hi hready ha ((requestOp_of_again h he hs).trans
          (congrArg (Prod.mk g) (requestAgain_of_none hresp))) hstill fun _ => hsleep
      · exact leaves_of_request hi hready ha ((requestOp_of_stale h he hs).trans
          (congrArg (Prod.mk g) (requestStale_of_done hdone port))) hstill fun _ => (hbump 5 (by decide) d).trans hsleep
      · exact becomes_of_request hi ht hready (requestOp_of_stale h he hs)
  · intro d g a
    have hstill : d.still = true := ready_still hready w.k
    obtain ⟨hsl, h40, h41⟩ := (awake_iff s).1 ha
    have hsleep : d.sleep = 0 := hsl w.k
    have hnew : s.pkg.newId = none := ((ready_iff s).1 hready).2.1
    refine ⟨fun h => ?_, fun hpow hdst hsage => ⟨fun hf => ?_, fun c hresp ht hc herr => ?_, fun r hresp ht hr hw => ?_⟩⟩
    · exact leavesPart_dbgFrame hready ha (dbgFrameOp_of_other h) hnew h40 h41 hstill hsleep
    · exact leavesPart_dbgFrame hready ha (dbgFrameOp_of_no_request ⟨hpow, hdst, hsage⟩ hf) hnew h40 h41 hstill hsleep
    · have hop := dbgFrameOp_of_answer (g := { s.pkg with out := [] }) ⟨hpow, hdst, hsage⟩ hresp ht
        (accessOp_of_error (a := debugAsk f) herr _) hc
      exact leavesPart_dbgFrame hready ha hop hnew h40 h41 hstill hsleep
    · intro x hc hn h40' h41' hs hz
      have hop := dbgFrameOp_of_answer (g := { s.pkg with out := [] }) ⟨hpow, hdst, hsage⟩ hresp ht
        (accessOp_of_turn (a := debugAsk f) hr hw _) hc
      exact leavesPart_dbgFrame hready ha hop hn h40' h41' hs hz

end Sys2Proof.Machine

/-! PROOFS. The fault collector: the order of a sample and the records of a capture (R384 to R386, R391). -/

namespace Sys2Proof.Machine

/-- Settles O51: the rails are in ascending order, and so is what the sample takes of them. -/
theorem faultOrder : Obligations.FaultOrder := by
  intro g d hrails
  refine ⟨⟨d.flt.rails.filter fun f => sampledSource g d f.1 f.2, ?_, fun f => List.mem_filter, rfl⟩,
    fun src inst => ⟨?_, addRail_mem src (inst % 65536) d.flt.rails⟩⟩
  · simp only [railsOk, Bool.and_eq_true, decide_eq_true_eq] at hrails
    exact hrails.1.filter _
  · exact addRail_ok src (inst % 65536) (Nat.mod_lt _ (by decide)) hrails

end Sys2Proof.Machine

/-! ### Bits of a location -/

namespace Sys2Proof.Machine

section

variable {d : Strand} {index sub i j v w : Nat}

theorem bit_eq_testBit (v i : Nat) : bit v i = v.testBit i := by
  rw [bit, bits, pow_one, Nat.testBit_eq_decide_div_mod_eq]

theorem setBit_true (v i : Nat) : setBit v i true = if bit v i then v else 2 ^ i + v := by
  have hbits : bits v i 1 = 0 ∨ bits v i 1 = 1 := Nat.mod_two_eq_zero_or_one _
  unfold setBit setBits bit b2n
  rcases hbits with hbit | hbit
  · simp [hbit, Nat.add_comm]
  · have hle : 2 ^ i ≤ v := by
      refine Nat.ge_two_pow_of_testBit ?_
      rw [← bit_eq_testBit, bit, hbit]
      rfl
    simp only [hbit, if_true, decide_true]
    omega

theorem bit_setBit_same (v i : Nat) : bit (setBit v i true) i = true := by
  rw [setBit_true]
  split
  case isTrue h => exact h
  case isFalse h => simpa [bit_eq_testBit, Nat.testBit_two_pow_add_eq] using h

theorem bit_setBit_lower (h : j < i) (v : Nat) : bit (setBit v i true) j = bit v j := by
  rw [setBit_true]
  split
  · rfl
  · rw [bit_eq_testBit, bit_eq_testBit, Nat.testBit_two_pow_add_gt h]

theorem bit_mod (h : i < w) (v : Nat) : bit (v % 2 ^ w) i = bit v i := by
  simp [bit_eq_testBit, h]

theorem getBit_putBit_same (hd : d.regsOk = true) (hw : dictWidth (locKey index sub) = w) (hi : i < w) :
    (d.putBit index sub i true).getBit index sub i = true := by
  rw [Strand.getBit, Strand.putBit, Strand.get_put_same hd, hw, bit_mod hi, bit_setBit_same]

theorem getBit_putBit_lower (hd : d.regsOk = true) (hw : dictWidth (locKey index sub) = w) (h : j < i) (hi : i < w) :
    (d.putBit index sub i true).getBit index sub j = d.getBit index sub j := by
  rw [Strand.getBit, Strand.putBit, Strand.get_put_same hd, hw, bit_mod (h.trans hi), bit_setBit_lower h]
  rfl

end

end Sys2Proof.Machine

/-! ### What a capture records -/

namespace Sys2Proof.Machine

section

variable {g : Pkg} {d : Strand} {k : Taken} {src inst grp own index sub : Nat} {esc : Bool}

/-- The strand with a capture counted, and its free time drawn. -/
def tallied (d : Strand) (src : Nat) : Strand := (d.bump 0x2830 src 1).freeNat.2

/-- The severity of a capture is escalated: the source's own is above INFO and its group is PENDING. -/
def escalated (d : Strand) (src own : Nat) : Bool := decide (own ≠ 0) && d.getBit 0x2801 (src / 16) 0

/-- The severity of a capture. -/
def takenSeverity (d : Strand) (src own : Nat) : Nat := if escalated d src own then min 3 (own + 1) else own

/-- What a capture makes of a source of severity `own`, at `time`. -/
def takenAt (d : Strand) (src inst own time : Nat) : Taken :=
  ⟨src, inst, takenSeverity d src own, escalated d src own, reactByte d src (takenSeverity d src own),
    recordEpoch d src time, time⟩

/-- The group's status after a capture. -/
def groupMarked (d : Strand) (grp own : Nat) (esc : Bool) : Strand :=
  let d := if own ≠ 0 then d.putBit 0x2801 grp 0 true else d
  if esc then d.putBit 0x2801 grp 2 true else d

theorem capture_of_bad_wire (h : bit (d.get 0x2810 src) 3 = true) : capture g d (src, inst) = d := if_pos h

theorem capture_of_masked (h : bit (d.get 0x2810 src) 3 = false) (hm : bit (d.get 0x2810 src) 2 = true) :
    capture g d (src, inst) = d.bump 0x2830 src 1 := (if_neg (by simp [h])).trans (if_pos hm)

/-- The capture of a source that is not masked, in steps. -/
theorem capture_of_taken (h : bit (d.get 0x2810 src) 3 = false) (hm : bit (d.get 0x2810 src) 2 = false) :
    let own := bits (d.get 0x2810 src) 0 2
    let k := takenAt (tallied d src) src inst own (d.now + d.freeNat.1 % (nsTime 977 + 1))
    capture g d (src, inst) = react g (groupMarked (recordFault (tallied d src) k) (src / 16) own k.esc) k :=
  (if_neg (by simp [h])).trans (if_neg (by simp [hm]))

theorem tallied_get (h : index ≠ 0x2830) (hs : sub < 256) (hsrc : src < 192) :
    (tallied d src).get index sub = d.get index sub :=
  d.get_put_other _ (locKey_ne hs (by omega) (.inl h))

theorem dictWidth_faultCount (h : src < 192) : dictWidth (locKey 0x2830 src) = 32 := by
  have hr : dictFind 0x2830 src = some ⟨0x2830, 0x2830, 0x00, 0xbf, 3, 4, 0, 3, 0, false, 0x0⟩ :=
    dictFind_of_indexRow (lo := 0x2830) (hi := 0x2830) (by decide +kernel) (Nat.le_refl _) (Nat.le_refl _) (Nat.le_refl _)
      (Nat.le_refl _) (Nat.zero_le _) (by dsimp only; omega)
  have hi : locKey 0x2830 src / 256 = 0x2830 := by unfold locKey; omega
  have hs : locKey 0x2830 src % 256 = src := by unfold locKey; omega
  rw [dictWidth, hi, hs, hr]
  rfl

theorem tallied_count (hd : d.regsOk = true) (h : src < 192) :
    (tallied d src).get 0x2830 src = min (d.get 0x2830 src + 1) (2 ^ 32 - 1) :=
  get_bump_same hd (dictWidth_faultCount h)

theorem tallied_regsOk (hd : d.regsOk = true) : (tallied d src).regsOk = true := Strand.put_regsOk hd _ _ _

/-! #### Records -/

theorem dictWidth_faultFirst : dictWidth (locKey 0x2800 0x01) = 256 := by decide +kernel

theorem dictWidth_faultLast : dictWidth (locKey 0x2800 0x02) = 256 := by decide +kernel

theorem recordFault_regsOk (hd : d.regsOk = true) : (recordFault d k).regsOk = true := by
  have hlast := Strand.put_regsOk hd 0x2800 0x02 (faultRecord d k)
  unfold recordFault
  dsimp only
  split_ifs
  · exact hlast
  · exact Strand.put_regsOk hlast _ _ _
  · exact Strand.put_regsOk hlast _ _ _

theorem recordFault_get (h : index ≠ 0x2800) (hs : sub < 256) : (recordFault d k).get index sub = d.get index sub := by
  have hput (e : Strand) (t v : Nat) (ht : t < 256) : (e.put 0x2800 t v).get index sub = e.get index sub :=
    e.get_put_other v (locKey_ne hs ht (.inl h))
  unfold recordFault
  dsimp only [Strand.putBit]
  split_ifs
  · exact hput _ _ _ (by decide)
  · exact (hput _ _ _ (by decide)).trans (hput _ _ _ (by decide))
  · exact (hput _ _ _ (by decide)).trans (hput _ _ _ (by decide))

theorem recordFault_last (hd : d.regsOk = true) : (recordFault d k).get 0x2800 0x02 = faultRecord d k % 2 ^ 256 := by
  have hlast : (d.put 0x2800 0x02 (faultRecord d k)).get 0x2800 0x02 = faultRecord d k % 2 ^ 256 := by
    rw [Strand.get_put_same hd, dictWidth_faultLast]
  have hfirst (e : Strand) (v : Nat) : (e.put 0x2800 0x01 v).get 0x2800 0x02 = e.get 0x2800 0x02 :=
    e.get_put_other v (by decide)
  unfold recordFault
  dsimp only [Strand.putBit]
  split_ifs
  · exact hlast
  · exact (hfirst _ _).trans hlast
  · exact (hfirst _ _).trans hlast

theorem put_last_first (d : Strand) (v : Nat) : (d.put 0x2800 0x02 v).get 0x2800 0x01 = d.get 0x2800 0x01 :=
  d.get_put_other v (by decide)

theorem recordFault_first_of_info (h : k.sev = 0) : (recordFault d k).get 0x2800 0x01 = d.get 0x2800 0x01 := by
  rw [recordFault, if_pos h, put_last_first]

theorem recordFault_first_of_empty (hd : d.regsOk = true) (h : k.sev ≠ 0) (hempty : d.getBit 0x2800 0x01 11 = false) :
    (recordFault d k).get 0x2800 0x01 = faultRecord d k % 2 ^ 256 := by
  rw [recordFault, if_neg h, if_neg (by rw [Strand.getBit, put_last_first]; exact Bool.eq_false_iff.1 hempty),
    Strand.get_put_same (Strand.put_regsOk hd _ _ _), dictWidth_faultFirst]

theorem recordFault_overflow (hd : d.regsOk = true) (h : k.sev ≠ 0) (hfull : d.getBit 0x2800 0x01 11 = true) :
    (recordFault d k).getBit 0x2800 0x01 12 = true := by
  rw [recordFault, if_neg h, if_pos (by rw [Strand.getBit, put_last_first]; exact hfull)]
  exact getBit_putBit_same (Strand.put_regsOk hd _ _ _) dictWidth_faultFirst (by decide)

/-! #### The group -/

theorem dictWidth_group (h : grp < 12) : dictWidth (locKey 0x2801 grp) = 8 := by
  have hr : dictFind 0x2801 grp = some ⟨0x2801, 0x2801, 0x00, 0x0b, 1, 1, 3, 2, 0, false, 0x0⟩ :=
    dictFind_of_indexRow (lo := 0x2801) (hi := 0x2801) (by decide +kernel) (Nat.le_refl _) (Nat.le_refl _) (Nat.le_refl _)
      (Nat.le_refl _) (Nat.zero_le _) (by dsimp only; omega)
  have hi : locKey 0x2801 grp / 256 = 0x2801 := by unfold locKey; omega
  have hs : locKey 0x2801 grp % 256 = grp := by unfold locKey; omega
  rw [dictWidth, hi, hs, hr]
  rfl

theorem groupMarked_get (h : index ≠ 0x2801) (hs : sub < 256) (hg : grp < 12) :
    (groupMarked d grp own esc).get index sub = d.get index sub := by
  have hput (e : Strand) (i : Nat) : (e.putBit 0x2801 grp i true).get index sub = e.get index sub :=
    e.get_put_other _ (locKey_ne hs (by omega) (.inl h))
  unfold groupMarked
  dsimp only
  split_ifs
  · exact (hput _ _).trans (hput _ _)
  · exact hput _ _
  · exact hput _ _
  · rfl

theorem groupMarked_of_info (h : own = 0) (k : Taken) :
    groupMarked (recordFault d k) (src / 16) own (escalated d src own) = recordFault d k := by
  subst h
  rfl

theorem groupMarked_pending (hd : d.regsOk = true) (hg : grp < 12) (h : own ≠ 0) :
    (groupMarked d grp own esc).getBit 0x2801 grp 0 = true := by
  have hpending := getBit_putBit_same (i := 0) hd (dictWidth_group hg) (by decide)
  rw [groupMarked, if_pos h]
  cases esc
  · exact hpending
  · exact (getBit_putBit_lower (Strand.put_regsOk hd _ _ _) (dictWidth_group hg) (by decide) (by decide)).trans hpending

theorem takenSeverity_eq_zero : takenSeverity d src own = 0 ↔ own = 0 := by
  unfold takenSeverity
  split
  case isTrue h =>
    have hown : own ≠ 0 := by
      simp only [escalated, Bool.and_eq_true, decide_eq_true_eq] at h
      exact h.1
    omega
  case isFalse => rfl

end

/-- Settles O50: a capture counts, records and marks the group, in this order, before its reactions. -/
theorem collectorRecords : Obligations.CollectorRecords := by
  intro g d src inst hsrc hd cfg w
  refine ⟨capture_of_bad_wire, capture_of_masked, fun hwire hmask => ?_⟩
  intro grp own esc
  have hgrp : grp < 12 := by omega
  have hpending : (tallied d src).getBit 0x2801 grp 0 = d.getBit 0x2801 grp 0 :=
    congrArg (bit · 0) (tallied_get (by decide) (by omega) hsrc)
  have hesc : escalated (tallied d src) src own = true ↔ own ≠ 0 ∧ d.getBit 0x2801 grp 0 = true := by
    rw [escalated, hpending, Bool.and_eq_true, decide_eq_true_eq]
  have hfirst : (tallied d src).get 0x2800 0x01 = d.get 0x2800 0x01 := tallied_get (by decide) (by decide) hsrc
  have hok : (tallied d src).regsOk = true := tallied_regsOk hd
  refine ⟨takenAt (tallied d src) src inst own (d.now + w % (nsTime 977 + 1)), rfl, rfl, ?_, hesc, rfl, rfl, _,
    capture_of_taken hwire hmask, ?_, ?_, fun hown => ?_, fun hown => ?_, fun hown => ?_, fun hown hempty => ?_,
    fun hown hfull => ?_⟩
  · simp only [takenAt, takenSeverity, hesc, and_comm]
  · rw [groupMarked_get (by decide) (by omega) hgrp, recordFault_get (by decide) (by omega), tallied_count hd hsrc]
  · rw [groupMarked_get (by decide) (by decide) hgrp, recordFault_last hok]
    rfl
  · exact groupMarked_pending (recordFault_regsOk hok) hgrp hown
  · rw [takenAt, groupMarked_of_info hown, recordFault_get (by decide) (by omega),
      tallied_get (by decide) (by omega) hsrc]
  · rw [groupMarked_get (by decide) (by decide) hgrp, recordFault_first_of_info (takenSeverity_eq_zero.2 hown), hfirst]
  · rw [groupMarked_get (by decide) (by decide) hgrp,
      recordFault_first_of_empty hok (mt takenSeverity_eq_zero.1 hown) ((congrArg (bit · 11) hfirst).trans hempty)]
    rfl
  · rw [Strand.getBit, groupMarked_get (by decide) (by decide) hgrp]
    exact recordFault_overflow hok (mt takenSeverity_eq_zero.1 hown) ((congrArg (bit · 11) hfirst).trans hfull)

end Sys2Proof.Machine

/-! PROOFS. ERR_N and the recovery ladder (R390, R402). -/

namespace Sys2Proof.Machine

section

variable {s : State} {w : At} {d e : Strand} {rq : Requester} {l : Ladder} {v fn inst : Nat}

/-! ### ERR_N -/

/-- ERR_N as a release leaves the pin. -/
def errNLow (d : Strand) : Strand := (d.putBit 0x2840 0x03 0 false).pin 6 false

theorem setErrN_of_high (h : d.getBit 0x2840 0x03 0 = true) : setErrN d false = errNLow d := if_neg (by simp [h])

theorem errReleaseOp_of_low (h : d.getBit 0x2840 0x03 0 = false) (c v : Nat) :
    errReleaseOp (d.answer c) v = d.answer 0x00 := by
  have hbit : (d.answer c).getBit 0x2840 0x03 0 = false := h
  rw [errReleaseOp, if_pos (.inr hbit)]
  rfl

theorem errReleaseOp_at_end (h : d.getBit 0x2840 0x03 0 = true) (ht : d.flt.errUntil ≤ d.sage) (c : Nat) :
    errReleaseOp (d.answer c) 1 = (errNLow d).answer 0x00 := by
  have hbit : (d.answer c).getBit 0x2840 0x03 0 = true := h
  rw [errReleaseOp, if_neg (by simp [hbit]),
    if_pos (show (d.answer c).flt.errUntil ≤ (d.answer c).sage from ht), setErrN_of_high hbit]
  rfl

theorem errReleaseOp_before (h : d.getBit 0x2840 0x03 0 = true) (ht : d.sage < d.flt.errUntil) (c : Nat) :
    errReleaseOp (d.answer c) 1 = { d with flt := { d.flt with errRelease := true } }.answer 0x00 := by
  have hbit : (d.answer c).getBit 0x2840 0x03 0 = true := h
  rw [errReleaseOp, if_neg (by simp [hbit]),
    if_neg (show ¬(d.answer c).flt.errUntil ≤ (d.answer c).sage from Nat.not_le.2 ht)]
  rfl

theorem leaves_errNRelease (ht : s.takes w rq 0x2840 0x02 = true)
    (he : errReleaseOp ((s.found w).answer 0xFF) 1 = e) (hd : e.still = true) (hz : e.sleep = 0) :
    Leaves (.errNRelease w rq 1) s w e := by
  have hr : dictFind 0x2840 0x02 = some ⟨0x2840, 0x2840, 0x02, 0x02, 0, 1, 2, 2, 0, false, 0x0⟩ := by decide +kernel
  exact leaves_of_faultReg ht hr (by decide) (by decide) rfl (by decide) (by simp) he hd hz

theorem errMinOp_of_waiting (h : d.flt.errRelease = true) (ht : d.flt.errUntil ≤ d.sage)
    (hbit : d.getBit 0x2840 0x03 0 = true) :
    errMinOp d = errNLow { d with flt := { d.flt with errRelease := false } } :=
  (if_pos ⟨h, ht⟩).trans (setErrN_of_high hbit)

theorem errMinOp_of_none (h : d.flt.errRelease = false ∨ d.sage < d.flt.errUntil) : errMinOp d = d := by
  refine if_neg ?_
  rintro ⟨hrel, ht⟩
  rcases h with h | h
  · simp [h] at hrel
  · omega

/-! ### The ladder -/

theorem setLadder_still (h : d.still = true) (l : Ladder) : (d.setLadder l).still = true := h

theorem ladderDoneOp_of_busy (h : d.ladder fn inst = some l) (hb : l.busy = true) (hs : l.step ≠ 3) :
    ladderDoneOp d fn inst =
      d.setLadder { l with busy := false, until_ := d.sage + secTime (d.get 0x2860 0x02) } := by
  rw [ladderDoneOp, h]
  exact if_pos (by simp [hb, hs])

theorem ladderDoneOp_of_idle (h : d.ladder fn inst = some l) (hs : l.busy = false ∨ l.step = 3) :
    ladderDoneOp d fn inst = d := by
  rw [ladderDoneOp, h]
  exact if_neg (by rcases hs with hs | hs <;> simp [hs])

theorem ladderDoneOp_of_none (h : d.ladder fn inst = none) : ladderDoneOp d fn inst = d := by rw [ladderDoneOp, h]

theorem ladderCleanOp_of_clean (h : d.ladder fn inst = some l) (hb : l.busy = false) (ht : l.until_ ≤ d.sage) :
    ladderCleanOp d fn inst = d.setLadder { l with step := 0 } := by
  rw [ladderCleanOp, h]
  exact if_pos (by simp [hb, ht])

theorem ladderCleanOp_of_watched (h : d.ladder fn inst = some l) (hs : l.busy = true ∨ d.sage < l.until_) :
    ladderCleanOp d fn inst = d := by
  rw [ladderCleanOp, h]
  exact if_neg (by rcases hs with hs | hs <;> simp [hs])

theorem ladderCleanOp_of_none (h : d.ladder fn inst = none) : ladderCleanOp d fn inst = d := by rw [ladderCleanOp, h]

theorem leaves_ladderStepDone (h : s.ready = true) (he : ladderDoneOp (s.found w) fn inst = e) (hs : e.still = true) :
    Leaves (.ladderStepDone w fn inst) s w e := leaves_of_becomes h hs (becomes_of_onStrand h he rfl)

theorem leaves_ladderClean (h : s.ready = true) (he : ladderCleanOp (s.found w) fn inst = e) (hs : e.still = true) :
    Leaves (.ladderCleanExpire w fn inst) s w e := leaves_of_becomes h hs (becomes_of_onStrand h he rfl)

end

/-- Settles O53: the pin and the minimum's end choose the branch of a release, and the instance's entry on the ladder
that of its two events. -/
theorem errNAndLadder : Obligations.ErrNAndLadder := by
  refine ⟨fun s w rq => ?_, fun s w fn inst hready => ?_⟩
  · intro d low
    refine ⟨fun ht hbit => ⟨fun hend => ?_, fun hbefore => ?_⟩, fun ht hbit => ?_, fun hready hrel hend hbit => ?_,
      fun hready hnone => ?_⟩
    · obtain ⟨hready, -, hsleep⟩ := takes_ready ht
      exact leaves_errNRelease ht (errReleaseOp_at_end hbit hend _) (ready_still hready w.k)
        ((sleep_put (by decide) _ _).trans hsleep)
    · obtain ⟨hready, -, hsleep⟩ := takes_ready ht
      exact leaves_errNRelease ht (errReleaseOp_before hbit hbefore _) (ready_still hready w.k) hsleep
    · obtain ⟨hready, -, hsleep⟩ := takes_ready ht
      exact leaves_errNRelease ht (errReleaseOp_of_low hbit _ _) (ready_still hready w.k) hsleep
    · exact leaves_of_becomes hready (ready_still hready w.k)
        (becomes_of_onStrand hready (errMinOp_of_waiting hrel hend hbit) rfl)
    · exact leaves_of_becomes hready (ready_still hready w.k)
        (becomes_of_onStrand hready (errMinOp_of_none hnone) rfl)
  · intro d
    have hstill : d.still = true := ready_still hready w.k
    refine ⟨fun l hl => ⟨fun hb hs => ?_, fun hs => ?_, fun hb ht => ?_, fun hs => ?_⟩, fun hnone => ⟨?_, ?_⟩⟩
    · exact leaves_ladderStepDone hready (ladderDoneOp_of_busy hl hb hs) (setLadder_still hstill _)
    · exact leaves_ladderStepDone hready (ladderDoneOp_of_idle hl hs) hstill
    · exact leaves_ladderClean hready (ladderCleanOp_of_clean hl hb ht) (setLadder_still hstill _)
    · exact leaves_ladderClean hready (ladderCleanOp_of_watched hl hs) hstill
    · exact leaves_ladderStepDone hready (ladderDoneOp_of_none hnone) hstill
    · exact leaves_ladderClean hready (ladderCleanOp_of_none hnone) hstill

end Sys2Proof.Machine

/-! PROOFS. The control pair: miscompares, audits and tests of its units (R395 to R399). -/

namespace Sys2Proof.Machine

section

variable {s : State} {w : At} {i : Instr} {d e : Strand} {rq : Requester} {u win : Nat} {f0 f1 p0 p1 p : Bool}

/-- A command of the data plane whose operation leaves a strand that is still. -/
theorem leaves_of_runs {f : Strand → Strand} (h : s.runs w.k = true) (he : f (s.found w) = e)
    (hi : exec i s = .next (onLive s w f)) (hs : e.still = true) : Leaves i s w e :=
  leaves_of_becomes (runs_ready h) hs (becomes_of_onLive h he hi)

theorem live_iff (d : Strand) : d.live = true ↔ d.inReset = false ∧ d.domain 0x0F = 2 := by simp [Strand.live]

/-! ### Miscompares (R395) -/

theorem miscompareOp_of_no_pair (h : d.ctrlState ≠ 0) : miscompareOp d f0 f1 = d := if_pos (.inl h)

/-- The strand with a unit's failed check counted. -/
def checkCounted (failed : Bool) (u : Nat) (d : Strand) : Strand := if failed then bumpUnit d u 32 16 else d

/-- The strand with the failed checks of both units counted, the loser fenced and its fence counted. -/
def loserFenced (d : Strand) (f0 f1 : Bool) (win : Nat) : Strand :=
  bumpUnit (setUnit (checkCounted f1 1 (checkCounted f0 0 d)) (1 - win) 2) (1 - win) 16 16

/-- The strand with the winner as the ACTIVE unit. -/
def winnerActive (d : Strand) (win a : Nat) : Strand := if win ≠ a then makeActive d win else d

theorem winnerActive_eq (d : Strand) (win a : Nat) : winnerActive d win a = if win = a then d else makeActive d win :=
  ite_not _ _ _

/-- The gap that the miscompare opens. -/
def gapOpened (d : Strand) (win : Nat) : Strand :=
  let e := (d.put 0x2850 0x01 2).raise 0x01 (1 - win)
  { e with flt := { e.flt with missAt := e.now + 1 } }

/-- The unit that runs on: the one that alone is clean, else the ACTIVE one. -/
def Wins (f0 f1 : Bool) (a win : Nat) : Prop :=
  (f0 = true → f1 = false → win = 1) ∧ (f0 = false → f1 = true → win = 0) ∧ (f0 = f1 → win = a)

theorem wins_iff {a : Nat} : Wins f0 f1 a win ↔ win = if f0 && !f1 then 1 else if f1 && !f0 then 0 else a := by
  unfold Wins
  cases f0 <;> cases f1 <;> simp

theorem miscompareOp_of_pair (h : d.ctrlState = 0) (hdom : d.domain 0x0F = 2) (hw : Wins f0 f1 d.activeUnit win) :
    miscompareOp d f0 f1 = gapOpened (winnerActive (loserFenced d f0 f1 win) win d.activeUnit) win := by
  rw [wins_iff] at hw
  subst hw
  exact if_neg (by simp [h, hdom])

/-! ### The audit (R396) -/

theorem auditOp_of_none (h : d.flt.missAt = 0) : auditOp d p0 p1 = d := if_pos h

/-- What the audit finds of a unit. -/
def unitPasses (p0 p1 : Bool) (u : Nat) : Bool := if u = 0 then p0 else p1

/-- The strand with the audit taken. -/
def auditTaken (d : Strand) : Strand := { d with flt := { d.flt with missAt := 0 } }

theorem auditOp_of_active (h : d.flt.missAt ≠ 0) (ha : unitPasses p0 p1 d.activeUnit = true) :
    auditOp d p0 p1 = resetUnit (auditTaken d) (1 - d.activeUnit) := (if_neg h).trans (if_pos ha)

theorem auditOp_of_fenced (h : d.flt.missAt ≠ 0) (ha : unitPasses p0 p1 d.activeUnit = false)
    (hf : unitPasses p0 p1 (1 - d.activeUnit) = true) : auditOp d p0 p1 =
      (taintInFlight (resetUnit (makeActive (auditTaken d) (1 - d.activeUnit)) d.activeUnit)).raise 0x02 d.activeUnit :=
  (if_neg h).trans ((if_neg (Bool.eq_false_iff.1 ha)).trans (if_pos hf))

theorem auditOp_of_none_passes (h : d.flt.missAt ≠ 0) (ha : unitPasses p0 p1 d.activeUnit = false)
    (hf : unitPasses p0 p1 (1 - d.activeUnit) = false) : auditOp d p0 p1 = enterSafe (auditTaken d) false :=
  (if_neg h).trans ((if_neg (Bool.eq_false_iff.1 ha)).trans (if_neg (Bool.eq_false_iff.1 hf)))

/-! ### Checks and tests (R397, R399) -/

theorem checkFailOp_of_standby (hu : u ≤ 1) (h : (bumpUnit d u 32 16).unitState u = 1)
    (hp : (bumpUnit d u 32 16).ctrlState = 0) : checkFailOp d u = standbyFails (bumpUnit d u 32 16) u :=
  (if_neg (Nat.not_lt.2 hu)).trans (if_pos ⟨h, hp⟩)

theorem checkFailOp_of_simplex (hu : u ≤ 1) (h : (bumpUnit d u 32 16).unitState u ≠ 1)
    (ha : u = (bumpUnit d u 32 16).activeUnit) (hp : (bumpUnit d u 32 16).ctrlState ≠ 0)
    (hrun : (bumpUnit d u 32 16).stState = 1) : checkFailOp d u = simplexFails (bumpUnit d u 32 16) :=
  (if_neg (Nat.not_lt.2 hu)).trans ((if_neg fun hc => h hc.1).trans (if_pos ⟨ha, hp, hrun⟩))

theorem checkFailOp_of_other (hu : u ≤ 1) (h : (bumpUnit d u 32 16).unitState u ≠ 1)
    (ha : u ≠ (bumpUnit d u 32 16).activeUnit) : checkFailOp d u = bumpUnit d u 32 16 :=
  (if_neg (Nat.not_lt.2 hu)).trans ((if_neg fun hc => h hc.1).trans (if_neg fun hc => ha hc.1))

/-- The standby is under test while the pair runs. -/
def StandbyTested (d : Strand) : Prop := d.ctrlState = 0 ∧ d.unitState (1 - d.activeUnit) = 1

theorem selfTestOp_passed (h : StandbyTested d) : selfTestOp d true =
    setLastTest (bumpUnit d (1 - d.activeUnit) 64 32) (1 - d.activeUnit) true := if_pos h

theorem selfTestOp_failed (h : StandbyTested d) : selfTestOp d false =
    standbyFails (setLastTest (bumpUnit d (1 - d.activeUnit) 48 16) (1 - d.activeUnit) false) (1 - d.activeUnit) :=
  if_pos h

theorem selfTestOp_of_none (h : d.ctrlState ≠ 0 ∨ d.unitState (1 - d.activeUnit) ≠ 1) : selfTestOp d p = d :=
  if_neg fun hc => h.elim (· hc.1) (· hc.2)

theorem simplexAuditOp_passed : simplexAuditOp d true = d := if_neg (by simp)

theorem simplexAuditOp_of_pair (h : d.ctrlState = 0) : simplexAuditOp d p = d := if_neg fun hc => hc.1 h

theorem simplexAuditOp_failed (h : d.ctrlState ≠ 0) (hrun : d.stState = 1) : simplexAuditOp d false = simplexFails d :=
  if_pos ⟨h, hrun, rfl⟩

/-! ### Re-integration (R398) -/

/-- The strand with the result of the test after a unit's reset. -/
def unitTested (d : Strand) (u : Nat) (p : Bool) : Strand :=
  setLastTest { d with flt := { d.flt with fenceAt := 0 } } u p

theorem unitTestOp_of_other (h : d.unitState u ≠ 3) : unitTestOp d u p = d := if_pos (.inr h)

theorem unitTestOp_of_reset (hu : u ≤ 1) (h : d.unitState u = 3) : unitTestOp d u p =
    if !p then setUnit (unitTested d u p) u 6
    else if (unitTested d u p).inReset then setUnit (unitTested d u p) u 4
    else if (unitTested d u p).getBit 0x2850 0x03 0 then startCopy (unitTested d u p) u
    else setUnit (unitTested d u p) u 4 := if_neg (by simp [h, hu])

theorem unitTestOp_failed (hu : u ≤ 1) (h : d.unitState u = 3) :
    unitTestOp d u false = setUnit (unitTested d u false) u 6 := unitTestOp_of_reset hu h

theorem unitTestOp_waits (hu : u ≤ 1) (h : d.unitState u = 3) (hr : (unitTested d u true).inReset = false)
    (hauto : (unitTested d u true).getBit 0x2850 0x03 0 = false) :
    unitTestOp d u true = setUnit (unitTested d u true) u 4 := by
  rw [unitTestOp_of_reset hu h, if_neg (by decide), if_neg (by simp [hr]), if_neg (by simp [hauto])]

theorem unitTestOp_copies (hu : u ≤ 1) (h : d.unitState u = 3) (hr : (unitTested d u true).inReset = false)
    (hauto : (unitTested d u true).getBit 0x2850 0x03 0 = true) :
    unitTestOp d u true = startCopy (unitTested d u true) u := by
  rw [unitTestOp_of_reset hu h, if_neg (by decide), if_neg (by simp [hr]), if_pos hauto]

theorem leaves_unitTestDone (h : s.runs w.k = true) (he : unitTestOp (s.found w) u p = e) (hs : e.still = true) :
    Leaves (.ctrlUnitTestDone w u p) s w e := by
  have hlive : ((s.found w).inReset || (s.found w).live) = true := by
    rw [show (s.found w).live = true from runs_live h, Bool.or_true]
  exact leaves_of_becomes (runs_ready h) hs (becomes_of_onStrand (runs_ready h) ((if_pos hlive).trans he) rfl)

theorem reintegStartOp_of_waiting (h : d.unitState (1 - d.activeUnit) = 4) (hr : d.inReset = false) (c : Nat) :
    reintegStartOp (d.answer c) 1 = (startCopy d (1 - d.activeUnit)).answer 0x00 := by
  have hop : reintegStartOp (d.answer c) 1 = (startCopy (d.answer c) (1 - d.activeUnit)).answer 0x00 :=
    congrArg (Strand.answer · 0x00) (if_pos ⟨rfl, h, hr⟩)
  rw [hop]
  rfl

theorem reintegStartOp_of_other (h : d.unitState (1 - d.activeUnit) ≠ 4) (c : Nat) :
    reintegStartOp (d.answer c) 1 = d.answer 0x00 := by
  have hop : reintegStartOp (d.answer c) 1 = (d.answer c).answer 0x00 :=
    congrArg (Strand.answer · 0x00) (if_neg fun hc => h hc.2.1)
  rw [hop]
  rfl

theorem leaves_reintegStart (ht : s.takes w rq 0x2850 0x04 = true)
    (he : reintegStartOp ((s.found w).answer 0xFF) 1 = e) (hd : e.still = true) (hz : e.sleep = 0) :
    Leaves (.ctrlReintegStart w rq 1) s w e := by
  have hr : dictFind 0x2850 0x04 = some ⟨0x2850, 0x2850, 0x04, 0x04, 0, 1, 2, 1, 0, false, 0x0⟩ := by decide +kernel
  exact leaves_of_faultReg ht hr (by decide) (by decide) rfl (by decide) (by simp) he hd hz

theorem startCopy_sleep (d : Strand) (u : Nat) : (startCopy d u).sleep = d.sleep :=
  (sleep_put (d := setUnit d u 5) (by decide) _ _).trans (sleep_put (by decide) _ _)

theorem inReset_of_takes {index sub : Nat} (ht : s.takes w rq index sub = true) : (s.found w).inReset = false := by
  simp only [State.takes] at ht
  split at ht
  · obtain ⟨-, -, -, hreset, -⟩ := (writable_iff _ _ _ _ _ _).1 ht
    exact hreset
  · simp at ht

theorem copyDoneOp_of_copying (h : d.flt.copying = some u) :
    copyDoneOp d = { d with flt := { d.flt with copied := true } } := if_pos (by simp [h])

theorem copyDoneOp_of_none (h : d.flt.copying = none) : copyDoneOp d = d := if_neg (by simp [h])

end

/-- Settles O54: each event of the pair by the branch of its operation. -/
theorem controlPair : Obligations.ControlPair := by
  refine ⟨fun s w hrun => ?_, fun s w u hrun hu => ?_⟩
  · intro d a counted
    have hstill : d.still = true := ready_still (runs_ready hrun) w.k
    have hdom : d.domain 0x0F = 2 := ((live_iff d).1 (runs_live hrun)).2
    refine ⟨fun f0 f1 h => ?_, fun f0 f1 win h h1 h0 heq ha => ?_, fun p0 p1 h => ?_, fun p0 p1 h ha => ?_⟩
    · exact leaves_of_runs hrun (miscompareOp_of_no_pair h) rfl hstill
    · refine becomes_of_onLive hrun ?_ rfl
      refine (miscompareOp_of_pair h hdom ⟨h1, h0, heq⟩).trans ?_
      rw [winnerActive_eq]
      rfl
    · exact leaves_of_runs hrun (auditOp_of_none h) rfl hstill
    · intro ok e
      exact ⟨fun hok => leaves_of_runs hrun (auditOp_of_active h hok) rfl hstill,
        fun hok hf => becomes_of_onLive hrun (auditOp_of_fenced h hok hf) rfl,
        fun hok hf => becomes_of_onLive hrun (auditOp_of_none_passes h hok hf) rfl⟩
  · intro d b failed
    have hstill : d.still = true := ready_still (runs_ready hrun) w.k
    refine ⟨fun h hp => ?_, fun h ha hp hst => ?_, fun h ha => ?_, fun hp hb => ⟨?_, ?_⟩, fun p h => ?_, fun p h => ?_,
      fun h => ?_, fun rq ht => ⟨fun hb => ?_, fun hb => ?_⟩, fun h => ?_, fun h => ?_, ?_, fun h => ?_, fun h hst => ?_⟩
    · exact becomes_of_onLive hrun (checkFailOp_of_standby hu h hp) rfl
    · exact becomes_of_onLive hrun (checkFailOp_of_simplex hu h ha hp hst) rfl
    · exact leaves_of_runs hrun (checkFailOp_of_other hu h ha) rfl hstill
    · exact leaves_of_runs hrun (selfTestOp_passed ⟨hp, hb⟩) rfl hstill
    · exact becomes_of_onLive hrun (selfTestOp_failed ⟨hp, hb⟩) rfl
    · exact leaves_of_runs hrun (selfTestOp_of_none h) rfl hstill
    · exact leaves_unitTestDone hrun (unitTestOp_of_other h) hstill
    · intro e
      exact ⟨leaves_unitTestDone hrun (unitTestOp_failed hu h) hstill,
        fun hauto hr => leaves_unitTestDone hrun (unitTestOp_waits hu h hr hauto) hstill,
        fun hauto hr => leaves_unitTestDone hrun (unitTestOp_copies hu h hr hauto) hstill⟩
    · obtain ⟨-, -, hsleep⟩ := takes_ready ht
      exact leaves_reintegStart ht (reintegStartOp_of_waiting hb (inReset_of_takes ht) _) hstill
        ((startCopy_sleep d b).trans hsleep)
    · obtain ⟨-, -, hsleep⟩ := takes_ready ht
      exact leaves_reintegStart ht (reintegStartOp_of_other hb _) hstill hsleep
    · exact leaves_of_runs hrun (copyDoneOp_of_copying h) rfl hstill
    · exact leaves_of_runs hrun (copyDoneOp_of_none h) rfl hstill
    · exact leaves_of_runs hrun simplexAuditOp_passed rfl hstill
    · exact leaves_of_runs hrun (simplexAuditOp_of_pair h) rfl hstill
    · exact becomes_of_onLive hrun (simplexAuditOp_failed h hst) rfl

end Sys2Proof.Machine

/-! PROOFS. Power domains, shared domains and regulator phases (R408, R410 to R413, R415, R418). -/

/-! ### Domains of a strand -/

namespace Sys2Proof.Machine

section

variable {s : State} {w : At} {i : Instr} {g : Pkg} {d e : Strand} {rq : Requester} {n v us c : Nat}

/-- A domain that is waking, until twice its wake latency has passed. -/
def waking (d : Strand) (n : Nat) : Strand :=
  { d.setDomain n 1 with pow := { d.pow with wakeBy := smSet zeroAt d.pow.wakeBy n (d.sage + usTime (2 * wakeUs n)) } }

/-- A domain that does not wake without XIN, of which the package monitor sees none that is good. -/
def Clockless (g : Pkg) (n : Nat) : Prop := (n < 3 ∨ n = 0x0F) ∧ g.get 0x2601 0x01 ≠ 0

theorem wakeDomain_of_on (h : d.domain n = 1 ∨ d.domain n = 2) : wakeDomain g d n = d := if_pos h

theorem wakeDomain_of_clockless (h1 : d.domain n ≠ 1) (h2 : d.domain n ≠ 2) (hc : Clockless g n) :
    wakeDomain g d n = d.raise 0xB7 n := (if_neg (not_or.2 ⟨h1, h2⟩)).trans (if_pos hc)

theorem wakeDomain_of_clock (h1 : d.domain n ≠ 1) (h2 : d.domain n ≠ 2) (hc : ¬Clockless g n) :
    wakeDomain g d n = waking d n := (if_neg (not_or.2 ⟨h1, h2⟩)).trans (if_neg hc)

theorem waking_sleep (h : n < 16) : (waking d n).sleep = d.sleep :=
  d.get_put_other 1 (locKey_ne (by decide) (by omega) (.inl (by decide)))

/-! #### DOMAIN_REQ (R412) -/

theorem domainReqOp_of_held (h : heldOff d n = true) : domainReqOp g d n 1 = d.answer 0x00 :=
  congrArg (Strand.answer · 0x00) (if_pos h)

theorem domainReqOp_of_wake (h : heldOff d n = false) : domainReqOp g d n 1 = (wakeDomain g d n).answer 0x00 :=
  congrArg (Strand.answer · 0x00) (if_neg (Bool.eq_false_iff.1 h))

theorem domainReqOp_of_needed (h : domainNeeded d n = true) : domainReqOp g d n 0 = d.answer 0x01 := if_pos h

theorem domainReqOp_of_off (h : domainNeeded d n = false) (hoff : d.domain n = 0) :
    domainReqOp g d n 0 = d.answer 0x00 :=
  (if_neg (Bool.eq_false_iff.1 h)).trans (congrArg (Strand.answer · 0x00) (if_pos hoff))

theorem domainReqOp_of_free (h : domainNeeded d n = false) (hon : d.domain n ≠ 0) :
    domainReqOp g d n 0 = (domainOff d n 0).answer 0x00 :=
  (if_neg (Bool.eq_false_iff.1 h)).trans (congrArg (Strand.answer · 0x00) (if_neg hon))

theorem dictFind_domainReq (h : n < 16) :
    dictFind 0x2402 n = some ⟨0x2402, 0x2402, 0x00, 0x0f, 1, 1, 2, 1, 0, false, 0x0⟩ :=
  dictFind_of_indexRow (lo := 0x2402) (hi := 0x2402) (by decide +kernel) (Nat.le_refl _) (Nat.le_refl _) (Nat.le_refl _)
    (Nat.le_refl _) (Nat.zero_le _) (by dsimp only; omega)

theorem exec_domainReq (h : n < 16) : exec (.domainReq w rq n v) s = .next (regWrite s w rq true 0x2402 n v) := by
  rw [← decide_eq_true (show n < 256 by omega)]
  rfl

theorem entryWrite_power (g : Pkg) (d : Strand) (rq : Requester) {index sub : Nat} (b : List Byte) (hs : sub < 256)
    (h : 0x2400 ≤ index) (h' : index ≤ 0x25FF) :
    entryWrite g d rq index sub b = (g, writePower g d index sub (bytesToNat b)) := by
  rw [entryWrite, isPackageLoc_of_index hs (by omega) (by omega) (by omega), if_neg Bool.false_ne_true]
  iterate 5 rw [if_neg (by omega)]
  rw [if_pos h']

theorem writePower_domainReq : writePower g d 0x2402 n v = domainReqOp g d n v :=
  (if_neg (by decide)).trans (if_pos rfl)

/-- DOMAIN_REQ has the effect of its operation. -/
theorem entryWrite_domainReq (hn : n < 16) (he : domainReqOp { s.pkg with out := [] } ((s.found w).answer 0xFF) n v = e)
    (b : List Byte) (hb : bytesToNat b = v) : entryWrite { s.pkg with out := [] }
      ((noteLevel (s.found w) rq ⟨0x2402, 0x2402, 0x00, 0x0f, 1, 1, 2, 1, 0, false, 0x0⟩).answer 0xFF) rq 0x2402 n b =
        ({ s.pkg with out := [] }, e) := by
  rw [noteLevel_of_ne_zero (by decide), entryWrite_power _ _ _ _ (by omega) (by decide) (by decide), hb,
    writePower_domainReq, he]

theorem exec_domainReq_of_takes (ht : s.takes w rq 0x2402 n = true) (hn : n < 16) (hv : v ≤ 1)
    (he : domainReqOp { s.pkg with out := [] } ((s.found w).answer 0xFF) n v = e) :
    exec (.domainReq w rq n v) s = .next (shareDomains (settle (s.leave w.k e) w.k)) :=
  exec_of_regWrite ht (dictFind_domainReq hn) (by decide) (exec_domainReq hn) (by decide) (by simp; omega) (by simp)
    (entryWrite_domainReq hn he)

theorem leaves_domainReq (ht : s.takes w rq 0x2402 n = true) (hn : n < 16) (hv : v ≤ 1)
    (he : domainReqOp { s.pkg with out := [] } ((s.found w).answer 0xFF) n v = e) (hd : e.still = true)
    (hz : e.sleep = 0) : Leaves (.domainReq w rq n v) s w e :=
  leaves_of_regWrite ht (dictFind_domainReq hn) (by decide) (exec_domainReq hn) (by decide) (by simp; omega) (by simp)
    (entryWrite_domainReq hn he) hd hz

/-! #### Waking, power-good and failures (R410, R411, R413) -/

theorem isShared_of_strand (h : n < 16) : isShared n = false := by
  simp [isShared]
  omega

theorem exec_domainWake (h : n < 16) :
    exec (.domainWake w n) s = .next (onStrandPkg s w fun g d => domainWakeOp g d n) :=
  congrArg _ (if_neg (by simp [isShared_of_strand h]))

theorem domainWakeOp_of_needed (hn : n < 16) (hauto : d.getBit 0x2400 0x02 0 = true) (hoff : d.domain n = 0)
    (h : domainNeeded d n = true) (hh : heldOff d n = false) : domainWakeOp g d n = wakeDomain g d n :=
  if_pos ⟨hn, hauto, hoff, h, hh⟩

theorem domainWakeOp_of_other (h : d.getBit 0x2400 0x02 0 = false ∨ d.domain n ≠ 0 ∨ domainNeeded d n = false ∨
    heldOff d n = true) : domainWakeOp g d n = d := by
  refine if_neg ?_
  rintro ⟨-, hauto, hoff, hneed, hheld⟩
  rcases h with h | h | h | h
  · simp [h] at hauto
  · exact h hoff
  · simp [h] at hneed
  · simp [h] at hheld

theorem exec_domainGood (h : n < 16) :
    exec (.domainPowerGood w n us) s = .next (onStrand s w fun d => domainGoodOp d n us) :=
  congrArg _ (if_neg (by simp [isShared_of_strand h]))

theorem domainGoodOp_of_other (h : d.domain n ≠ 1) : domainGoodOp d n us = d := if_neg fun hc => h hc.2

/-- A domain is ON, with the time that it took. -/
def domainOn (d : Strand) (n us : Nat) : Strand :=
  let e := (d.setDomain n 2).put 0x2403 n (min us 0xFFFF)
  { e with pow := { e.pow with wakeBy := smSet zeroAt e.pow.wakeBy n 0 } }

theorem domainGoodOp_of_plain (hn : n < 16) (h : d.domain n = 1) (hp : n = 3 ∨ 12 ≤ n) :
    domainGoodOp d n us = domainOn d n us :=
  (if_pos ⟨hn, h⟩).trans ((if_neg (by omega)).trans (if_neg (by omega)))

theorem exec_domainLate (h : n < 16) :
    exec (.domainWakeTimeout w n) s = .next (onStrandPkg s w fun g d => refsRecheck g (domainLateOp d n)) :=
  congrArg _ (if_neg (by simp [isShared_of_strand h]))

theorem domainLateOp_of_late (hn : n < 16) (h : d.domain n = 1) (ht : smGet zeroAt d.pow.wakeBy n ≤ d.sage) :
    domainLateOp d n = (domainOff d n 3).raise 0xB7 n := if_pos ⟨hn, h, ht⟩

theorem exec_domainLoss (h : n < 16) :
    exec (.domainPowerLoss w n) s = .next (onStrandPkg s w fun g d => refsRecheck g (domainLossOp d n)) :=
  congrArg _ (if_neg (by simp [isShared_of_strand h]))

theorem domainLossOp_of_on (hn : n < 16) (h : d.domain n = 2) :
    domainLossOp d n = (domainOff d n 3).raise 0xB7 n := if_pos ⟨hn, h⟩

/-- A domain that goes off may take references with it (R413). -/
theorem becomes_domainLate (hready : s.ready = true) (hn : n < 16) (he : domainLateOp (s.found w) n = e) :
    Becomes (.domainWakeTimeout w n) s w (refsRecheck { s.pkg with out := [] } e) := by
  subst he
  exact becomes_of_onStrandPkg (f := fun g d => refsRecheck g (domainLateOp d n)) hready rfl (exec_domainLate hn)

theorem becomes_domainLoss (hready : s.ready = true) (hn : n < 16) (he : domainLossOp (s.found w) n = e) :
    Becomes (.domainPowerLoss w n) s w (refsRecheck { s.pkg with out := [] } e) := by
  subst he
  exact becomes_of_onStrandPkg (f := fun g d => refsRecheck g (domainLossOp d n)) hready rfl (exec_domainLoss hn)

end

end Sys2Proof.Machine

/-! ### Shared domains (R410, R413) -/

namespace Sys2Proof.Machine

section

variable {s r : State} {w : At} {n us : Nat}

theorem isShared_of_range (h : 0x40 ≤ n) (h' : n ≤ 0x43) : isShared n = true := by simp [isShared, h, h']

/-- A shared domain that fails, in what it has lost with its power. -/
def sharedFailed (r : State) (w : At) (n : Nat) : State :=
  settle ({ r with pkg := { r.pkg with out := [] }.setDomain n 3 }.setStrand .s0 ((r.found (atZero w)).raise 0xB7 n)) .s0

theorem sharedFail_eq (h : loseShared s n = r) (hh : r.pkg.inHold = false) : sharedFail s w n = sharedFailed r w n := by
  subst h
  exact onPart_eq hh (atZero w) _ rfl

theorem loseShared_of_plain (h : 0x42 ≤ n ∨ (n = 0x40 ∧ s.pkg.hpUp = false)) : loseShared s n = s := by
  rcases h with h | ⟨rfl, h⟩
  · exact (if_neg (by omega)).trans (if_neg (by omega))
  · exact (if_pos rfl).trans (linkDownOp_of_down h)

theorem loseShared_store : loseShared s 0x41 = s.mapStrands loseStore := (if_neg (by decide)).trans (if_pos rfl)

theorem loseShared_host : loseShared s 0x40 = linkDownOp s := if_pos rfl

/-- The event and the state of a shared domain that fails. -/
def SharedFails (i : Instr) (s : State) (w : At) (n : Nat) : Prop :=
  (i = .domainPowerLoss w n ∧ s.pkg.domain n = 2) ∨ (i = .domainWakeTimeout w n ∧ s.pkg.domain n = 1)

theorem exec_of_fails {i : Instr} (hn : isShared n = true) (hh : s.pkg.inHold = false) (h : SharedFails i s w n) :
    exec i s = .next (sharedFail s w n) := by
  rcases h with ⟨rfl, hon⟩ | ⟨rfl, hon⟩
  · exact congrArg _ ((if_pos hn).trans (if_neg (by simp [hh, hon])))
  · exact congrArg _ ((if_pos hn).trans (if_neg (by simp [hh, hon])))

theorem exec_sharedLoss_of_other (hn : isShared n = true) (h : s.pkg.domain n ≠ 2) :
    exec (.domainPowerLoss w n) s = .next s := congrArg _ ((if_pos hn).trans (if_pos (.inr h)))

theorem exec_sharedLate_of_other (hn : isShared n = true) (h : s.pkg.domain n ≠ 1) :
    exec (.domainWakeTimeout w n) s = .next s := congrArg _ ((if_pos hn).trans (if_pos (.inr h)))

theorem exec_sharedGood (hn : isShared n = true) : exec (.domainPowerGood w n us) s =
    .next (onPart s w fun g d => (if g.domain n = 1 then g.setDomain n 2 else g, d)) := congrArg _ (if_pos hn)

/-- What power-good of a shared domain makes of the package. -/
def sharedGood (g : Pkg) (n : Nat) : Pkg := if g.domain n = 1 then g.setDomain n 2 else g

theorem leavesPart_sharedGood (hready : s.ready = true) (hn : isShared n = true) :
    LeavesPart (.domainPowerGood w n us) s w (sharedGood { s.pkg with out := [] } n) (s.found w) := by
  refine leavesPart_of_becomesPart hready (ready_still hready w.k) ?_
    (becomesPart_of_onPart hready rfl (exec_sharedGood hn))
  unfold sharedGood
  split <;> exact ((ready_iff s).1 hready).2.1

theorem exec_sharedWake (hn : isShared n = true) (hh : s.pkg.inHold = false) :
    exec (.domainWake w n) s = .next (shareDomain s n) := congrArg _ ((if_pos hn).trans (if_neg (by simp [hh])))

theorem sharedNeeded_of_awake (h : ∀ k, (s.strand k).sleep = 0) (n : Nat) :
    sharedNeeded s.pkg [s.st0, s.st1, s.st2, s.st3] n = true := by
  have h0 : s.st0.sleep = 0 := h .s0
  unfold sharedNeeded
  split_ifs <;> simp [h0]

theorem shareDomain_of_needed (h : ∀ k, (s.strand k).sleep = 0) (n : Nat) : shareDomain s n =
    if s.pkg.domain n = 0 then { s with pkg := s.pkg.setDomain n 1 } else s := by
  unfold shareDomain
  dsimp only
  rw [sharedNeeded_of_awake h, if_neg (by simp)]
  simp only [true_and]

end

end Sys2Proof.Machine

/-! ### Phases of the regulators (R408, R418) -/

namespace Sys2Proof.Machine

section

variable {s : State} {w : At} {g : Pkg} {d : Strand} {r dom peak v : Nat} {c : Currents}

theorem phaseLost_of_spare (h : 0 < bits v 8 8) : phaseLost v = setBits v 8 8 (bits v 8 8 - 1) := if_pos h

theorem phaseLost_of_none (h : bits v 8 8 = 0) : phaseLost v = setBits v 0 8 (bits v 0 8 - 1) :=
  if_neg (by omega)

theorem phaseFailOp_of_spare (hr : r < 3) (h : 0 < bits (d.get 0x2412 r) 8 8) : phaseFailOp d r dom peak =
    ((d.put 0x2412 r (setBits (d.get 0x2412 r) 8 8 (bits (d.get 0x2412 r) 8 8 - 1))).raise 0xB5 dom).raiseIf
      (decide (bits (d.get 0x2412 r) 8 8 = 1)) 0xB6 dom := by
  rw [← phaseLost_of_spare h]
  exact (if_neg (by omega)).trans (if_pos h)

/-- The strand with a phase less on a regulator. -/
def phaseGone (d : Strand) (r : Nat) : Strand :=
  d.put 0x2412 r (setBits (d.get 0x2412 r) 0 8 (bits (d.get 0x2412 r) 0 8 - 1))

theorem phaseGone_get {index sub : Nat} (h : index ≠ 0x2412) (hs : sub < 256) (hr : r < 3) :
    (phaseGone d r).get index sub = d.get index sub :=
  d.get_put_other _ (locKey_ne hs (by omega) (.inl h))

theorem phaseFailOp_of_none (hr : r < 3) (h : bits (d.get 0x2412 r) 8 8 = 0) : phaseFailOp d r dom peak =
    if (phaseGone d r).hasPlan then (phaseGone d r).put 0x2413 0x01
      (if (phaseGone d r).get 0x2413 0x01 = 0xFF then fitting d r (bits (d.get 0x2412 r) 0 8 - 1) peak
        else max ((phaseGone d r).get 0x2413 0x01) (fitting d r (bits (d.get 0x2412 r) 0 8 - 1) peak))
    else phaseGone d r := by
  rw [phaseGone, ← phaseLost_of_none h]
  exact (if_neg (by omega)).trans (if_neg (by omega))

theorem phaseGone_hasPlan (hr : r < 3) : (phaseGone d r).hasPlan = d.hasPlan :=
  congrArg (fun x => decide (x ≠ 0)) (phaseGone_get (by decide) (by decide) hr)

theorem phaseFailOp_without_plan (hr : r < 3) (h : bits (d.get 0x2412 r) 8 8 = 0) (hp : d.hasPlan = false) :
    phaseFailOp d r dom peak = phaseGone d r := by
  rw [phaseFailOp_of_none hr h, phaseGone_hasPlan hr, if_neg (by simp [hp])]

theorem phaseFailOp_with_plan (hr : r < 3) (h : bits (d.get 0x2412 r) 8 8 = 0) (hp : d.hasPlan = true) :
    phaseFailOp d r dom peak = (phaseGone d r).put 0x2413 0x01
      (if d.get 0x2413 0x01 = 0xFF then fitting d r (bits (d.get 0x2412 r) 0 8 - 1) peak
        else max (d.get 0x2413 0x01) (fitting d r (bits (d.get 0x2412 r) 0 8 - 1) peak)) := by
  rw [phaseFailOp_of_none hr h, phaseGone_hasPlan hr, if_pos hp, phaseGone_get (by decide) (by decide) hr]

theorem exec_phaseFail (hr : r < 3) :
    exec (.pwrPhaseFail w r dom c) s = .next (onStrand s w fun d => phaseFailOp d r dom c.peak) :=
  congrArg _ (if_pos hr)

theorem exec_pkgPhaseFail (hr : 3 ≤ r) :
    exec (.pwrPhaseFail w r dom c) s = .next (onPart s (atZero w) fun g d => pkgPhaseFail g d r dom) :=
  congrArg _ (if_neg (by omega))

theorem pkgPhaseFail_of_spare (hr : r < 5) (h : 0 < bits (g.get 0x2603 (r - 3)) 8 8) : pkgPhaseFail g d r dom =
    (g.put 0x2603 (r - 3) (setBits (g.get 0x2603 (r - 3)) 8 8 (bits (g.get 0x2603 (r - 3)) 8 8 - 1)),
      (d.raise 0xB5 dom).raiseIf (decide (bits (g.get 0x2603 (r - 3)) 8 8 = 1)) 0xB6 dom) := by
  rw [← phaseLost_of_spare h]
  exact (if_neg (by omega)).trans (if_pos h)

theorem pkgPhaseFail_of_none (hr : r < 5) (h : bits (g.get 0x2603 (r - 3)) 8 8 = 0) : pkgPhaseFail g d r dom =
    (g.put 0x2603 (r - 3) (setBits (g.get 0x2603 (r - 3)) 0 8 (bits (g.get 0x2603 (r - 3)) 0 8 - 1)), d) := by
  rw [← phaseLost_of_none h]
  exact (if_neg (by omega)).trans (if_neg (by omega))

end

end Sys2Proof.Machine

/-! ### The obligation -/

namespace Sys2Proof.Machine

section

variable {s : State} {w : At} {rq : Requester} {n : Nat}

/-- DOMAIN_REQ by the state of its domain and what needs or holds it (R412, R415). -/
theorem domainReq_cases (ht : s.takes w rq 0x2402 n = true) (hn : n < 16) :
    let d := s.found w
    (d.domain n ≠ 1 → d.domain n ≠ 2 → heldOff d n = false → ¬Clockless s.pkg n →
      Leaves (.domainReq w rq n 1) s w ((waking d n).answer 0x00)) ∧
    (d.domain n ≠ 1 → d.domain n ≠ 2 → heldOff d n = false → Clockless s.pkg n →
      exec (.domainReq w rq n 1) s = .next (shareDomains (settle (s.leave w.k ((d.raise 0xB7 n).answer 0x00)) w.k))) ∧
    ((d.domain n = 1 ∨ d.domain n = 2) → Leaves (.domainReq w rq n 1) s w (d.answer 0x00)) ∧
    (heldOff d n = true → Leaves (.domainReq w rq n 1) s w (d.answer 0x00)) ∧
    (domainNeeded d n = true → Leaves (.domainReq w rq n 0) s w (d.answer 0x01)) ∧
    (domainNeeded d n = false → d.domain n = 0 → Leaves (.domainReq w rq n 0) s w (d.answer 0x00)) ∧
    (domainNeeded d n = false → d.domain n ≠ 0 →
      let e := (domainOff (d.answer 0xFF) n 0).answer 0x00
      e.still = true → e.sleep = 0 → Leaves (.domainReq w rq n 0) s w e) := by
  intro d
  obtain ⟨hready, -, hsleep⟩ := takes_ready ht
  have hstill : d.still = true := ready_still hready w.k
  refine ⟨fun h1 h2 hh hc => ?_, fun h1 h2 hh hc => ?_, fun h => ?_, fun hh => ?_, fun hneed => ?_, fun hneed hoff => ?_,
    fun hneed hon => ?_⟩
  · have hop := (domainReqOp_of_wake (g := { s.pkg with out := [] }) (d := d.answer 0xFF) hh).trans
      (congrArg (Strand.answer · 0x00) (wakeDomain_of_clock h1 h2 hc))
    exact leaves_domainReq ht hn (by decide) hop hstill ((waking_sleep (d := d) hn).trans hsleep)
  · have hop := (domainReqOp_of_wake (g := { s.pkg with out := [] }) (d := d.answer 0xFF) hh).trans
      (congrArg (Strand.answer · 0x00) (wakeDomain_of_clockless h1 h2 hc))
    exact exec_domainReq_of_takes ht hn (by decide) hop
  · by_cases hh : heldOff d n = true
    · exact leaves_domainReq ht hn (by decide) (domainReqOp_of_held hh) hstill hsleep
    · have hop := (domainReqOp_of_wake (g := { s.pkg with out := [] }) (d := d.answer 0xFF)
        (Bool.eq_false_iff.2 hh)).trans (congrArg (Strand.answer · 0x00) (wakeDomain_of_on h))
      exact leaves_domainReq ht hn (by decide) hop hstill hsleep
  · exact leaves_domainReq ht hn (by decide) (domainReqOp_of_held hh) hstill hsleep
  · exact leaves_domainReq ht hn (by decide) (domainReqOp_of_needed hneed) hstill hsleep
  · exact leaves_domainReq ht hn (by decide) (domainReqOp_of_off hneed hoff) hstill hsleep
  · intro e hs hz
    exact leaves_domainReq ht hn (by decide) (domainReqOp_of_free hneed hon) hs hz

end

/-- Settles O57: the operations of the strand's domains, of the shared domains and of the phases, each by the branch
that its conditions name. -/
theorem powerControl : Obligations.PowerControl := by
  refine ⟨fun s w rq n hn => ?_, fun s w n us hready h40 h43 => ?_, fun s w r dom c hready => ?_⟩
  · intro d g waking clockless after
    have hstill (hready : s.ready = true) : d.still = true := ready_still hready w.k
    refine ⟨fun ht => domainReq_cases ht hn, fun hready hauto hoff hneed hh => ⟨fun hc => ?_, fun hc => ?_⟩,
      fun hready h => ?_, fun us hready h => ?_, fun us hready h hp => ?_, fun us hready h => ?_, fun hready h ht => ?_,
      fun hready h => ?_⟩
    · exact leaves_of_becomes hready (hstill hready) (becomes_of_onStrandPkg hready
        ((domainWakeOp_of_needed hn hauto hoff hneed hh).trans (wakeDomain_of_clock (by omega) (by omega) hc))
        (exec_domainWake hn))
    · exact becomes_of_onStrandPkg hready ((domainWakeOp_of_needed hn hauto hoff hneed hh).trans
        (wakeDomain_of_clockless (by omega) (by omega) hc)) (exec_domainWake hn)
    · exact leaves_of_becomes hready (hstill hready)
        (becomes_of_onStrandPkg hready (domainWakeOp_of_other h) (exec_domainWake hn))
    · exact leaves_of_becomes hready (hstill hready)
        (becomes_of_onStrand hready (domainGoodOp_of_other h) (exec_domainGood hn))
    · exact leaves_of_becomes hready (hstill hready)
        (becomes_of_onStrand hready (domainGoodOp_of_plain hn h hp) (exec_domainGood hn))
    · exact becomes_of_onStrand hready rfl (exec_domainGood hn)
    · exact becomes_domainLate hready hn (domainLateOp_of_late hn h ht)
    · exact becomes_domainLoss hready hn (domainLossOp_of_on hn h)
  · intro d g fails
    have hn : isShared n = true := isShared_of_range h40 h43
    have hhold : s.pkg.inHold = false := ready_hold hready
    refine ⟨fun h => ?_, fun h => ?_, fun i hi => ⟨fun h => ?_, fun h => ?_, fun h hh => ?_⟩, exec_sharedLoss_of_other hn,
      exec_sharedLate_of_other hn, fun ha h => ?_, fun ha h => ?_⟩
    · have hgood : sharedGood g n = g.setDomain n 2 := if_pos h
      exact hgood ▸ leavesPart_sharedGood hready hn
    · have hgood : sharedGood g n = g := if_neg h
      have hleaves : LeavesPart (.domainPowerGood w n us) s w g d := hgood ▸ leavesPart_sharedGood hready hn
      exact hleaves
    · exact (exec_of_fails hn hhold hi).trans (congrArg _ (sharedFail_eq (loseShared_of_plain h) hhold))
    · subst h
      exact (exec_of_fails hn hhold hi).trans (congrArg _ (sharedFail_eq loseShared_store hhold))
    · subst h
      exact (exec_of_fails hn hhold hi).trans (congrArg _ (sharedFail_eq loseShared_host hh))
    · refine (exec_sharedWake hn hhold).trans (congrArg _ ?_)
      rw [shareDomain_of_needed ((awake_iff s).1 ha).1, if_neg h]
    · refine (exec_sharedWake hn hhold).trans (congrArg _ ?_)
      rw [shareDomain_of_needed ha, if_pos h]
  · intro d z g v u
    have hstill : d.still = true := ready_still hready w.k
    refine ⟨fun hr h => ?_, fun hr h hp => ?_, fun hr h hp => ?_, fun hr h => ?_, fun hr h => ?_⟩
    · exact becomes_of_onStrand hready (phaseFailOp_of_spare hr h) (exec_phaseFail hr)
    · exact leaves_of_becomes hready hstill
        (becomes_of_onStrand hready (phaseFailOp_without_plan hr h hp) (exec_phaseFail hr))
    · exact leaves_of_becomes hready hstill
        (becomes_of_onStrand hready (phaseFailOp_with_plan hr h hp) (exec_phaseFail hr))
    · have hop := pkgPhaseFail_of_spare (g := { s.pkg with out := [] }) (d := z) (dom := dom) (by omega) h
      exact becomesPart_of_onPart hready hop (exec_pkgPhaseFail (by omega))
    · have hop := pkgPhaseFail_of_none (g := { s.pkg with out := [] }) (d := z) (dom := dom) (by omega) h
      exact leavesPart_of_becomesPart hready (ready_still hready .s0) ((ready_iff s).1 hready).2.1
        (becomesPart_of_onPart hready hop (exec_pkgPhaseFail (by omega)))

end Sys2Proof.Machine

/-! PROOFS. The package pins and the JTAG port (R417, R421, R422, R437, R438). -/

/-! ### A cold start keeps the clock of a strand that it resets -/

namespace Sys2Proof.Machine

section

variable (d : Strand) (n : Nat)

/-- What keeps the clock at each item of a list keeps it over the list. -/
theorem foldl_now {α : Type} {f : Strand → α → Strand} (hf : ∀ e a, (f e a).now = e.now) (l : List α) (d : Strand) :
    (l.foldl f d).now = d.now := by
  induction l generalizing d with
  | nil => rfl
  | cons a l ih => exact (ih (f d a)).trans (hf d a)

theorem stallOutput_now (o : OutId) : (stallOutput d o).now = d.now := by
  have hq (l : List Nat) (e : Strand) : (l.foldl stallQueue e).now = e.now :=
    foldl_now (f := stallQueue) (fun _ _ => rfl) l e
  unfold stallOutput
  dsimp only
  split_ifs
  · rfl
  · unfold Strand.raiseIf
    split
    · exact (Strand.raise_now _ _ _).trans (hq _ _)
    · exact hq _ _

theorem unstallOutput_now (o : OutId) : (unstallOutput d o).now = d.now := by
  unfold unstallOutput
  dsimp only
  split_ifs
  · refine (foldl_now (fun e q => ?_) _ _).trans ?_ <;> rfl
  · rfl

theorem refreshOutputs_now : (refreshOutputs d).now = d.now := by
  unfold refreshOutputs
  split_ifs
  · refine foldl_now (fun e c => ?_) _ _
    split_ifs
    exacts [stallOutput_now e c.out, unstallOutput_now e c.out]
  · rfl

theorem loseLanes_now : (loseLanes d n).now = d.now := by
  refine (refreshOutputs_now _).trans (foldl_now (fun e k => ?_) _ _)
  dsimp only
  split_ifs <;> rfl

theorem poolLinks_now (c : Nat) : (poolLinks d n c).now = d.now := by
  induction n generalizing d c with
  | zero => rfl
  | succ n ih => exact (ih _ _).trans rfl

theorem setFree_now (q head : Nat) : (d.setFree q head n).now = d.now := by
  unfold Strand.setFree
  dsimp only
  split_ifs <;> rfl

theorem poolInit_now (base : Nat) : (poolInit d base n).now = d.now :=
  (setFree_now _ _ _ _).trans (poolLinks_now _ _ _)

theorem loseQueues_now : (loseQueues d).now = d.now := by
  unfold loseQueues
  dsimp only
  split_ifs
  · exact (refreshOutputs_now _).trans (poolInit_now _ _ _)
  · rfl

theorem toutEnd_now : (toutEnd d n).now = d.now := by
  unfold toutEnd
  split_ifs <;> rfl

theorem assertOut_now (t : Nat) : (assertOut d n t).now = d.now := by
  unfold assertOut
  dsimp only
  split_ifs
  exacts [rfl, toutEnd_now d n, toutEnd_now d n, rfl, rfl]

theorem hitchAssert_now (t : Nat) : (hitchAssert n d t).now = d.now := by
  unfold hitchAssert
  dsimp only
  split_ifs
  exacts [assertOut_now d n t, rfl]

theorem toutSettle_now : (toutSettle d n).now = d.now := by
  unfold toutSettle
  dsimp only
  split_ifs
  · rfl
  · exact foldl_now (fun e t => hitchAssert_now e n t) _ _

theorem toutsSettle_now : (toutsSettle d).now = d.now := by
  unfold toutsSettle
  exact foldl_now toutSettle_now _ _

theorem outputsOff_now : (outputsOff d).now = d.now := by
  unfold outputsOff
  refine (foldl_now (fun e n => ?_) _ _).trans (toutsSettle_now d)
  rw [toutEnd_now]
  rfl

theorem loseDomain_now : (loseDomain d n).now = d.now := by
  unfold loseDomain
  split_ifs
  · exact loseLanes_now d n
  · rfl
  · rfl
  · exact loseQueues_now d
  · rw [outputsOff_now]
  · rfl

theorem domainOff_now (st : Nat) : (domainOff d n st).now = d.now := by
  unfold domainOff
  rw [loseDomain_now]
  rfl

theorem allDomainsOff_now : (allDomainsOff d).now = d.now := by
  unfold allDomainsOff
  exact foldl_now (fun e n => domainOff_now e n 0) _ _

theorem applyPatches_now (g : Pkg) : (applyPatches g d).now = d.now := by
  unfold applyPatches
  refine foldl_now (fun e k => ?_) _ _
  split
  · rfl
  · split_ifs
    · rfl
    · exact raiseOnce_now _ _ _

theorem strandCold_now (g : Pkg) (keep : Bool) : (strandCold g keep d).now = 0 := by
  unfold strandCold
  rw [applyPatches_now]
  cases keep <;> rfl

theorem coldWithoutXin_now : (coldWithoutXin d).now = d.now := by
  unfold coldWithoutXin
  rw [Strand.raise_now, allDomainsOff_now, Strand.put_now]

end

/-- Time counts anew in every strand of a part that starts cold. -/
theorem coldStart_now (s : State) (straps : Straps) (keep : Bool) (k : StrandId) :
    ((coldStart s straps keep).strand k).now = 0 := by
  unfold coldStart
  cases k <;> dsimp only [State.strand] <;> split_ifs
  all_goals simp only [coldWithoutXin_now, strandCold_now]

end Sys2Proof.Machine

/-! ### The obligation -/

namespace Sys2Proof.Machine

section

variable {s : State}

theorem pwrEnFallOp_of_pulse {ns : Nat} (h : ns < 10000) : pwrEnFallOp s ns = s := if_pos h

theorem pwrEnFallOp_of_fall {ns : Nat} (h : 10000 ≤ ns) : pwrEnFallOp s ns =
    { coldStart s s.pkg.straps false with
      pkg := { (coldStart s s.pkg.straps false).pkg with pwrEn := false, porN := false } } := if_neg (by omega)

theorem testEnOp_same : testEnOp s s.pkg.testEn = s := if_pos rfl

theorem testEnOp_high (h : s.pkg.testEn = false) : testEnOp s true =
    coldStart { s with pkg := { s.pkg with testEn := true } } s.pkg.straps (s.pkg.powered && s.pkg.pwrEn) := by
  rw [testEnOp, if_neg (by simp [h]), if_pos rfl]

/-- The strands as the fall of TEST_EN finds them: FAULT_FIRST is again what the rise put away, so that the device reset
keeps it. -/
def testEnStrands (s : State) : State := s.mapStrands fun d => d.put 0x2800 0x01 (d.get 0x2800 0x03)

theorem testEnOp_low_of_hold (h : s.pkg.testEn = true)
    (hoff : s.pkg.powered = false ∨ s.pkg.pwrEn = false ∨ s.pkg.porN = false) :
    testEnOp s false = { s with pkg := { s.pkg with testEn := false } } := by
  rw [testEnOp, if_neg (by simp [h]), if_neg Bool.false_ne_true]
  refine if_pos ?_
  rcases hoff with hoff | hoff | hoff <;> simp [Pkg.inHold, hoff]

theorem testEnOp_low_of_start (h : s.pkg.testEn = true) (hp : s.pkg.powered = true) (he : s.pkg.pwrEn = true)
    (hr : s.pkg.porN = true) : testEnOp s false =
      coldStart (testEnStrands { s with pkg := { s.pkg with testEn := false } }) s.pkg.straps true := by
  rw [testEnOp, if_neg (by simp [h]), if_neg Bool.false_ne_true]
  exact if_neg (by simp [Pkg.inHold, hp, he, hr])

theorem porReleaseOp_of_start (straps : Straps) (hp : s.pkg.powered = true) (he : s.pkg.pwrEn = true)
    (ht : s.pkg.testEn = false) : porReleaseOp s straps =
      coldStart { s with pkg := { s.pkg with porN := true } } straps (s.pkg.porN && s.pkg.powered && s.pkg.pwrEn) :=
  if_pos ⟨hp, he, ht⟩

theorem porReleaseOp_of_held (straps : Straps)
    (h : s.pkg.powered = false ∨ s.pkg.pwrEn = false ∨ s.pkg.testEn = true) :
    porReleaseOp s straps = { s with pkg := { s.pkg with porN := true } } := by
  refine if_neg ?_
  rintro ⟨hp, he, ht⟩
  simp_all

theorem jtagOn_iff (g : Pkg) :
    jtagOn g = true ↔ g.powered = true ∧ g.pwrEn = true ∧ g.testEn = false ∧ g.domain 0x43 = 2 := by
  simp [jtagOn, and_assoc]

theorem jtagOp_on (h : jtagOn s.pkg = true) (f : Pkg → Pkg) : jtagOp s f = { s with pkg := f s.pkg } := if_pos h

theorem jtagOp_off (h : ¬jtagOn s.pkg = true) (f : Pkg → Pkg) : jtagOp s f = s := if_neg h

end

/-- Settles O60: a device reset keeps the OTP (`otpKept_coldStart`) and counts time anew (`coldStart_now`); each pin and
each JTAG instruction by the branch that its conditions name. -/
theorem pinsAndJtag : Obligations.PinsAndJtag := by
  unfold Obligations.PinsAndJtag
  refine ⟨fun s straps ns ok => ?_, fun s pins preload => ?_⟩
  · intro off started
    refine ⟨?_, fun hns => ?_, fun ht => ?_, fun ht hp he hr => ?_, fun ht hoff => ?_, fun hns => ?_, fun he => ?_,
      fun he => ?_, fun hp he ht => ?_, fun hoff => ?_, ?_⟩
    · have hotp := otpKept_regulatorOffOp s
      exact ⟨_, rfl, ⟨rfl, hotp.key, hotp.patches⟩, rfl⟩
    · exact ⟨_, congrArg Host.Outcome.next (pwrEnFallOp_of_fall hns), ⟨by simp [Pkg.inHold], rfl, rfl⟩, rfl, rfl⟩
    · refine ⟨_, congrArg Host.Outcome.next (testEnOp_high ht), ⟨?_, rfl, rfl⟩, rfl⟩
      simp [Pkg.inHold, coldStart, pkgCold, Pkg.put]
    · refine ⟨_, congrArg Host.Outcome.next (testEnOp_low_of_start ht hp he hr), rfl, ?_, rfl⟩
      simp [Pkg.inHold, coldStart, pkgCold, Pkg.put, testEnStrands, State.mapStrands, State.reset, he, hr]
    · exact congrArg _ (testEnOp_low_of_hold ht hoff)
    · exact congrArg _ (pwrEnFallOp_of_pulse hns)
    · exact congrArg _ (if_neg (by simp [he]))
    · exact congrArg _ (if_pos he)
    · have hnow := coldStart_now { s with pkg := { s.pkg with porN := true } } straps
        (s.pkg.porN && s.pkg.powered && s.pkg.pwrEn)
      exact ⟨_, congrArg Host.Outcome.next (porReleaseOp_of_start straps hp he ht),
        ⟨rfl, rfl, hnow .s0, hnow .s1, hnow .s2, hnow .s3⟩, rfl⟩
    · exact congrArg _ (porReleaseOp_of_held straps hoff)
    · exact congrArg _ testEnOp_same
  · intro on code sets
    refine ⟨fun hon => ?_, fun hoff => ?_⟩
    · have h := jtagOp_on ((jtagOn_iff s.pkg).mpr hon)
      exact ⟨congrArg _ (h _), congrArg _ (h _), congrArg _ (h _), congrArg _ (h _)⟩
    · have h := jtagOp_off fun h => hoff ((jtagOn_iff s.pkg).mp h)
      exact ⟨congrArg _ (h _), congrArg _ (h _), congrArg _ (h _), congrArg _ (h _)⟩

end Sys2Proof.Machine
